-- ==== Sys2Proof/Word.lean ====
section
/-! DEFINITION. The words that the site link and the vehicle data link carry, and the byte order of chapter 12.6. -/

namespace Sys2Proof

/-- One byte of a frame (12.1: 8 data bits). -/
abbrev Byte := BitVec 8

/-- A two-byte field of a frame. -/
abbrev Word16 := BitVec 16

/-- A four-byte field of a frame. -/
abbrev Word32 := BitVec 32

end Sys2Proof
end

