-- ==== Sys2Proof/Syntax.lean ====
section
/-! DEFINITION. The commands of the JF440: one constructor for each row of spec/opcode_table.json.
A request carries its sender, its tag and its payload fields at the widths of 12.6.9. An event of the field
lines, of the vehicle links or of a timer carries the object it reaches. -/

namespace Sys2Proof

/-- R178, 12.6.1: a complete request frame, as the receiver has assembled it after the start byte.
The length field is the length of the payload. -/
structure RawFrame where
  address : Byte
  tag     : Byte
  code    : Byte
  payload : List Byte
  crc     : Word16
deriving DecidableEq, Repr

/-- R180: who sent a request (0 is the station computer, 1 to 4 are terminals) and the tag it chose. -/
structure Header where
  sender : Fin 5
  tag    : Byte
deriving DecidableEq, Repr

/-- R173: the ten switch lines. -/
inductive SwitchLine where
  | holster (position : Fin 4)
  | coupling (position : Fin 4)
  | metrology
  | chillerFault
deriving DecidableEq, Repr

/-- The levels standing on the field lines, which restart takes (R40, R86, R173, R174).
A contact is true when closed, the chiller fault line and the ESD line when active. -/
structure FieldLines where
  holster      : Vector Bool 4
  coupling     : Vector Bool 4
  metrology    : Bool
  chillerFault : Bool
  esd          : Bool
  meterA       : Vector Bool 4
  meterB       : Vector Bool 4
deriving DecidableEq, Repr

/-- What a restart finds: the seconds that passed with main power off, through which the site clock has run on (R185; 0 for
the reset pin), and the levels that stand on the field lines. -/
structure RestartInputs where
  secondsOff : Word32
  lines      : FieldLines
deriving DecidableEq, Repr

/-- R181, 12.6.9: the WRITE_SITE payload. -/
structure SiteLayout where
  authWindow      : Word16
  minAuthAmount   : Word32
  pulseOpening    : Word16
  pulseTime       : Word16
  ventTime        : Byte
  coolWaitTime    : Word16
  leakTolerance   : Byte
  worstAmbient    : Word16
  maxFillH70      : Byte
  maxFillH35      : Byte
  openDiff        : Word16
  floorH70        : Word16
  floorH35        : Word16
  supplyMin       : Word16
  supplyHyst      : Word16
  dischargeLimit  : Word16
  limitG1         : Word16
  limitG2         : Word16
  limitG3         : Word16
  approach        : Word16
  slotCount       : Byte
  fallbackWindow  : Byte
  eventMask       : Word32
deriving DecidableEq, Repr

/-- 12.6.9: the WRITE_POSITION payload. -/
structure PositionLayout where
  position        : Byte
  inService       : Byte
  nozzleClass     : Byte
  cooling         : Byte
  authMode        : Byte
  pDisp           : Byte
  tGas            : Byte
  dispositions    : Byte
  clearMode       : Byte
  resumeDelay     : Byte
  maxHold         : Word16
  holsterDebounce : Byte
  couplingDebounce : Byte
deriving DecidableEq, Repr

/-- 12.6.9: the WRITE_PROFILE payload. -/
structure ProfileLayout where
  index       : Byte
  inUse       : Byte
  nozzleClass : Byte
  grade       : Byte
  commMode    : Byte
  ambientLow  : Word16
  ambientHigh : Word16
  volumeLow   : Word16
  volumeHigh  : Word16
  rampRate    : Word16
  endPressure : Word16
  tankLimit   : Word16
  taperSoc    : Word16
  endSoc      : Word16
  variant     : Byte
  leakTolerance : Byte
  switchDiff  : Word16
  gain        : Byte
  reserved    : Byte
deriving DecidableEq, Repr

/-- 12.6.9: the WRITE_BANK payload. -/
structure BankLayout where
  bank         : Byte
  inService    : Byte
  serves       : Byte
  rated        : Word16
  volume       : Word16
  refillTarget : Word16
  refillStart  : Word16
  pChannel     : Byte
  tChannel     : Byte
deriving DecidableEq, Repr

/-- 12.6.9: the WRITE_CHANNEL payload. -/
structure ChannelLayout where
  channel   : Byte
  user      : Byte
  kind      : Byte
  source    : Byte
  windowMin : Word16
  windowMax : Word16
  grace     : Word16
deriving DecidableEq, Repr

/-- 12.6.9: the WRITE_ACCOUNT payload. -/
structure AccountLayout where
  number     : Word32
  kind       : Byte
  status     : Byte
  permission : Byte
  presence   : Byte
  perFillMax : Word32
  tag        : Vector Byte 8
  money      : Word32
deriving DecidableEq, Repr

/-- 12.6.3: the AUTHORIZE payload. -/
structure AuthorizeLayout where
  ticket       : Word16
  presence     : Byte
  account      : Word32
  presetMass   : Word32
  presetAmount : Word32
deriving DecidableEq, Repr

/-- The commands, in the order of spec/opcode_table.json. -/
inductive Instr where
  | restart (found : RestartInputs)
  | requestFrame (frame : RawFrame)
  | frameGapTimeout
  | unknownRequest (h : Header) (code : Byte)
  | writeSite (h : Header) (fields : SiteLayout)
  | writePosition (h : Header) (fields : PositionLayout)
  | writeProfile (h : Header) (fields : ProfileLayout)
  | writeBank (h : Header) (fields : BankLayout)
  | writeChannel (h : Header) (fields : ChannelLayout)
  | writeTerminal (h : Header) (address positions : Byte)
  | commission (h : Header)
  | decommission (h : Header)
  | factoryClear (h : Header)
  | setClock (h : Header) (value : Word32)
  | siteClockTick
  | openTicket (h : Header) (position : Byte)
  | authorize (h : Header) (fields : AuthorizeLayout)
  | authWindowExpiry (ticket : Word16)
  | cancelTicket (h : Header) (ticket : Word16)
  | settleTicket (h : Header) (ticket : Word16)
  | readTicket (h : Header) (ticket : Word16)
  | listTickets (h : Header) (filter : Byte)
  | writeAccount (h : Header) (fields : AccountLayout)
  | creditAccount (h : Header) (number amount : Word32)
  | closeAccount (h : Header) (number : Word32)
  | readAccount (h : Header) (number : Word32)
  | setPrice (h : Header) (nozzleClass : Byte) (value : Word32)
  | writeMetrology (h : Header) (position : Byte) (weight : Word16)
  | readMetrology (h : Header)
  | holdPosition (h : Header) (position : Byte)
  | resumePosition (h : Header) (position : Byte)
  | stopPosition (h : Header) (position : Byte)
  | suspendRefill (h : Header)
  | resumeRefill (h : Header)
  | isolateBank (h : Header) (bank : Byte)
  | returnBank (h : Header) (bank : Byte)
  | chillerOn (h : Header)
  | chillerOff (h : Header)
  | clearEsd (h : Header)
  | readPosition (h : Header) (position : Byte)
  | readBank (h : Header) (bank : Byte)
  | readCompressor (h : Header)
  | readPrecool (h : Header)
  | readChannel (h : Header) (channel : Byte)
  | readEvents (h : Header)
  | sampleArrival (source : Byte) (value : Word16)
  | graceTimerExpiry (channel : Fin 32)
  | switchRawChange (line : SwitchLine) (level : Bool)
  | debounceExpiry (line : SwitchLine)
  | esdLineChange (active : Bool)
  | meterLineChange (position : Fin 4) (a b : Bool)
  | vehicleFrameArrival (position : Fin 4) (frame : Vector Byte 16)
  | freshnessExpiry (position : Fin 4)
  | pulseTimeEnd (position : Fin 4)
  | settleTimeEnd (position : Fin 4)
  | leakCheckTimeEnd (position : Fin 4)
  | coolWaitExpiry (position : Fin 4)
  | controlStep (position : Fin 4)
  | ventTimeEnd (position : Fin 4)
  | resumeDelayExpiry (position : Fin 4)
  | holdSecondElapsed (position : Fin 4)
  | holdTotalExpiry (position : Fin 4)
  | fallbackExpiry (position : Fin 4)
  | startTimeEnd
  | unloadedTimeEnd
  | lockoutTimeEnd
  | creditReturn
  | receivedByte (value : Byte) (stopOk : Bool)
deriving DecidableEq, Repr

end Sys2Proof
end

