-- ==== Sys2Proof/Decode.lean ====
section
/-! DEFINITION. The formats of 12.6: numbers as bytes, the request catalogue of 12.6.3, the payload layouts of 12.6.9,
what request a checked frame spells, and the frame that spells a request. The opcode table gives no row any bits, so
no table word spells a command. -/

namespace Sys2Proof

/-- The command that a word spells by the bits of spec/opcode_table.json: the table gives no row any bits. -/
def decodeTableWord (_nbits _w : Nat) : Option Instr := none

/-! ### Numbers in a payload (12.6: most significant byte first) -/

/-- The byte at an offset. -/
def u8 (p : List Byte) (i : Nat) : Byte := p.getD i 0

/-- The two-byte number at an offset. -/
def u16 (p : List Byte) (i : Nat) : Word16 := u8 p i ++ u8 p (i + 1)

/-- The four-byte number at an offset. -/
def u32 (p : List Byte) (i : Nat) : Word32 := u16 p i ++ u16 p (i + 2)

/-- The eight characters at an offset. -/
def tagAt (p : List Byte) (i : Nat) : Vector Byte 8 :=
  #v[u8 p i, u8 p (i + 1), u8 p (i + 2), u8 p (i + 3), u8 p (i + 4), u8 p (i + 5), u8 p (i + 6), u8 p (i + 7)]

/-- The bytes of a two-byte number. -/
def bytes16 (x : Word16) : List Byte := [x.extractLsb' 8 8, x.extractLsb' 0 8]

/-- The bytes of a four-byte number. -/
def bytes32 (x : Word32) : List Byte := bytes16 (x.extractLsb' 16 16) ++ bytes16 (x.extractLsb' 0 16)

/-- The bytes of a tag. -/
def tagBytes (t : Vector Byte 8) : List Byte := t.toArray.toList

/-! ### The payload layouts of 12.6.9 -/

/-- R181: the fields of a payload laid out as SiteLayout. -/
def SiteLayout.ofBytes (p : List Byte) : SiteLayout where
  authWindow := u16 p 0
  minAuthAmount := u32 p 2
  pulseOpening := u16 p 6
  pulseTime := u16 p 8
  ventTime := u8 p 10
  coolWaitTime := u16 p 11
  leakTolerance := u8 p 13
  worstAmbient := u16 p 14
  maxFillH70 := u8 p 16
  maxFillH35 := u8 p 17
  openDiff := u16 p 18
  floorH70 := u16 p 20
  floorH35 := u16 p 22
  supplyMin := u16 p 24
  supplyHyst := u16 p 26
  dischargeLimit := u16 p 28
  limitG1 := u16 p 30
  limitG2 := u16 p 32
  limitG3 := u16 p 34
  approach := u16 p 36
  slotCount := u8 p 38
  fallbackWindow := u8 p 39
  eventMask := u32 p 40

/-- R181: the 44 payload bytes of SiteLayout. -/
def SiteLayout.bytes (f : SiteLayout) : List Byte :=
  bytes16 f.authWindow ++ bytes32 f.minAuthAmount ++ bytes16 f.pulseOpening ++ bytes16 f.pulseTime ++ [f.ventTime] ++
  bytes16 f.coolWaitTime ++ [f.leakTolerance] ++ bytes16 f.worstAmbient ++ [f.maxFillH70] ++ [f.maxFillH35] ++
  bytes16 f.openDiff ++ bytes16 f.floorH70 ++ bytes16 f.floorH35 ++ bytes16 f.supplyMin ++ bytes16 f.supplyHyst ++
  bytes16 f.dischargeLimit ++ bytes16 f.limitG1 ++ bytes16 f.limitG2 ++ bytes16 f.limitG3 ++ bytes16 f.approach ++
  [f.slotCount] ++ [f.fallbackWindow] ++ bytes32 f.eventMask

/-- 12.6.9: the fields of a payload laid out as PositionLayout. -/
def PositionLayout.ofBytes (p : List Byte) : PositionLayout where
  position := u8 p 0
  inService := u8 p 1
  nozzleClass := u8 p 2
  cooling := u8 p 3
  authMode := u8 p 4
  pDisp := u8 p 5
  tGas := u8 p 6
  dispositions := u8 p 7
  clearMode := u8 p 8
  resumeDelay := u8 p 9
  maxHold := u16 p 10
  holsterDebounce := u8 p 12
  couplingDebounce := u8 p 13

/-- 12.6.9: the 14 payload bytes of PositionLayout. -/
def PositionLayout.bytes (f : PositionLayout) : List Byte :=
  [f.position] ++ [f.inService] ++ [f.nozzleClass] ++ [f.cooling] ++ [f.authMode] ++ [f.pDisp] ++ [f.tGas] ++
  [f.dispositions] ++ [f.clearMode] ++ [f.resumeDelay] ++ bytes16 f.maxHold ++ [f.holsterDebounce] ++
  [f.couplingDebounce]

/-- 12.6.9: the fields of a payload laid out as ProfileLayout. -/
def ProfileLayout.ofBytes (p : List Byte) : ProfileLayout where
  index := u8 p 0
  inUse := u8 p 1
  nozzleClass := u8 p 2
  grade := u8 p 3
  commMode := u8 p 4
  ambientLow := u16 p 5
  ambientHigh := u16 p 7
  volumeLow := u16 p 9
  volumeHigh := u16 p 11
  rampRate := u16 p 13
  endPressure := u16 p 15
  tankLimit := u16 p 17
  taperSoc := u16 p 19
  endSoc := u16 p 21
  variant := u8 p 23
  leakTolerance := u8 p 24
  switchDiff := u16 p 25
  gain := u8 p 27
  reserved := u8 p 28

/-- 12.6.9: the 29 payload bytes of ProfileLayout. -/
def ProfileLayout.bytes (f : ProfileLayout) : List Byte :=
  [f.index] ++ [f.inUse] ++ [f.nozzleClass] ++ [f.grade] ++ [f.commMode] ++ bytes16 f.ambientLow ++
  bytes16 f.ambientHigh ++ bytes16 f.volumeLow ++ bytes16 f.volumeHigh ++ bytes16 f.rampRate ++
  bytes16 f.endPressure ++ bytes16 f.tankLimit ++ bytes16 f.taperSoc ++ bytes16 f.endSoc ++ [f.variant] ++
  [f.leakTolerance] ++ bytes16 f.switchDiff ++ [f.gain] ++ [f.reserved]

/-- 12.6.9: the fields of a payload laid out as BankLayout. -/
def BankLayout.ofBytes (p : List Byte) : BankLayout where
  bank := u8 p 0
  inService := u8 p 1
  serves := u8 p 2
  rated := u16 p 3
  volume := u16 p 5
  refillTarget := u16 p 7
  refillStart := u16 p 9
  pChannel := u8 p 11
  tChannel := u8 p 12

/-- 12.6.9: the 13 payload bytes of BankLayout. -/
def BankLayout.bytes (f : BankLayout) : List Byte :=
  [f.bank] ++ [f.inService] ++ [f.serves] ++ bytes16 f.rated ++ bytes16 f.volume ++ bytes16 f.refillTarget ++
  bytes16 f.refillStart ++ [f.pChannel] ++ [f.tChannel]

/-- 12.6.9: the fields of a payload laid out as ChannelLayout. -/
def ChannelLayout.ofBytes (p : List Byte) : ChannelLayout where
  channel := u8 p 0
  user := u8 p 1
  kind := u8 p 2
  source := u8 p 3
  windowMin := u16 p 4
  windowMax := u16 p 6
  grace := u16 p 8

/-- 12.6.9: the 10 payload bytes of ChannelLayout. -/
def ChannelLayout.bytes (f : ChannelLayout) : List Byte :=
  [f.channel] ++ [f.user] ++ [f.kind] ++ [f.source] ++ bytes16 f.windowMin ++ bytes16 f.windowMax ++
  bytes16 f.grace

/-- 12.6.9: the fields of a payload laid out as AccountLayout. -/
def AccountLayout.ofBytes (p : List Byte) : AccountLayout where
  number := u32 p 0
  kind := u8 p 4
  status := u8 p 5
  permission := u8 p 6
  presence := u8 p 7
  perFillMax := u32 p 8
  tag := tagAt p 12
  money := u32 p 20

/-- 12.6.9: the 24 payload bytes of AccountLayout. -/
def AccountLayout.bytes (f : AccountLayout) : List Byte :=
  bytes32 f.number ++ [f.kind] ++ [f.status] ++ [f.permission] ++ [f.presence] ++ bytes32 f.perFillMax ++
  tagBytes f.tag ++ bytes32 f.money

/-- 12.6.3: the fields of a payload laid out as AuthorizeLayout. -/
def AuthorizeLayout.ofBytes (p : List Byte) : AuthorizeLayout where
  ticket := u16 p 0
  presence := u8 p 2
  account := u32 p 3
  presetMass := u32 p 7
  presetAmount := u32 p 11

/-- 12.6.3: the 15 payload bytes of AuthorizeLayout. -/
def AuthorizeLayout.bytes (f : AuthorizeLayout) : List Byte :=
  bytes16 f.ticket ++ [f.presence] ++ bytes32 f.account ++ bytes32 f.presetMass ++ bytes32 f.presetAmount

/-! ### The request catalogue of 12.6.3 -/

/-- 12.6.3: the payload length of a request code, absent for a code that is not in the catalogue. -/
def requestLength (code : Byte) : Option Nat :=
  match code.toNat with
  | 0x10 => some 44
  | 0x11 => some 14
  | 0x12 => some 29
  | 0x13 => some 13
  | 0x14 => some 10
  | 0x15 => some 2
  | 0x16 => some 0
  | 0x17 => some 0
  | 0x18 => some 0
  | 0x19 => some 4
  | 0x20 => some 1
  | 0x21 => some 15
  | 0x22 => some 2
  | 0x23 => some 2
  | 0x24 => some 2
  | 0x25 => some 1
  | 0x30 => some 24
  | 0x31 => some 8
  | 0x32 => some 4
  | 0x33 => some 4
  | 0x34 => some 5
  | 0x35 => some 3
  | 0x36 => some 0
  | 0x40 => some 1
  | 0x41 => some 1
  | 0x42 => some 1
  | 0x43 => some 0
  | 0x44 => some 0
  | 0x45 => some 1
  | 0x46 => some 1
  | 0x47 => some 0
  | 0x48 => some 0
  | 0x49 => some 0
  | 0x50 => some 1
  | 0x51 => some 1
  | 0x52 => some 0
  | 0x53 => some 0
  | 0x54 => some 1
  | 0x55 => some 0
  | _ => none

/-- 12.6.3, 12.6.9: the request that a checked frame spells. A code outside the catalogue spells UNKNOWN_REQUEST (R179). -/
def requestOf (sender : Fin 5) (tag code : Byte) (p : List Byte) : Instr :=
  let h : Header := ⟨sender, tag⟩
  match code.toNat with
  | 0x10 => .writeSite h (SiteLayout.ofBytes p)
  | 0x11 => .writePosition h (PositionLayout.ofBytes p)
  | 0x12 => .writeProfile h (ProfileLayout.ofBytes p)
  | 0x13 => .writeBank h (BankLayout.ofBytes p)
  | 0x14 => .writeChannel h (ChannelLayout.ofBytes p)
  | 0x15 => .writeTerminal h (u8 p 0) (u8 p 1)
  | 0x16 => .commission h
  | 0x17 => .decommission h
  | 0x18 => .factoryClear h
  | 0x19 => .setClock h (u32 p 0)
  | 0x20 => .openTicket h (u8 p 0)
  | 0x21 => .authorize h (AuthorizeLayout.ofBytes p)
  | 0x22 => .cancelTicket h (u16 p 0)
  | 0x23 => .settleTicket h (u16 p 0)
  | 0x24 => .readTicket h (u16 p 0)
  | 0x25 => .listTickets h (u8 p 0)
  | 0x30 => .writeAccount h (AccountLayout.ofBytes p)
  | 0x31 => .creditAccount h (u32 p 0) (u32 p 4)
  | 0x32 => .closeAccount h (u32 p 0)
  | 0x33 => .readAccount h (u32 p 0)
  | 0x34 => .setPrice h (u8 p 0) (u32 p 1)
  | 0x35 => .writeMetrology h (u8 p 0) (u16 p 1)
  | 0x36 => .readMetrology h
  | 0x40 => .holdPosition h (u8 p 0)
  | 0x41 => .resumePosition h (u8 p 0)
  | 0x42 => .stopPosition h (u8 p 0)
  | 0x43 => .suspendRefill h
  | 0x44 => .resumeRefill h
  | 0x45 => .isolateBank h (u8 p 0)
  | 0x46 => .returnBank h (u8 p 0)
  | 0x47 => .chillerOn h
  | 0x48 => .chillerOff h
  | 0x49 => .clearEsd h
  | 0x50 => .readPosition h (u8 p 0)
  | 0x51 => .readBank h (u8 p 0)
  | 0x52 => .readCompressor h
  | 0x53 => .readPrecool h
  | 0x54 => .readChannel h (u8 p 0)
  | 0x55 => .readEvents h
  | _ => .unknownRequest h code

/-- 12.6.1, 12.6.3, 12.6.9: the header, code and payload of the frame that spells a request; absent for a command that is no
request. -/
def encode (c : Instr) : Option (Header × Byte × List Byte) :=
  match c with
  | .restart _ => none
  | .requestFrame _ => none
  | .frameGapTimeout => none
  | .unknownRequest h code => some (h, code, [])
  | .writeSite h f => some (h, 0x10, f.bytes)
  | .writePosition h f => some (h, 0x11, f.bytes)
  | .writeProfile h f => some (h, 0x12, f.bytes)
  | .writeBank h f => some (h, 0x13, f.bytes)
  | .writeChannel h f => some (h, 0x14, f.bytes)
  | .writeTerminal h x y => some (h, 0x15, [x] ++ [y])
  | .commission h => some (h, 0x16, [])
  | .decommission h => some (h, 0x17, [])
  | .factoryClear h => some (h, 0x18, [])
  | .setClock h x => some (h, 0x19, bytes32 x)
  | .siteClockTick => none
  | .openTicket h x => some (h, 0x20, [x])
  | .authorize h f => some (h, 0x21, f.bytes)
  | .authWindowExpiry _ => none
  | .cancelTicket h x => some (h, 0x22, bytes16 x)
  | .settleTicket h x => some (h, 0x23, bytes16 x)
  | .readTicket h x => some (h, 0x24, bytes16 x)
  | .listTickets h x => some (h, 0x25, [x])
  | .writeAccount h f => some (h, 0x30, f.bytes)
  | .creditAccount h x y => some (h, 0x31, bytes32 x ++ bytes32 y)
  | .closeAccount h x => some (h, 0x32, bytes32 x)
  | .readAccount h x => some (h, 0x33, bytes32 x)
  | .setPrice h x y => some (h, 0x34, [x] ++ bytes32 y)
  | .writeMetrology h x y => some (h, 0x35, [x] ++ bytes16 y)
  | .readMetrology h => some (h, 0x36, [])
  | .holdPosition h x => some (h, 0x40, [x])
  | .resumePosition h x => some (h, 0x41, [x])
  | .stopPosition h x => some (h, 0x42, [x])
  | .suspendRefill h => some (h, 0x43, [])
  | .resumeRefill h => some (h, 0x44, [])
  | .isolateBank h x => some (h, 0x45, [x])
  | .returnBank h x => some (h, 0x46, [x])
  | .chillerOn h => some (h, 0x47, [])
  | .chillerOff h => some (h, 0x48, [])
  | .clearEsd h => some (h, 0x49, [])
  | .readPosition h x => some (h, 0x50, [x])
  | .readBank h x => some (h, 0x51, [x])
  | .readCompressor h => some (h, 0x52, [])
  | .readPrecool h => some (h, 0x53, [])
  | .readChannel h x => some (h, 0x54, [x])
  | .readEvents h => some (h, 0x55, [])
  | .sampleArrival _ _ => none
  | .graceTimerExpiry _ => none
  | .switchRawChange _ _ => none
  | .debounceExpiry _ => none
  | .esdLineChange _ => none
  | .meterLineChange _ _ _ => none
  | .vehicleFrameArrival _ _ => none
  | .freshnessExpiry _ => none
  | .pulseTimeEnd _ => none
  | .settleTimeEnd _ => none
  | .leakCheckTimeEnd _ => none
  | .coolWaitExpiry _ => none
  | .controlStep _ => none
  | .ventTimeEnd _ => none
  | .resumeDelayExpiry _ => none
  | .holdSecondElapsed _ => none
  | .holdTotalExpiry _ => none
  | .fallbackExpiry _ => none
  | .startTimeEnd => none
  | .unloadedTimeEnd => none
  | .lockoutTimeEnd => none
  | .creditReturn => none
  | .receivedByte _ _ => none

end Sys2Proof
end

