-- ==== Sys2Proof/Config.lean ====
section
/-! DEFINITION. The numbers that the manual fixes for every JF440: times, sizes and arithmetic constants.
The manual leaves no result open, so there is no free value here (notes/assumptions/22.md says which
unreachable corners the definitions fill). -/

namespace Sys2Proof.Config

/-- R44: the settle time, ms. -/
def settleTime : Nat := 2000
/-- R44: the leak-check time, ms. -/
def leakCheckTime : Nat := 5000
/-- R76: the control step period, ms. -/
def stepTime : Nat := 250
/-- R97: the freshness time, ms. -/
def freshnessTime : Nat := 1000
/-- R138: the compressor start time, ms. -/
def startTime : Nat := 5000
/-- R138: the unloaded time, ms. -/
def unloadedTime : Nat := 30000
/-- R138: the lockout time, ms. -/
def lockoutTime : Nat := 300000
/-- R138: the credit return time, ms. -/
def creditReturnTime : Nat := 600000
/-- R147: the start credits. -/
def startCredits : Nat := 6
/-- R173: the debounce time of the metrology switch and of the chiller fault line, ms. -/
def cabinetDebounce : Nat := 160
/-- R178: the first whole millisecond at which a gap between two bytes exceeds 5 ms. -/
def frameGap : Nat := 6
/-- R178: the largest payload length. -/
def maxPayload : Nat := 512
/-- R179: the frames that the input frame buffer holds. -/
def bufferFrames : Nat := 2

/-- 1.6: the pressure range, 0.01 MPa. -/
def maxPressure : Nat := 10000
/-- 1.6: the temperature range, 0.1 K. -/
def minTemperature : Nat := 2000
/-- 1.6: the temperature range, 0.1 K. -/
def maxTemperature : Nat := 3730
/-- 1.6: the largest mass (mg) and the largest amount. -/
def max32 : Nat := 4294967295
/-- R63, R92, R170, R178: the saturation point of the 16-bit counts. -/
def max16 : Nat := 65535
/-- R53: a P_init below this is TANK_UNSAFE. -/
def minTankPressure : Nat := 50
/-- R28: a usable inventory below this is NO_STOCK, g. -/
def minStock : Nat := 500
/-- R132: a bank temperature above this isolates the bank. -/
def maxBankTemperature : Nat := 3580
/-- R84: the pressure correction of the effective temperature, per thousand. -/
def effectiveFactor : Nat := 177
/-- R126: the gas constant of hydrogen in the units of the inventory formula. -/
def gasConstant : Nat := 4124
/-- R78: the largest valve step, permille. -/
def maxValveStep : Int := 40

end Sys2Proof.Config
end

