-- ==== Sys2Proof/Machine/State.lean ====
section
/-! DEFINITION. The state of the JF440: its retained memory, the runtime state of its nine blocks, and the queue of
commands that wait. Plain data throughout. What the spec gives twice and binds together is held once
(notes/assumptions/16.md): draw sets, refill statuses, grams and output lines are views in Machine/Ops.lean and
Machine/Outputs.lean. -/

namespace Sys2Proof.Machine

/-! ### Names the records use -/

/-- 1.9: the nozzle classes. -/
inductive NozzleClass where
  | h70 | h35
deriving DecidableEq, Repr

/-- 1.9: the precool grades; g1 is the coldest, g0 is no cooling. -/
inductive Grade where
  | g0 | g1 | g2 | g3
deriving DecidableEq, Repr

/-- R2, R70: whether a fill uses tank data. -/
inductive CommMode where
  | comm | noncomm
deriving DecidableEq, Repr

/-- R54: whether the start sequence checks for a leak. -/
inductive StartVariant where
  | pulseCheck | pulseOnly
deriving DecidableEq, Repr

/-- R43: who may authorize at a position. -/
inductive AuthMode where
  | autonomous | supervised
deriving DecidableEq, Repr

/-- R43, R115: the way a position leaves HELD. -/
inductive ClearMode where
  | manual | timed | timedDemand
deriving DecidableEq, Repr

/-- R43, R106: what a factor does to a fill. -/
inductive Disposition where
  | holdFill | endFill
deriving DecidableEq, Repr

/-- R106: the hold factors, in factor order. -/
inductive Factor where
  | vehicleHalt | supervisor | bankLow | precool | sensor | meter
deriving DecidableEq, Repr

/-- R12, 12.6.4: the end reasons, in the order of their codes. -/
inductive EndReason where
  | authExpired | restart | powerFail | decommissioned | decoupled | supervisorStop | esd | noSupply
  | tankUnsafe | leak | tagMismatch | tagUnverified | classMismatch | noProfile | noCooling | startFull
  | endPressure | endSoc | tankHot | presetMass | presetAmount | fillTime | linkLost | vehicleAbort
  | sensorFail | bankLow | precool | sensor | meter | holdExpired
deriving DecidableEq, Repr

/-- 2.2: the ticket states. -/
inductive TicketState where
  | opened | authorized | fuelling | ended
deriving DecidableEq, Repr

/-- R4: the slot that refers to a ticket. -/
inductive Attachment where
  | active | staged | detached
deriving DecidableEq, Repr

/-- 12.6.2: the results of a request, in the order of their codes. -/
inductive Result where
  | ok | okReduced | refusedState | notFound | tableFull | badValue
  | locked | notPermitted | notCommissioned | insufficient | noStock | unknownRequest
deriving DecidableEq, Repr

/-- 12.6.7: the event flags. -/
inductive EventFlag where
  | fillEnded (p : Fin 4) | held (p : Fin 4) | authExpired (p : Fin 4) | linkStalled (p : Fin 4)
  | bankIsolated | compressorLockout | noStartCredit | supplyLow | precoolFault | gradeFallback
  | channelFailed | esd | tradeLockOpen | accountOverdrawn | restart
deriving DecidableEq, Repr

/-- A set of positions (draw sets, holders, permission sets), with one membership bit for each position. -/
structure PosSet where
  p0 : Bool
  p1 : Bool
  p2 : Bool
  p3 : Bool
deriving DecidableEq, Repr

/-- The empty set of positions. -/
def PosSet.empty : PosSet := ⟨false, false, false, false⟩

/-! ### Retained memory: configuration -/

/-- R181: the site record. Times are in the units of R44, R8, R69 and R153. -/
structure SiteRecord where
  authWindow     : Nat
  minAuthAmount  : Nat
  pulseOpening   : Nat
  pulseTime      : Nat
  ventTime       : Nat
  coolWaitTime   : Nat
  leakTolerance  : Nat
  worstAmbient   : Nat
  maxFillH70     : Nat
  maxFillH35     : Nat
  openDiff       : Nat
  floorH70       : Nat
  floorH35       : Nat
  supplyMin      : Nat
  supplyHyst     : Nat
  dischargeLimit : Nat
  limitG1        : Nat
  limitG2        : Nat
  limitG3        : Nat
  approach       : Nat
  slotCount      : Nat
  fallbackWindow : Nat
  eventMask      : BitVec 27
deriving DecidableEq, Repr

/-- R44, R69, R123, R138, R153, R181: the defaults of the site record. -/
def SiteRecord.factory : SiteRecord where
  authWindow := 120
  minAuthAmount := 500
  pulseOpening := 200
  pulseTime := 1000
  ventTime := 3
  coolWaitTime := 120
  leakTolerance := 50
  worstAmbient := 3232
  maxFillH70 := 5
  maxFillH35 := 20
  openDiff := 300
  floorH70 := 7000
  floorH35 := 3800
  supplyMin := 200
  supplyHyst := 50
  dischargeLimit := 3630
  limitG1 := 2331
  limitG2 := 2532
  limitG3 := 2732
  approach := 50
  slotCount := 2
  fallbackWindow := 10
  eventMask := BitVec.allOnes 27

/-- R43: a position configuration record. Debounce times are in ms, the resume delay and the hold total in s. -/
structure PositionConfig where
  inService        : Bool
  nozzleClass      : NozzleClass
  cooling          : Bool
  authMode         : AuthMode
  pDisp            : Option (Fin 32)
  tGas             : Option (Fin 32)
  bankLow          : Disposition
  precool          : Disposition
  sensor           : Disposition
  meter            : Disposition
  clearMode        : ClearMode
  resumeDelay      : Nat
  maxHold          : Nat
  holsterDebounce  : Nat
  couplingDebounce : Nat
deriving DecidableEq, Repr

/-- R43: the defaults of a position record. -/
def PositionConfig.factory : PositionConfig where
  inService := false
  nozzleClass := .h70
  cooling := false
  authMode := .autonomous
  pDisp := none
  tGas := none
  bankLow := .holdFill
  precool := .holdFill
  sensor := .holdFill
  meter := .holdFill
  clearMode := .manual
  resumeDelay := 5
  maxHold := 180
  holsterDebounce := 160
  couplingDebounce := 80

/-- R67: the fields that only a COMM entry holds. -/
structure CommFields where
  volumeLow  : Nat
  volumeHigh : Nat
  tankLimit  : Nat
  endSoc     : Nat
deriving DecidableEq, Repr

/-- R67: a fill profile entry in use. `comm` is present exactly in a COMM entry. -/
structure FillProfile where
  nozzleClass   : NozzleClass
  grade         : Grade
  comm          : Option CommFields
  ambientLow    : Nat
  ambientHigh   : Nat
  rampRate      : Nat
  endPressure   : Nat
  taperSoc      : Nat
  variant       : StartVariant
  leakTolerance : Nat
  switchDiff    : Nat
  gain          : Nat
deriving DecidableEq, Repr

/-- R121: the configuration fields of a bank. -/
structure BankConfig where
  inService    : Bool
  servesH70    : Bool
  servesH35    : Bool
  rated        : Nat
  volume       : Nat
  refillTarget : Nat
  refillStart  : Nat
  pChannel     : Option (Fin 32)
  tChannel     : Option (Fin 32)
deriving DecidableEq, Repr

/-- R122: a bank entry after FACTORY_CLEAR. -/
def BankConfig.factory : BankConfig where
  inService := false
  servesH70 := true
  servesH35 := true
  rated := 9500
  volume := 50
  refillTarget := 9000
  refillStart := 8000
  pChannel := none
  tChannel := none

/-- R167: the roles that a channel may serve. -/
inductive Role where
  | pDisp (p : Fin 4) | tGas (p : Fin 4) | bankP (b : Fin 6) | bankT (b : Fin 6)
  | supply | discharge | coolant | ambient
deriving DecidableEq, Repr

/-- R167: the kinds of a channel. -/
inductive ChannelKind where
  | pressure | temperature
deriving DecidableEq, Repr

/-- R167: the configuration fields of a channel. -/
structure ChannelConfig where
  user      : Option Role
  kind      : ChannelKind
  source    : Nat
  windowMin : Nat
  windowMax : Nat
  grace     : Nat
deriving DecidableEq, Repr

/-- R167: a channel entry after FACTORY_CLEAR. -/
def ChannelConfig.factory : ChannelConfig where
  user := none
  kind := .pressure
  source := 0
  windowMin := 0
  windowMax := 10000
  grace := 2000

/-! ### Retained memory: trade -/

/-- R91: eight printable characters. -/
abbrev Tag := Vector Byte 8

/-- R23: the money fields, by the kind of the account. -/
inductive Money where
  | prepaid (balance : Int)
  | credit (limit spent : Nat)
deriving DecidableEq, Repr

/-- R23: the account status. -/
inductive AccountStatus where
  | active | blocked | overdrawn
deriving DecidableEq, Repr

/-- R23: an account record. -/
structure Account where
  number      : Nat
  status      : AccountStatus
  money       : Money
  held        : Nat
  permitsH70  : Bool
  permitsH35  : Bool
  perFillMax  : Option Nat
  tag         : Option Tag
deriving DecidableEq, Repr

/-- R2: a ticket record. `grams` is a view of `mass`. `window` is the authorization window of R8 in ms, which is
runtime state (R1). -/
structure Ticket where
  number       : Nat
  state        : TicketState
  position     : Fin 4
  attachment   : Attachment
  opener       : Fin 5
  nozzleClass  : NozzleClass
  authorizer   : Option AuthMode
  account      : Option Nat
  presetMass   : Option Nat
  presetAmount : Option Nat
  hold         : Option Nat
  reduced      : Bool
  price        : Option Nat
  expectedTag  : Option Tag
  metrologyCount : Option Nat
  profile      : Option (Fin 16)
  grade        : Option Grade
  commMode     : Option CommMode
  mass         : Nat
  amount       : Nat
  pInit        : Option Nat
  finalPressure : Option Nat
  lastSoc      : Option Nat
  peakTGas     : Option Nat
  startTime    : Option Word32
  endTime      : Option Word32
  holdUsed     : Nat
  endReason    : Option EndReason
  window       : Option Nat
deriving DecidableEq, Repr

/-! ### Runtime state of a position -/

/-- R45: the start substates. -/
inductive Substate where
  | pulse | settle | leakCheck | coolWait
deriving DecidableEq, Repr

/-- R106: the release condition of a held position. -/
inductive Release where
  | factorWait | delay | demandWait
deriving DecidableEq, Repr

/-- R45, R106: the position states. The start substate stands in STARTING only and the release condition in HELD
only, as the rules have them. -/
inductive PosState where
  | closed | idle | calling
  | starting (sub : Substate)
  | fuelling
  | held (release : Release)
  | ending | ended
deriving DecidableEq, Repr

/-- R71: the ramp context. `error` is the error e of the last control step of the fill (R83, 12.6.10). -/
structure RampContext where
  profile   : Option (Fin 16)
  base      : Nat
  time      : Nat
  rate      : Nat
  taper     : Bool
  target    : Option Nat
  error     : Int
  starved   : Nat
  lagging   : Nat
  stepTimer : Option Nat
deriving DecidableEq, Repr

/-- R71: the cleared ramp context. -/
def RampContext.cleared : RampContext where
  profile := none
  base := 0
  time := 0
  rate := 10
  taper := false
  target := none
  error := 0
  starved := 0
  lagging := 0
  stepTimer := none

/-- R106: the set of active factors. -/
structure FactorSet where
  vehicleHalt : Bool
  supervisor  : Bool
  bankLow     : Bool
  precool     : Bool
  sensor      : Bool
  meter       : Bool
deriving DecidableEq, Repr

/-- R106: no active factor. -/
def FactorSet.empty : FactorSet := ⟨false, false, false, false, false, false⟩

/-- R93: the link states. -/
inductive LinkState where
  | off | listen | stream | stalled | lost
deriving DecidableEq, Repr

/-- R91: the vehicle commands. -/
inductive VehicleCommand where
  | run | halt | abort
deriving DecidableEq, Repr

/-- R93: the link context of a position. -/
structure LinkContext where
  state        : LinkState
  vehicleClass : Option NozzleClass
  volume       : Option Nat
  tag          : Option Tag
  tankPressure : Option Nat
  tankTemperature : Option Nat
  lastBit      : Option Bool
  expectedBit  : Option Bool
  lastCommand  : Option VehicleCommand
  freshness    : Option Nat
  rejected     : Nat
  repeated     : Nat
  ignored      : Nat
deriving DecidableEq, Repr

/-- R93: the link context at restart, at DECOMMISSION and at entry into OFF. -/
def LinkContext.off : LinkContext where
  state := .off
  vehicleClass := none
  volume := none
  tag := none
  tankPressure := none
  tankTemperature := none
  lastBit := none
  expectedBit := none
  lastCommand := none
  freshness := none
  rejected := 0
  repeated := 0
  ignored := 0

/-- R45: the runtime state of one position. Timers are the ms left, absent when stopped. `meterA` and `meterB` are
the reference line state of R86. -/
structure Position where
  state         : PosState
  valve         : Nat
  drawBank      : Option (Fin 6)
  pInit         : Option Nat
  variant       : Option StartVariant
  leakTolerance : Option Nat
  coolWaitTimer : Option Nat
  coolWaitExpired : Bool
  substateTimer : Option Nat
  fillTime      : Nat
  ramp          : RampContext
  meterA        : Bool
  meterB        : Bool
  quarter       : Int
  phaseFaults   : Nat
  stray         : Nat
  factors       : FactorSet
  resumeTimer   : Option Nat
  holdTime      : Nat
  link          : LinkContext
  active        : Option Nat
  staged        : Option Nat
deriving DecidableEq, Repr

/-- R45: the restart values of a position whose meter lines stand at `a`, `b` (R86). -/
def Position.atRestart (a b : Bool) : Position where
  state := .closed
  valve := 0
  drawBank := none
  pInit := none
  variant := none
  leakTolerance := none
  coolWaitTimer := none
  coolWaitExpired := false
  substateTimer := none
  fillTime := 0
  ramp := .cleared
  meterA := a
  meterB := b
  quarter := 0
  phaseFaults := 0
  stray := 0
  factors := .empty
  resumeTimer := none
  holdTime := 0
  link := .off
  active := none
  staged := none

/-! ### Runtime state of the plant -/

/-- R121: the runtime fields of a bank that CAS keeps. The draw set and the refill status are views. -/
structure Bank where
  p         : Nat
  t         : Nat
  inventory : Nat
  isolated  : Bool
deriving DecidableEq, Repr

/-- R124: a bank's runtime fields at restart. -/
def Bank.atRestart : Bank := ⟨0, 0, 0, false⟩

/-- R121: the refill status of a bank. -/
inductive RefillStatus where
  | none | queued | active
deriving DecidableEq, Repr

/-- R137: the compressor states. -/
inductive CompressorState where
  | stopped | starting | running | unloaded | suspended | lockout
deriving DecidableEq, Repr

/-- R148: the supply cause. -/
inductive SupplyCause where
  | clear | below | noValue
deriving DecidableEq, Repr

/-- R137: the state of the Compressor Controller. `returns` holds the ms left to each credit return, earliest
first. -/
structure Compressor where
  state      : CompressorState
  activeBank : Option (Fin 6)
  queue      : List (Fin 6)
  timer      : Option Nat
  credits    : Nat
  returns    : List Nat
  creditWait : Bool
  supply     : SupplyCause
  esdCause   : Bool
deriving DecidableEq, Repr

/-- R137: the Compressor Controller at restart, with the ESD latch as restart leaves it. -/
def Compressor.atRestart (latch : Bool) : Compressor where
  state := .stopped
  activeBank := none
  queue := []
  timer := none
  credits := Config.startCredits
  returns := []
  creditWait := false
  supply := .noValue
  esdCause := latch

/-- R154: the chiller states. -/
inductive ChillerState where
  | off | pulldown | ready | fault
deriving DecidableEq, Repr

/-- R154: the state of the Precool Controller. -/
structure Precool where
  chiller      : ChillerState
  faultLine    : Bool
  coolantCause : Bool
  coolantSeen  : Bool
  offered      : Grade
  holders      : PosSet
  waitQueue    : List (Fin 4)
  grades       : Vector (Option Grade) 4
  fallback     : Vector (Option Nat) 4
deriving DecidableEq, Repr

/-- R154: the Precool Controller at restart, with the chiller fault line at its level. -/
def Precool.atRestart (line : Bool) : Precool where
  chiller := .off
  faultLine := line
  coolantCause := false
  coolantSeen := false
  offered := .g0
  holders := .empty
  waitQueue := []
  grades := Vector.replicate 4 none
  fallback := Vector.replicate 4 none

/-- R167: the channel states. -/
inductive ChannelState where
  | ok | held | failed
deriving DecidableEq, Repr

/-- R167: the runtime fields of a channel. -/
structure Channel where
  state : ChannelState
  value : Nat
  taken : Bool
  grace : Option Nat
deriving DecidableEq, Repr

/-- R169: a channel's runtime fields at restart. -/
def Channel.atRestart : Channel := ⟨.failed, 0, false, none⟩

/-- R173: the debouncer of one switch line. -/
structure Debouncer where
  level : Bool
  raw   : Bool
  timer : Option Nat
deriving DecidableEq, Repr

/-- R173: a debouncer at restart. -/
def Debouncer.atRestart (raw : Bool) : Debouncer := ⟨raw, raw, none⟩

/-- R173: the ten debouncers. -/
structure Debouncers where
  holster      : Vector Debouncer 4
  coupling     : Vector Debouncer 4
  metrology    : Debouncer
  chillerFault : Debouncer
deriving DecidableEq, Repr

/-- R178: the receiver. Hunting, `inRun` says that the byte before was dropped. Assembling, `bytes` are the bytes
after the start byte, and `gap` is the ms left until the gap exceeds 5 ms. -/
inductive Receiver where
  | hunting (inRun : Bool)
  | assembling (bytes : List Byte) (gap : Nat)
deriving DecidableEq, Repr

/-- R179: a frame that has passed the checks of R178. -/
structure Frame where
  sender  : Fin 5
  tag     : Byte
  code    : Byte
  payload : List Byte
deriving DecidableEq, Repr

/-- 12.1: a reply, before it is laid out as a frame. -/
structure Reply where
  sender  : Fin 5
  tag     : Byte
  code    : Byte
  result  : Result
  payload : List Byte
deriving DecidableEq, Repr

/-! ### The machine -/

/-- The state of the JF440. The first group is retained memory (R186); the rest is runtime state, then the model's
own fields. -/
structure State where
  /-- R181. -/
  site          : SiteRecord
  /-- R43. -/
  positionConfig : Vector PositionConfig 4
  /-- R67: absent where the entry is not in use. -/
  profiles      : Vector (Option FillProfile) 16
  /-- R121. -/
  bankConfig    : Vector BankConfig 6
  /-- R167. -/
  channelConfig : Vector ChannelConfig 32
  /-- R180: the permission sets of terminals 1 to 4. -/
  terminals     : Vector PosSet 4
  /-- R22: absent where the entry is free. -/
  accounts      : Vector (Option Account) 64
  /-- R37. -/
  priceH70      : Option Nat
  priceH35      : Option Nat
  /-- R38. -/
  pulseWeights  : Vector Nat 4
  /-- R38: the metrology event counter. -/
  metrologyCount : Nat
  /-- R1: absent where the slot is free. -/
  tickets       : Vector (Option Ticket) 32
  /-- R3. -/
  ticketCounter : Nat
  /-- R185. -/
  clock         : Word32
  /-- 1.5: whether the site is commissioned. -/
  commissioned  : Bool
  /-- R45. -/
  positions     : Vector Position 4
  /-- R121. -/
  banks         : Vector Bank 6
  /-- R135. -/
  waiting       : PosSet
  /-- R137. -/
  compressor    : Compressor
  /-- R154. -/
  precool       : Precool
  /-- R40: the trade lock is OPEN. -/
  tradeLockOpen : Bool
  /-- R167. -/
  channels      : Vector Channel 32
  /-- R169. -/
  rejectedSamples : Nat
  /-- R173. -/
  debouncers    : Debouncers
  /-- R174: the ESD latch. -/
  esdLatch      : Bool
  /-- R174: the raw level of the ESD line, true when active. -/
  esdLine       : Bool
  /-- R187: the pending event flags, by the bits of 12.6.7. -/
  pendingFlags  : BitVec 27
  /-- R178. -/
  receiver      : Receiver
  /-- R179: the input frame buffer, head first. -/
  inputBuffer   : List Frame
  /-- R178. -/
  discardedFrames : Nat
  /-- R179. -/
  bufferOverruns : Nat
  /-- The model's own: the reply last sent on the site link (notes/assumptions/6.md). -/
  reply         : Option Reply
  /-- The model's own: the ms that have passed of the running second of the site clock (notes/assumptions/9.md). -/
  clockPhase    : Fin 1000
  /-- The model's own: the commands that wait, first in first out. -/
  pending       : List Instr
deriving DecidableEq, Repr

/-- Why a step stops the machine with a fault. No command of the JF440 does: every row of the table has an effect in
every state, so this type has no constructor (safe: a fault can only stop a run). -/
inductive Fault where
deriving DecidableEq, Repr

/-- Why a step refuses a command. -/
inductive Refusal where
  /-- Raised by an arm of exec whose command has no meaning yet. Safe: the run stops. No arm raises it. -/
  | notModelled (mnemonic : String)
deriving DecidableEq, Repr

/-- The levels that the model gives the field lines at power-on: nozzles holstered, nothing coupled, the sealing
closed, no chiller fault, no ESD, meters at (0, 0) (DESIGN CHOICE, notes/assumptions/8.md). -/
def quietLines : FieldLines where
  holster := Vector.replicate 4 true
  coupling := Vector.replicate 4 false
  metrology := true
  chillerFault := false
  esd := false
  meterA := Vector.replicate 4 false
  meterB := Vector.replicate 4 false

/-- The machine right after restart, with retained memory as FACTORY_CLEAR leaves it and the lines quiet
(notes/assumptions/8.md). -/
def State.reset : State where
  site := .factory
  positionConfig := Vector.replicate 4 .factory
  profiles := Vector.replicate 16 none
  bankConfig := Vector.replicate 6 .factory
  channelConfig := Vector.replicate 32 .factory
  terminals := Vector.replicate 4 .empty
  accounts := Vector.replicate 64 none
  priceH70 := none
  priceH35 := none
  pulseWeights := Vector.replicate 4 0
  metrologyCount := 0
  tickets := Vector.replicate 32 none
  ticketCounter := 0
  clock := 0
  commissioned := false
  positions := Vector.replicate 4 (.atRestart false false)
  banks := Vector.replicate 6 .atRestart
  waiting := .empty
  compressor := .atRestart false
  precool := .atRestart false
  tradeLockOpen := false
  channels := Vector.replicate 32 .atRestart
  rejectedSamples := 0
  debouncers :=
    { holster := Vector.replicate 4 (.atRestart true), coupling := Vector.replicate 4 (.atRestart false)
      metrology := .atRestart true, chillerFault := .atRestart false }
  esdLatch := false
  esdLine := false
  pendingFlags := 0x4000000#27
  receiver := .hunting false
  inputBuffer := []
  discardedFrames := 0
  bufferOverruns := 0
  reply := none
  clockPhase := 0
  pending := []

end Sys2Proof.Machine
end

