-- ==== Sys2Proof/Machine/Ops.lean ====
section
/-! DEFINITION. The named operations over the records: tables, sets, the roles of channels, tickets by number, the
billing formula, and the answer to a request. -/

namespace Sys2Proof.Machine

/-! ### Tables, sets and ranges -/

/-- A table with one entry replaced. -/
def setAt {α : Type} {n : Nat} (v : Vector α n) (i : Fin n) (a : α) : Vector α n := v.set i.val a i.isLt

/-- A table with one entry changed. -/
def modAt {α : Type} {n : Nat} (v : Vector α n) (i : Fin n) (f : α → α) : Vector α n := setAt v i (f (v.get i))

/-- A table with every entry changed. -/
def mapAll {α β : Type} {n : Nat} (f : α → β) (v : Vector α n) : Vector β n := ⟨⟨v.toArray.toList.map f⟩, by simp⟩

/-- The lowest index whose entry holds a record that satisfies `p`. -/
def findSlot {α : Type} {n : Nat} (v : Vector (Option α) n) (p : α → Bool) : Option (Fin n) :=
  (List.finRange n).find? fun i => (v.get i).any p

/-- The lowest free entry of a table. -/
def freeSlot {α : Type} {n : Nat} (v : Vector (Option α) n) : Option (Fin n) :=
  (List.finRange n).find? fun i => (v.get i).isNone

/-- 1.8: the positions, in ascending order. -/
def allPositions : List (Fin 4) := [0, 1, 2, 3]

/-- 1.8: the banks, in ascending order. -/
def allBanks : List (Fin 6) := [0, 1, 2, 3, 4, 5]

/-- 1.7 (4): clamp to a range. -/
def clampNat (lo hi x : Nat) : Nat := max lo (min hi x)

/-- 1.7 (4): clamp to a range of integers. -/
def clampInt (lo hi x : Int) : Int := max lo (min hi x)

/-- 1.7 (4): a sum that saturates. -/
def satAdd (limit x y : Nat) : Nat := min limit (x + y)

/-- A count raised by 1 that saturates at 65,535. -/
def bump16 (x : Nat) : Nat := satAdd Config.max16 x 1

/-- Membership in a set of positions. -/
def PosSet.has (s : PosSet) (p : Fin 4) : Bool :=
  match p with
  | 0 => s.p0
  | 1 => s.p1
  | 2 => s.p2
  | 3 => s.p3

/-- A set of positions with the membership of one position set. -/
def PosSet.put (s : PosSet) (p : Fin 4) (b : Bool) : PosSet :=
  match p with
  | 0 => { s with p0 := b }
  | 1 => { s with p1 := b }
  | 2 => { s with p2 := b }
  | 3 => { s with p3 := b }

/-- How many positions a set holds. -/
def PosSet.size (s : PosSet) : Nat := s.p0.toNat + s.p1.toNat + s.p2.toNat + s.p3.toNat

/-- 12.6.3: a position set as a byte, bit p for position p. -/
def PosSet.toByte (s : PosSet) : Byte :=
  BitVec.ofNat 8 (s.p0.toNat + 2 * s.p1.toNat + 4 * s.p2.toNat + 8 * s.p3.toNat)

/-- 12.6.3: the position set of a byte; bits 4 to 7 are not defined and not tested (12.6). -/
def PosSet.ofByte (b : Byte) : PosSet := ⟨b.getLsbD 0, b.getLsbD 1, b.getLsbD 2, b.getLsbD 3⟩

/-- R106: whether a factor is active. -/
def FactorSet.has (s : FactorSet) (f : Factor) : Bool :=
  match f with
  | .vehicleHalt => s.vehicleHalt
  | .supervisor => s.supervisor
  | .bankLow => s.bankLow
  | .precool => s.precool
  | .sensor => s.sensor
  | .meter => s.meter

/-- The factor set with one factor made active or inactive. -/
def FactorSet.put (s : FactorSet) (f : Factor) (b : Bool) : FactorSet :=
  match f with
  | .vehicleHalt => { s with vehicleHalt := b }
  | .supervisor => { s with supervisor := b }
  | .bankLow => { s with bankLow := b }
  | .precool => { s with precool := b }
  | .sensor => { s with sensor := b }
  | .meter => { s with meter := b }

/-- Whether no factor is active. -/
def FactorSet.isEmpty (s : FactorSet) : Bool :=
  !(s.vehicleHalt || s.supervisor || s.bankLow || s.precool || s.sensor || s.meter)

/-- R106: the factors in factor order. -/
def factorOrder : List Factor := [.vehicleHalt, .supervisor, .bankLow, .precool, .sensor, .meter]

/-! ### Records of the state -/

/-- The runtime state of a position. -/
def State.pos (s : State) (p : Fin 4) : Position := s.positions.get p

/-- Changes the runtime state of a position. -/
def State.modPos (s : State) (p : Fin 4) (f : Position → Position) : State :=
  { s with positions := modAt s.positions p f }

/-- The configuration of a position. -/
def State.cfg (s : State) (p : Fin 4) : PositionConfig := s.positionConfig.get p

/-- The runtime fields of a bank. -/
def State.bank (s : State) (b : Fin 6) : Bank := s.banks.get b

/-- Changes the runtime fields of a bank. -/
def State.modBank (s : State) (b : Fin 6) (f : Bank → Bank) : State := { s with banks := modAt s.banks b f }

/-- The configuration of a bank. -/
def State.bankCfg (s : State) (b : Fin 6) : BankConfig := s.bankConfig.get b

/-- The runtime fields of a channel. -/
def State.chan (s : State) (c : Fin 32) : Channel := s.channels.get c

/-- Replaces the runtime fields of a channel. -/
def State.setChan (s : State) (c : Fin 32) (x : Channel) : State := { s with channels := setAt s.channels c x }

/-- The configuration of a channel. -/
def State.chanCfg (s : State) (c : Fin 32) : ChannelConfig := s.channelConfig.get c

/-- Changes the Compressor Controller. -/
def State.modCmp (s : State) (f : Compressor → Compressor) : State := { s with compressor := f s.compressor }

/-- Changes the Precool Controller. -/
def State.modPcl (s : State) (f : Precool → Precool) : State := { s with precool := f s.precool }

/-- R135 (1): writes the membership of a position in the waiting set. -/
def State.setWaiting (s : State) (p : Fin 4) (b : Bool) : State := { s with waiting := s.waiting.put p b }

/-- R164: the grade of a position. -/
def State.grade (s : State) (p : Fin 4) : Option Grade := s.precool.grades.get p

/-- R164: writes the grade of a position. -/
def State.setGrade (s : State) (p : Fin 4) (g : Option Grade) : State :=
  s.modPcl fun q => { q with grades := setAt q.grades p g }

/-- R165: starts (with the ms left) or stops the fallback timer of a position. -/
def State.setFallback (s : State) (p : Fin 4) (t : Option Nat) : State :=
  s.modPcl fun q => { q with fallback := setAt q.fallback p t }

/-- R37: the price of a class. -/
def State.price (s : State) (c : NozzleClass) : Option Nat :=
  match c with
  | .h70 => s.priceH70
  | .h35 => s.priceH35

/-- R42, R45: whether a position is in STARTING, FUELLING or HELD, where the events that end a fill act (R60). -/
def PosState.filling (q : PosState) : Bool :=
  match q with
  | .starting _ | .fuelling | .held _ => true
  | .closed | .idle | .calling | .ending | .ended => false

/-- R5, R63: whether a position is in STARTING, FUELLING, HELD or ENDING, where its ticket is FUELLING. -/
def PosState.busy (q : PosState) : Bool := q.filling || q == .ending

/-- R46: whether a position may have its valve open and stands in a draw set. -/
def PosState.drawing (q : PosState) : Bool := q == .fuelling || q == .starting .pulse

/-- R113: whether a position is in HELD. -/
def PosState.isHeld (q : PosState) : Bool :=
  match q with
  | .held _ => true
  | .closed | .idle | .calling | .starting _ | .fuelling | .ending | .ended => false

/-- R50: whether a position is in STARTING. -/
def PosState.isStarting (q : PosState) : Bool :=
  match q with
  | .starting _ => true
  | .closed | .idle | .calling | .fuelling | .held _ | .ending | .ended => false

/-! ### Channels and roles -/

/-- R167: the channel that serves a role. -/
def State.roleChannel (s : State) (r : Role) : Option (Fin 32) :=
  (List.finRange 32).find? fun c => (s.chanCfg c).user == some r

/-- R170: the in-use channel that reads a source. -/
def State.sourceChannel (s : State) (source : Nat) : Option (Fin 32) :=
  (List.finRange 32).find? fun c => (s.chanCfg c).user.isSome && (s.chanCfg c).source == source

/-- The value of a named channel; a channel named none gives 0. -/
def State.namedValue (s : State) (c : Option (Fin 32)) : Nat :=
  match c with
  | some c => (s.chan c).value
  | none => 0

/-- The state of a named channel. -/
def State.namedState (s : State) (c : Option (Fin 32)) : Option ChannelState :=
  match c with
  | some c => some (s.chan c).state
  | none => none

/-- R122, R126: whether a named channel has taken a value since restart; none counts as no. -/
def State.namedTaken (s : State) (c : Option (Fin 32)) : Bool :=
  match c with
  | some c => (s.chan c).taken
  | none => false

/-- R128: the current P_disp value of a position. -/
def State.pDisp (s : State) (p : Fin 4) : Nat := s.namedValue (s.cfg p).pDisp

/-- R165: the last T_gas value of a position. -/
def State.tGas (s : State) (p : Fin 4) : Nat := s.namedValue (s.cfg p).tGas

/-- R182: whether a channel named by a record is configured for a role. -/
def State.configured (s : State) (c : Option (Fin 32)) (r : Role) : Bool :=
  match c with
  | some c => (s.chanCfg c).user == some r
  | none => false

/-- R69: the ambient that a lookup uses. -/
def State.ambient (s : State) : Nat :=
  match s.roleChannel .ambient with
  | some c => if (s.chan c).state == .failed then s.site.worstAmbient else (s.chan c).value
  | none => s.site.worstAmbient

/-- R153: the coolant value; absent while no channel has the coolant as its user. -/
def State.coolantValue (s : State) : Option Nat := (s.roleChannel .coolant).map fun c => (s.chan c).value

/-! ### Tickets by number -/

/-- R1: the slot of the ticket with a number. -/
def State.ticketSlot (s : State) (n : Nat) : Option (Fin 32) := findSlot s.tickets fun t => t.number == n

/-- R1: the ticket with a number. -/
def State.ticket (s : State) (n : Nat) : Option Ticket := (s.ticketSlot n).bind fun i => s.tickets.get i

/-- Changes the ticket with a number, where there is one. -/
def State.modTicket (s : State) (n : Nat) (f : Ticket → Ticket) : State :=
  match s.ticketSlot n with
  | some i => { s with tickets := modAt s.tickets i (Option.map f) }
  | none => s

/-- R16: retires the ticket with a number. -/
def State.retireTicket (s : State) (n : Nat) : State :=
  match s.ticketSlot n with
  | some i => { s with tickets := setAt s.tickets i none }
  | none => s

/-- R4: the ticket in the ACTIVE slot of a position. -/
def State.activeTicket (s : State) (p : Fin 4) : Option Ticket := (s.pos p).active.bind s.ticket

/-- R11: changes the ticket in the ACTIVE slot of a position. -/
def State.modActive (s : State) (p : Fin 4) (f : Ticket → Ticket) : State :=
  match (s.pos p).active with
  | some n => s.modTicket n f
  | none => s

/-- R2: the whole grams of a ticket. -/
def Ticket.grams (t : Ticket) : Nat := t.mass / 1000

/-- R89: the billing formula. -/
def billing (grams price : Nat) : Nat := min Config.max32 ((grams * price + 50000) / 100000)

/-- R11, R90: the amount of a ticket by its grams and its price snapshot. -/
def Ticket.billed (t : Ticket) : Nat := billing t.grams (t.price.getD 0)

/-- R88: a ticket with its mass changed and its amount recomputed. -/
def Ticket.withMass (t : Ticket) (mass : Nat) : Ticket :=
  let t := { t with mass := mass }
  { t with amount := t.billed }

/-- R9, R19, R20: a ticket ended without a fill. -/
def Ticket.endUnused (t : Ticket) (reason : EndReason) (clock : Word32) : Ticket :=
  { t with
    state := .ended
    endReason := some reason
    mass := 0
    amount := 0
    endTime := some clock
    attachment := .detached
    window := none }

/-! ### Accounts by number -/

/-- R22: the entry of the account with a number. -/
def State.accountSlot (s : State) (n : Nat) : Option (Fin 64) := findSlot s.accounts fun a => a.number == n

/-- R22: the account with a number. -/
def State.account (s : State) (n : Nat) : Option Account := (s.accountSlot n).bind fun i => s.accounts.get i

/-- Changes the account with a number, where there is one. -/
def State.modAccount (s : State) (n : Nat) (f : Account → Account) : State :=
  match s.accountSlot n with
  | some i => { s with accounts := modAt s.accounts i (Option.map f) }
  | none => s

/-- R23: whether an account permits a class. -/
def Account.permits (a : Account) (c : NozzleClass) : Bool :=
  match c with
  | .h70 => a.permitsH70
  | .h35 => a.permitsH35

/-- R24: the available money of an account. -/
def Account.available (a : Account) : Nat :=
  match a.money with
  | .prepaid balance => (balance - a.held).toNat
  | .credit limit spent => limit - spent - a.held

/-- R24: whether an account is in debt. -/
def Account.inDebt (a : Account) : Bool :=
  match a.money with
  | .prepaid balance => decide (balance < 0)
  | .credit limit spent => decide (limit < spent)

/-! ### Requests and their answers -/

/-- What carrying out a request gives: the state, the result and the payload of the reply. -/
structure Answer where
  state   : State
  result  : Result
  payload : List Byte

/-- R179 (4): a refused request changes nothing and has an empty payload. -/
def refuse (s : State) (r : Result) : Answer := ⟨s, r, []⟩

/-- A request answered OK with an empty payload. -/
def accept (s : State) : Answer := ⟨s, .ok, []⟩

/-- A request answered OK with a payload. -/
def acceptWith (s : State) (payload : List Byte) : Answer := ⟨s, .ok, payload⟩

/-- R179 (2): the request that the frame spells. -/
def Frame.request (f : Frame) : Instr := requestOf f.sender f.tag f.code f.payload

/-- R179 (2): takes the frame at the head of the input buffer when it spells this request. -/
def State.takeFrame (s : State) (c : Instr) : State :=
  match s.inputBuffer with
  | f :: rest => if f.request = c then { s with inputBuffer := rest } else s
  | [] => s

/-- R179 (2): carries out a request whole and sends its reply. -/
def answer (c : Instr) (h : Header) (code : Byte) (s : State) (body : State → Answer) :
    Host.Outcome State Fault Refusal :=
  let a := body (s.takeFrame c)
  .next { a.state with reply := some ⟨h.sender, h.tag, code, a.result, a.payload⟩ }

/-- A test of a request: when it fails, the request is refused with its result. -/
def require (test : Bool) (r : Result) (s : State) (k : Answer) : Answer := if test then k else refuse s r

/-- R180: whether the station computer sent the request. -/
def isStation (h : Header) : Bool := h.sender == 0

/-- R180 (1): a request of the station computer alone. -/
def stationOnly (h : Header) (s : State) (k : Answer) : Answer := require (isStation h) .notPermitted s k

/-- R180 (3): whether a sender may act on a position. -/
def State.permitted (s : State) (h : Header) (p : Fin 4) : Bool :=
  match h.sender with
  | 0 => true
  | 1 => (s.terminals.get 0).has p
  | 2 => (s.terminals.get 1).has p
  | 3 => (s.terminals.get 2).has p
  | 4 => (s.terminals.get 3).has p

/-- A position number in a request, 0 to 3. -/
def positionOf (b : Byte) : Option (Fin 4) := if h : b.toNat < 4 then some ⟨b.toNat, h⟩ else none

/-- A bank index in a request, 0 to 5. -/
def bankOf (b : Byte) : Option (Fin 6) := if h : b.toNat < 6 then some ⟨b.toNat, h⟩ else none

/-- A channel number in a request, 0 to 31. -/
def channelOf (b : Byte) : Option (Fin 32) := if h : b.toNat < 32 then some ⟨b.toNat, h⟩ else none

end Sys2Proof.Machine
end

