-- ==== Sys2Proof/Machine/Flags.lean ====
section
/-! DEFINITION. The event flags of chapter 12.3: their bits, raising and reading them, and the attention line. -/

namespace Sys2Proof.Machine

/-- 12.6.7: the bit of an event flag. -/
def EventFlag.bit (f : EventFlag) : Nat :=
  match f with
  | .fillEnded p => p.val
  | .held p => 4 + p.val
  | .authExpired p => 8 + p.val
  | .linkStalled p => 12 + p.val
  | .bankIsolated => 16
  | .compressorLockout => 17
  | .noStartCredit => 18
  | .supplyLow => 19
  | .precoolFault => 20
  | .gradeFallback => 21
  | .channelFailed => 22
  | .esd => 23
  | .tradeLockOpen => 24
  | .accountOverdrawn => 25
  | .restart => 26

/-- 12.6.7: the flag word with one flag set. -/
def EventFlag.word (f : EventFlag) : BitVec 27 := BitVec.ofNat 27 (2 ^ f.bit)

/-- R187 (1): raises a flag, which becomes or stays pending. -/
def State.raise (s : State) (f : EventFlag) : State := { s with pendingFlags := s.pendingFlags ||| f.word }

/-- R187: whether a flag is pending. -/
def State.flagPending (s : State) (f : EventFlag) : Bool := s.pendingFlags.getLsbD f.bit

/-- R187 (3): the attention line is active while an enabled flag is pending. -/
def State.attention (s : State) : Bool := s.pendingFlags &&& s.site.eventMask != 0

end Sys2Proof.Machine
end

