-- ==== Sys2Proof/Machine/Compressor.lean ====
section
/-! DEFINITION. The Compressor Controller: the refill queue, the choice of a bank, the start test and the credits,
suspension, the supply cause, the lockout and the ESD cause (R137 to R151). -/

namespace Sys2Proof.Machine

/-! ### Draw sets and refill statuses, as views -/

/-- R121: whether a position is in the draw set of a bank. -/
def State.inDrawSet (s : State) (b : Fin 6) (p : Fin 4) : Bool := (s.pos p).drawBank == some b

/-- R130: whether the draw set of a bank is empty. -/
def State.drawEmpty (s : State) (b : Fin 6) : Bool := allPositions.all fun p => !s.inDrawSet b p

/-- R121: the draw set of a bank. -/
def State.drawSet (s : State) (b : Fin 6) : PosSet :=
  ⟨s.inDrawSet b 0, s.inDrawSet b 1, s.inDrawSet b 2, s.inDrawSet b 3⟩

/-- R139: the refill status of a bank. -/
def State.refillStatus (s : State) (b : Fin 6) : RefillStatus :=
  if s.compressor.activeBank = some b then .active
  else if b ∈ s.compressor.queue then .queued
  else .none

/-! ### The choice of a bank -/

/-- R141: the bank that the choice takes, leaving out the bank that is being drawn (R145). -/
def State.choosable (s : State) (leave : Option (Fin 6)) : Option (Fin 6) :=
  s.compressor.queue.find? fun b => s.refillStatus b == .queued && s.drawEmpty b && leave != some b

/-- R141: a chosen bank becomes ACTIVE in RUNNING. -/
def State.refillBank (s : State) (b : Fin 6) : State :=
  s.modCmp fun c => { c with state := .running, activeBank := some b, timer := none }

/-- R143, R144 (1), R145: chooses the next bank, or enters UNLOADED when none is choosable. -/
def State.chooseNext (s : State) (leave : Option (Fin 6)) : State :=
  match s.choosable leave with
  | some b => s.refillBank b
  | none =>
    s.modCmp fun c => { c with state := .unloaded, activeBank := none, timer := some Config.unloadedTime }

/-- R144 (2): in UNLOADED, the choice on an event that may make a bank choosable. -/
def State.chooseUnloaded (s : State) : State :=
  match s.choosable none with
  | some b => s.refillBank b
  | none => s

/-! ### Starting -/

/-- R142: the conditions of the start test other than the credit. -/
def State.startReady (s : State) : Bool :=
  s.commissioned && (s.choosable none).isSome && s.compressor.supply == .clear && !s.compressor.esdCause

/-- R142, R147: a start spends a credit and enters STARTING. -/
def State.startMotor (s : State) : State :=
  s.modCmp fun c =>
    { c with
      state := .starting
      credits := c.credits - 1
      returns := c.returns ++ [Config.creditReturnTime]
      timer := some Config.startTime
      creditWait := false }

/-- R142: the test failed on the credits alone. -/
def State.waitForCredit (s : State) : State :=
  if s.compressor.creditWait then s
  else (s.modCmp fun c => { c with creditWait := true }).raise .noStartCredit

/-- R142: the start test, which only a STOPPED compressor makes. -/
def State.compressorStartTest (s : State) : State :=
  if s.compressor.state = .stopped then
    if s.startReady then
      if 0 < s.compressor.credits then s.startMotor else s.waitForCredit
    else s.modCmp fun c => { c with creditWait := false }
  else s

/-- R143, R144, R145: what an event that may make a bank choosable does, by the compressor state. -/
def State.bankMayBeChosen (s : State) : State :=
  match s.compressor.state with
  | .stopped => s.compressorStartTest
  | .unloaded => s.chooseUnloaded
  | .starting | .running | .suspended | .lockout => s

/-! ### The refill queue -/

/-- R139 (1): the queue with a bank at its place: descending rated pressure, after those of equal rating. -/
def insertQueue (rated : Fin 6 → Nat) (b : Fin 6) (queue : List (Fin 6)) : List (Fin 6) :=
  match queue with
  | [] => [b]
  | x :: rest => if rated x < rated b then b :: x :: rest else x :: insertQueue rated b rest

/-- R139 (2): adds a bank to the queue, QUEUED. -/
def State.enqueueBank (s : State) (b : Fin 6) : State :=
  s.modCmp fun c => { c with queue := insertQueue (fun x => (s.bankCfg x).rated) b c.queue }

/-- R139 (2): adds a bank and makes the test or the choice that follows. -/
def State.addBank (s : State) (b : Fin 6) : State := (s.enqueueBank b).bankMayBeChosen

/-- R140: a bank leaves the queue; when it was ACTIVE, the next bank is chosen. -/
def State.removeBank (s : State) (b : Fin 6) : State :=
  let left := s.modCmp fun c => { c with queue := c.queue.erase b }
  if s.compressor.activeBank = some b then
    (left.modCmp fun c => { c with activeBank := none }).chooseNext none
  else left

/-- R140 (1): a P value taken on a bank completes its refill at or above the target. -/
def State.refillProgress (s : State) (b : Fin 6) (p : Nat) : State :=
  if b ∈ s.compressor.queue ∧ (s.bankCfg b).refillTarget ≤ p then s.removeBank b else s

/-- R145: a draw selected on the ACTIVE bank turns it back to QUEUED and chooses another bank. -/
def State.suspendForDraw (s : State) (b : Fin 6) : State :=
  if s.compressor.activeBank = some b then
    (s.modCmp fun c => { c with activeBank := none }).chooseNext (some b)
  else s

/-- R130 (3), R145: the report of a draw set that has become empty. -/
def State.reportEmptyDraw (s : State) (b : Fin 6) : State :=
  if b ∈ s.compressor.queue then s.bankMayBeChosen else s

/-! ### Stops -/

/-- R137: whether the motor runs. -/
def CompressorState.motorOn (c : CompressorState) : Bool :=
  match c with
  | .starting | .running | .unloaded => true
  | .stopped | .suspended | .lockout => false

/-- R149, R151: a starting, running or unloaded compressor stops; an ACTIVE bank is QUEUED again in its place. -/
def State.stopMotor (s : State) : State :=
  if s.compressor.state.motorOn then
    s.modCmp fun c => { c with state := .stopped, activeBank := none, timer := none }
  else s

/-- R146: SUSPEND_REFILL in a state that it may leave. -/
def State.suspendMotor (s : State) : State :=
  s.modCmp fun c =>
    { c with state := .suspended, activeBank := none, timer := none, creditWait := false }

/-- R146, R150: entry into STOPPED with its start test. -/
def State.enterStopped (s : State) : State :=
  (s.modCmp fun c => { c with state := .stopped, timer := none }).compressorStartTest

/-- R137: what an accepted DECOMMISSION does to the Compressor Controller. -/
def State.decommissionCompressor (s : State) : State :=
  s.modCmp fun c =>
    { c with
      state := if c.state.motorOn then .stopped else c.state
      activeBank := none
      queue := []
      timer := if c.state = .lockout then c.timer else none
      creditWait := false }

/-! ### The supply cause -/

/-- R148 (2): the supply cause after a value. -/
def supplyAfter (cause : SupplyCause) (v low hyst : Nat) : SupplyCause :=
  if v < low then .below
  else
    match cause with
    | .clear => .clear
    | .noValue => .clear
    | .below => if v < low + hyst then .below else .clear

/-- R148 (2), (4), R149: a value taken on the supply channel. -/
def State.supplyTaken (s : State) (v : Nat) : State :=
  let old := s.compressor.supply
  let new := supplyAfter old v s.site.supplyMin s.site.supplyHyst
  if new = old then s
  else
    let s := s.modCmp fun c => { c with supply := new }
    if new = .clear then s.compressorStartTest
    else (s.raise .supplyLow).stopMotor

/-- R148 (1), (4), R149: the supply channel becomes FAILED. -/
def State.supplyFailed (s : State) : State :=
  if s.compressor.supply = .noValue then s
  else ((s.modCmp fun c => { c with supply := .noValue }).raise .supplyLow).stopMotor

/-! ### The discharge lockout -/

/-- R150 (1): entry into LOCKOUT. -/
def State.enterLockout (s : State) : State :=
  (s.modCmp fun c =>
    { c with
      state := .lockout
      activeBank := none
      creditWait := false
      timer := some Config.lockoutTime }).raise .compressorLockout

/-- R150 (1), (2), (4): a value taken on the discharge channel. -/
def State.dischargeTaken (s : State) (v : Nat) : State :=
  if s.site.dischargeLimit < v then
    match s.compressor.state with
    | .stopped | .starting | .running | .unloaded => s.enterLockout
    | .lockout => s.modCmp fun c => { c with timer := some Config.lockoutTime }
    | .suspended => s
  else s

/-- R150 (1), (4): the discharge channel becomes FAILED. -/
def State.dischargeFailed (s : State) : State :=
  match s.compressor.state with
  | .stopped | .starting | .running | .unloaded => s.enterLockout
  | .lockout | .suspended => s

/-- R150 (3): whether the end of the lockout time finds a reading that keeps the lockout. -/
def State.dischargeHot (s : State) : Bool :=
  match s.roleChannel .discharge with
  | none => false
  | some c =>
    (s.chan c).taken && ((s.chan c).state == .failed || decide (s.site.dischargeLimit < (s.chan c).value))

/-- R150 (3): the lockout time ends. -/
def State.endLockout (s : State) : State :=
  if s.dischargeHot then s.modCmp fun c => { c with timer := some Config.lockoutTime }
  else s.enterStopped

/-! ### The ESD cause and the credits -/

/-- R151 (1): the ESD latch sets. -/
def State.esdCauseSet (s : State) : State := (s.modCmp fun c => { c with esdCause := true }).stopMotor

/-- R151 (3): the ESD latch clears. -/
def State.esdCauseCleared (s : State) : State :=
  (s.modCmp fun c => { c with esdCause := false }).compressorStartTest

/-- R147 (2): the earliest return time is reached. -/
def State.returnCredit (s : State) : State :=
  (s.modCmp fun c => { c with credits := c.credits + 1, returns := c.returns.tail }).compressorStartTest

end Sys2Proof.Machine
end

