-- ==== Sys2Proof/Machine/Cascade.lean ====
section
/-! DEFINITION. The Cascade Manager's own operations: inventory, eligibility and selection, draw sets, queue entry
(R126 to R134). What they do to the positions stands in Machine/Fill.lean. -/

namespace Sys2Proof.Machine

/-! ### Inventory -/

/-- R84 (1), R126 (1): the effective temperature. -/
def effectiveTemperature (p t : Nat) : Nat := t + p * Config.effectiveFactor / 1000

/-- R126 (2): the mass of gas in a volume at a pressure and a temperature, g. -/
def gasMass (volume p t : Nat) : Nat :=
  volume * p * 100000 / (Config.gasConstant * effectiveTemperature p t)

/-- R126: whether both channels of a bank have taken a value since restart. -/
def State.bankMeasured (s : State) (b : Fin 6) : Bool :=
  s.namedTaken (s.bankCfg b).pChannel && s.namedTaken (s.bankCfg b).tChannel

/-- R126: recomputes the inventory of a bank. -/
def State.recomputeInventory (s : State) (b : Fin 6) : State :=
  s.modBank b fun x =>
    { x with inventory := if s.bankMeasured b then gasMass (s.bankCfg b).volume x.p x.t else 0 }

/-- R121: whether a bank serves a class. -/
def BankConfig.serves (c : BankConfig) (k : NozzleClass) : Bool :=
  match k with
  | .h70 => c.servesH70
  | .h35 => c.servesH35

/-- R123: the floor pressure of a class. -/
def SiteRecord.floorPressure (r : SiteRecord) (k : NozzleClass) : Nat :=
  match k with
  | .h70 => r.floorH70
  | .h35 => r.floorH35

/-- R127 (1) to (3): what a bank contributes to the usable inventory of a class. -/
def State.bankContribution (s : State) (k : NozzleClass) (b : Fin 6) : Nat :=
  let c := s.bankCfg b
  let x := s.bank b
  if c.inService && !x.isolated && c.serves k then
    x.inventory - gasMass c.volume (s.site.floorPressure k) x.t
  else 0

/-- R127: the usable inventory of a class, g. -/
def State.usableInventory (s : State) (k : NozzleClass) : Nat :=
  (allBanks.map (s.bankContribution k)).sum

/-! ### Eligibility and selection -/

/-- R128 (3), R134 (3): whether a bank's P channel has taken a value since restart and is not FAILED. -/
def State.bankPressureKnown (s : State) (b : Fin 6) : Bool :=
  s.namedTaken (s.bankCfg b).pChannel && s.namedState (s.bankCfg b).pChannel != some .failed

/-- R128: whether a bank is eligible for a position, with the bank it is leaving excluded. -/
def State.eligible (s : State) (p : Fin 4) (leaving : Option (Fin 6)) (b : Fin 6) : Bool :=
  (s.bankCfg b).inService && !(s.bank b).isolated && (s.bankCfg b).serves (s.cfg p).nozzleClass &&
  s.bankPressureKnown b && decide (s.pDisp p + s.site.openDiff ≤ (s.bank b).p) && leaving != some b

/-- R129 (1): a bank put into its place in ascending order of rated pressure, after those of equal rating. -/
def insertRated (rated : Fin 6 → Nat) (b : Fin 6) (banks : List (Fin 6)) : List (Fin 6) :=
  match banks with
  | [] => [b]
  | x :: rest => if rated b < rated x then b :: x :: rest else x :: insertRated rated b rest

/-- R129 (1): the banks in ascending order of rated pressure and then of index. -/
def State.banksByRating (s : State) : List (Fin 6) :=
  allBanks.foldl (fun l b => insertRated (fun x => (s.bankCfg x).rated) b l) []

/-- R129 (1): the banks eligible for a position, in the order of choice. -/
def State.eligibleBanks (s : State) (p : Fin 4) (leaving : Option (Fin 6)) : List (Fin 6) :=
  s.banksByRating.filter (s.eligible p leaving)

/-- R129 (2), (3), (5): the bank that a selection takes: the first eligible one that is not ACTIVE, else the ACTIVE one. -/
def State.selectedBank (s : State) (p : Fin 4) (leaving : Option (Fin 6)) : Option (Fin 6) :=
  let banks := s.eligibleBanks p leaving
  (banks.find? fun b => s.refillStatus b != .active).or banks.head?

/-- R129 (3), (4): a position joins the draw set of a bank; a refill of that bank is suspended first. -/
def State.joinBank (s : State) (p : Fin 4) (b : Fin 6) : State :=
  (s.suspendForDraw b).modPos p fun q => { q with drawBank := some b }

/-- R130 (1): a position leaves its draw set, without the report. -/
def State.leaveBank (s : State) (p : Fin 4) : State := s.modPos p fun q => { q with drawBank := none }

/-- R130 (3): reports the draw set of the bank that was left, when it is now empty. -/
def State.reportLeft (s : State) (b : Option (Fin 6)) : State :=
  match b with
  | some b => if s.drawEmpty b then s.reportEmptyDraw b else s
  | none => s

/-- R130: a position leaves its draw set, and an emptied set is reported. -/
def State.releaseDraw (s : State) (p : Fin 4) : State := (s.leaveBank p).reportLeft (s.pos p).drawBank

/-! ### Queue entry -/

/-- R134: whether a bank asks to be added to the refill queue. -/
def State.wantsRefill (s : State) (b : Fin 6) : Bool :=
  s.commissioned && (s.bankCfg b).inService && !(s.bank b).isolated && s.bankPressureKnown b &&
  decide ((s.bank b).p < (s.bankCfg b).refillStart) && s.refillStatus b == .none

/-- R134, R139: the queue entry test, with the test or the choice that an addition makes. -/
def State.queueEntryTest (s : State) (b : Fin 6) : State := if s.wantsRefill b then s.addBank b else s

/-- R134, R182: the queue entry test at COMMISSION, whose start test is made after every bank has been tested. -/
def State.queueEntryAtCommission (s : State) (b : Fin 6) : State :=
  if s.wantsRefill b then s.enqueueBank b else s

end Sys2Proof.Machine
end

