-- ==== Sys2Proof/Machine/Fill.lean ====
section
/-! DEFINITION. What a fill does at its position: the ends and holds of a fill, the hold factors, profile lookup, the
start sequence, slot grants, and the start test (R7 to R13, R50 to R60, R70 to R75, R106 to R116, R161 to R163).
An operation named `…Core` leaves the grants that a released slot calls for to `makeGrants`. -/

namespace Sys2Proof.Machine

/-! ### The ends of a fill -/

/-- R60, R163 (1): PCL's part of an entry into ENDING: the slot is released or the waiter withdraws, and the fallback
timer stops (R165). -/
def Precool.releasePosition (c : Precool) (p : Fin 4) : Precool :=
  { c with
    holders := c.holders.put p false
    waitQueue := c.waitQueue.erase p
    fallback := setAt c.fallback p none }

/-- R60, R106: the position's own part of an entry into ENDING. -/
def Position.toEnding (q : Position) (ventMs : Nat) : Position :=
  { q with
    state := .ending
    factors := .empty
    resumeTimer := none
    coolWaitTimer := none
    substateTimer := some ventMs
    ramp := { q.ramp with stepTimer := none } }

/-- R60: entry into ENDING from STARTING, FUELLING or HELD; a later cause changes nothing. -/
def State.enterEndingCore (s : State) (p : Fin 4) (reason : EndReason) : State :=
  if (s.pos p).state.filling then
    let s := s.modActive p fun t => { t with endReason := some reason }
    let s := (s.modPos p fun q => { q with valve := 0 }).releaseDraw p
    let s := s.modPcl fun c => c.releasePosition p
    let s := s.setWaiting p false
    s.modPos p fun q => q.toEnding (s.site.ventTime * 1000)
  else s

/-! ### Hold factors -/

/-- R106, R112: the end reason that a factor gives when its disposition is END; VEHICLE_HALT and SUPERVISOR always hold. -/
def PositionConfig.endedBy (c : PositionConfig) (f : Factor) : Option EndReason :=
  match f with
  | .vehicleHalt => none
  | .supervisor => none
  | .bankLow => if c.bankLow = .endFill then some .bankLow else none
  | .precool => if c.precool = .endFill then some .precool else none
  | .sensor => if c.sensor = .endFill then some .sensor else none
  | .meter => if c.meter = .endFill then some .meter else none

/-- Changes the factor set of a position. -/
def State.putFactor (s : State) (p : Fin 4) (f : Factor) (b : Bool) : State :=
  s.modPos p fun q => { q with factors := q.factors.put f b }

/-- R113: entry into HELD, from FUELLING or at the start lookup. -/
def State.enterHeld (s : State) (p : Fin 4) : State :=
  let s := (s.modPos p fun q => { q with valve := 0 }).releaseDraw p
  let s := s.setFallback p none
  let s := s.modPos p fun q =>
    { q with
      state := .held .factorWait
      substateTimer := none
      coolWaitTimer := none
      resumeTimer := none
      ramp := { q.ramp with stepTimer := none } }
  s.raise (.held p)

/-- R112: a factor becomes active. -/
def State.activateCore (s : State) (p : Fin 4) (f : Factor) : State :=
  if (s.pos p).factors.has f then s
  else
    match (s.pos p).state with
    | .starting _ => s.putFactor p f true
    | .fuelling =>
      match (s.cfg p).endedBy f with
      | some reason => s.enterEndingCore p reason
      | none => (s.putFactor p f true).enterHeld p
    | .held _ =>
      match (s.cfg p).endedBy f with
      | some reason => s.enterEndingCore p reason
      | none =>
        s.modPos p fun q =>
          { q with factors := q.factors.put f true, state := .held .factorWait, resumeTimer := none }
    | .closed | .idle | .calling | .ending | .ended => s

/-- R108, R135 (1): BANK_LOW becomes active; with disposition HOLD the position joins the waiting set. -/
def State.bankLowCore (s : State) (p : Fin 4) : State :=
  let s := s.activateCore p .bankLow
  if (s.pos p).factors.bankLow then s.setWaiting p true else s

/-- R115: the release condition when the last active factor has cleared, by the clear mode. -/
def State.releaseHold (s : State) (p : Fin 4) : State :=
  match (s.cfg p).clearMode with
  | .manual => s.modPos p fun q => { q with state := .held .demandWait, resumeTimer := none }
  | .timed | .timedDemand =>
    s.modPos p fun q => { q with state := .held .delay, resumeTimer := some ((s.cfg p).resumeDelay * 1000) }

/-- R112, R115: a factor clears; in FACTOR_WAIT the last one to clear changes the release condition. -/
def State.clearFactor (s : State) (p : Fin 4) (f : Factor) : State :=
  if (s.pos p).factors.has f then
    let s := s.putFactor p f false
    if (s.pos p).state = .held .factorWait ∧ (s.pos p).factors.isEmpty then s.releaseHold p else s
  else s

/-! ### Profile lookup -/

/-- R70 (4): whether the ambient lies in the band of a profile. -/
def FillProfile.coversAmbient (f : FillProfile) (ambient : Nat) : Bool :=
  decide (f.ambientLow ≤ ambient) && decide (ambient ≤ f.ambientHigh)

/-- R70 (3), (5): whether a profile matches the comm mode and, for COMM, the tank volume. -/
def FillProfile.matchesComm (f : FillProfile) (mode : CommMode) (volume : Option Nat) : Bool :=
  match mode, f.comm, volume with
  | .noncomm, none, _ => true
  | .comm, some c, some v => decide (c.volumeLow ≤ v) && decide (v ≤ c.volumeHigh)
  | .noncomm, some _, _ => false
  | .comm, none, _ => false
  | .comm, some _, none => false

/-- The first in-use profile that satisfies a test, in index order. -/
def State.firstProfile (s : State) (test : FillProfile → Bool) : Option (Fin 16 × FillProfile) :=
  (List.finRange 16).findSome? fun i =>
    match s.profiles.get i with
    | some f => if test f then some (i, f) else none
    | none => none

/-- R70: the profile lookup of a position for a grade and a comm mode. -/
def State.lookupProfile (s : State) (p : Fin 4) (grade : Option Grade) (mode : CommMode) :
    Option (Fin 16 × FillProfile) :=
  let ambient := s.ambient
  s.firstProfile fun f =>
    f.nozzleClass == (s.cfg p).nozzleClass && some f.grade == grade && f.coversAmbient ambient &&
    f.matchesComm mode (s.pos p).link.volume

/-- R54 (1): the variant lookup of a position. -/
def State.lookupVariant (s : State) (p : Fin 4) : Option FillProfile :=
  let ambient := s.ambient
  let grade : Grade := if (s.cfg p).cooling then .g1 else .g0
  (s.firstProfile fun f =>
    f.nozzleClass == (s.cfg p).nozzleClass && f.grade == grade && f.coversAmbient ambient).map Prod.snd

/-- R70: the comm mode that the link gives a lookup. -/
def Position.commMode (q : Position) : CommMode := if q.link.state = .stream then .comm else .noncomm

/-- R71, R72: the ramp context rebased on a found profile; the error of the last step and the step timer stand. -/
def RampContext.onProfile (r : RampContext) (i : Fin 16) (f : FillProfile) (base : Nat) : RampContext :=
  { r with
    profile := some i
    base := base
    time := 0
    rate := f.rampRate
    taper := false
    target := none
    starved := 0
    lagging := 0 }

/-- R11, R57 (4), R72 (4): the profile, grade and comm mode in use are written into the ticket. -/
def State.recordProfile (s : State) (p : Fin 4) (i : Fin 16) (grade : Option Grade) (mode : CommMode) : State :=
  s.modActive p fun t => { t with profile := some i, grade := grade, commMode := some mode }

/-- R72, R109 (2): a re-lookup; absent when no profile matches. -/
def State.relookup (s : State) (p : Fin 4) (grade : Option Grade) (mode : CommMode) : Option State :=
  match s.lookupProfile p grade mode with
  | none => none
  | some (i, f) =>
    let s := s.modPos p fun q => { q with ramp := q.ramp.onProfile i f (10 * s.pDisp p) }
    some ((s.recordProfile p i grade mode).clearFactor p .precool)

/-- R74: the re-lookup at grade G0 of a position that has lost its slot in FUELLING or HELD. -/
def State.relookupWarm (s : State) (p : Fin 4) : State :=
  match s.relookup p (some .g0) (s.pos p).commMode with
  | some s => s
  | none => s.activateCore p .precool

/-- R75: the re-lookup of a position in FUELLING or HELD whose link has left STREAM. -/
def State.relookupNonComm (s : State) (p : Fin 4) : State :=
  match s.relookup p (s.grade p) .noncomm with
  | some s => s
  | none => s.enterEndingCore p .linkLost

/-! ### From the settle time to FUELLING -/

/-- R57 (5), R112: the reason of the first active factor with disposition END, in factor order. -/
def State.endingFactor (s : State) (p : Fin 4) : Option EndReason :=
  factorOrder.findSome? fun f => if (s.pos p).factors.has f then (s.cfg p).endedBy f else none

/-- R57 (6), R76 (1): entry into FUELLING from STARTING with a selected bank. -/
def State.enterFuelling (s : State) (p : Fin 4) (b : Fin 6) : State :=
  (s.joinBank p b).modPos p fun q =>
    { q with
      state := .fuelling
      substateTimer := none
      coolWaitTimer := none
      ramp := { q.ramp with stepTimer := some Config.stepTime } }

/-- R57 (6): no bank is eligible at the start lookup. -/
def State.startWithoutBank (s : State) (p : Fin 4) : State :=
  match (s.cfg p).endedBy .bankLow with
  | some reason => s.enterEndingCore p reason
  | none =>
    let s := (s.putFactor p .bankLow true).enterHeld p
    s.setWaiting p true

/-- R57 (4) to (6): the fill goes on with the profile found at the start lookup. -/
def State.beginFill (s : State) (p : Fin 4) (i : Fin 16) (f : FillProfile) (pInit : Nat) : State :=
  let s := s.recordProfile p i (s.grade p) (s.pos p).commMode
  let s := s.modPos p fun q => { q with valve := 0, ramp := q.ramp.onProfile i f (10 * pInit) }
  match s.endingFactor p with
  | some reason => s.enterEndingCore p reason
  | none =>
    if (s.pos p).factors.isEmpty then
      match s.selectedBank p none with
      | some b => s.enterFuelling p b
      | none => s.startWithoutBank p
    else s.enterHeld p

/-- R57: the profile lookup at the advance out of COOL_WAIT. -/
def State.startLookupCore (s : State) (p : Fin 4) : State :=
  let q := s.pos p
  match s.lookupProfile p (s.grade p) q.commMode with
  | none =>
    s.enterEndingCore p
      (if s.grade p = some .g0 ∧ q.coolWaitExpired then .noCooling else .noProfile)
  | some (i, f) =>
    if f.endPressure ≤ q.pInit.getD 0 then s.enterEndingCore p .startFull
    else s.beginFill p i f (q.pInit.getD 0)

/-- R56: COOL_WAIT, passed without waiting when the position needs no slot, holds one, or has waited in vain. -/
def State.enterCoolWaitCore (s : State) (p : Fin 4) : State :=
  let s := s.modPos p fun q => { q with state := .starting .coolWait, substateTimer := none }
  if !(s.cfg p).cooling || s.precool.holders.has p || (s.pos p).coolWaitExpired then s.startLookupCore p
  else s.modPos p fun q => { q with coolWaitTimer := some (s.site.coolWaitTime * 1000) }

/-- R98: the link of a position enters STALLED or LOST. -/
def LinkContext.fail (l : LinkContext) (state : LinkState) : LinkContext :=
  { l with state := state, freshness := none, lastCommand := none }

/-- Changes the link context of a position. -/
def State.modLink (s : State) (p : Fin 4) (f : LinkContext → LinkContext) : State :=
  s.modPos p fun q => { q with link := f q.link }

/-- R55: what the vehicle checks decide. -/
def vehicleVerdict (expected : Option Tag) (link : LinkContext) (nozzle : NozzleClass) : Option EndReason :=
  if expected.isSome && link.state == .stream && link.tag != expected then some .tagMismatch
  else if expected.isSome && link.state != .stream then some .tagUnverified
  else if link.state == .stream && link.vehicleClass != some nozzle then some .classMismatch
  else none

/-- R55, R101: the vehicle checks; a link in LISTEN enters LOST whatever they decide. -/
def State.vehicleChecksCore (s : State) (p : Fin 4) : State :=
  let verdict :=
    vehicleVerdict ((s.activeTicket p).bind Ticket.expectedTag) (s.pos p).link (s.cfg p).nozzleClass
  let s := if (s.pos p).link.state = .listen then s.modLink p fun l => l.fail .lost else s
  match verdict with
  | some reason => s.enterEndingCore p reason
  | none => s.enterCoolWaitCore p

/-- R53 (4), R54 (3): the advance out of SETTLE, by the start variant. -/
def State.leaveSettleCore (s : State) (p : Fin 4) : State :=
  if (s.pos p).variant = some .pulseOnly then s.vehicleChecksCore p
  else
    s.modPos p fun q =>
      { q with state := .starting .leakCheck, substateTimer := some Config.leakCheckTime }

/-- R58 (3): the advance that VEHICLE_HALT held is taken, when the substate has completed its work. -/
def State.advanceCore (s : State) (p : Fin 4) : State :=
  let q := s.pos p
  match q.state with
  | .starting .settle => if q.substateTimer.isNone then s.leaveSettleCore p else s
  | .starting .leakCheck => if q.substateTimer.isNone then s.vehicleChecksCore p else s
  | .starting .coolWait => if q.coolWaitTimer.isNone then s.startLookupCore p else s
  | .starting .pulse | .closed | .idle | .calling | .fuelling | .held _ | .ending | .ended => s

/-- R58 (2): a substate has completed its work: the advance is taken, or waits under VEHICLE_HALT. -/
def State.advanceUnlessHalted (s : State) (p : Fin 4) : State :=
  if (s.pos p).factors.vehicleHalt then s else s.advanceCore p

/-! ### Cooling slots -/

/-- R162: whether PCL grants to the head of the wait queue. -/
def State.slotFree (s : State) : Bool :=
  s.precool.chiller == .ready && decide (s.precool.holders.size < s.site.slotCount)

/-- R162 (1), (2): a position becomes a holder at the offered grade. -/
def State.grantSlot (s : State) (p : Fin 4) : State :=
  s.modPcl fun c =>
    { c with
      waitQueue := c.waitQueue.erase p
      holders := c.holders.put p true
      grades := setAt c.grades p (some c.offered) }

/-- R56 (4), (5): the wait of a position in COOL_WAIT ends. -/
def State.endCoolWaitCore (s : State) (p : Fin 4) : State :=
  if (s.pos p).state = .starting .coolWait then
    (s.modPos p fun q => { q with coolWaitTimer := none }).advanceUnlessHalted p
  else s

/-- R162: grants to the head of the queue while a slot is free, each position being told at once; `n` bounds the grants. -/
def State.grantUpTo (n : Nat) (s : State) : State :=
  match n with
  | 0 => s
  | n + 1 =>
    match s.precool.waitQueue with
    | [] => s
    | p :: _ => if s.slotFree then State.grantUpTo n ((s.grantSlot p).endCoolWaitCore p) else s

/-- R162: the grants that a released slot or a READY chiller calls for. -/
def State.makeGrants (s : State) : State := State.grantUpTo s.precool.waitQueue.length s

/-- R161: the slot request at entry into STARTING. -/
def State.requestSlot (s : State) (p : Fin 4) : State :=
  if (s.cfg p).cooling then
    let s := s.setGrade p none
    if s.slotFree && s.precool.waitQueue.isEmpty then s.grantSlot p
    else s.modPcl fun c => { c with waitQueue := c.waitQueue ++ [p] }
  else s.setGrade p (some .g0)

/-! ### The start -/

/-- R110 (1): whether SENSOR stands at a position. -/
def State.sensorDoubt (s : State) (p : Fin 4) : Bool :=
  s.namedState (s.cfg p).pDisp == some .held || s.namedState (s.cfg p).tGas == some .failed

/-- R10: the ACTIVE ticket at entry into STARTING. -/
def Ticket.started (t : Ticket) (clock : Word32) : Ticket :=
  { t with
    state := .fuelling
    startTime := some clock
    window := none
    mass := 0
    amount := 0
    holdUsed := 0
    profile := none
    grade := none
    commMode := none
    pInit := none
    finalPressure := none
    lastSoc := none
    peakTGas := none }

/-- R51 (2) to (5), R71, R106, R117: the position at entry into STARTING. -/
def Position.started (q : Position) (sensor : Bool) : Position :=
  { q with
    state := .starting .pulse
    valve := 0
    drawBank := none
    pInit := none
    variant := none
    leakTolerance := none
    coolWaitTimer := none
    coolWaitExpired := false
    substateTimer := none
    fillTime := 0
    ramp := .cleared
    quarter := 0
    phaseFaults := 0
    factors := { FactorSet.empty with vehicleHalt := q.link.lastCommand == some .halt, sensor := sensor }
    resumeTimer := none
    holdTime := 0 }

/-- R52 (1), (2): entry into PULSE. -/
def State.enterPulseCore (s : State) (p : Fin 4) : State :=
  match s.selectedBank p none with
  | none => s.enterEndingCore p .noSupply
  | some b =>
    (s.joinBank p b).modPos p fun q =>
      { q with valve := s.site.pulseOpening, substateTimer := some s.site.pulseTime }

/-- R51: entry into STARTING. -/
def State.enterStartingCore (s : State) (p : Fin 4) : State :=
  let s := s.modActive p fun t => t.started s.clock
  let s := s.modPos p fun q => q.started (s.sensorDoubt p)
  let s := s.requestSlot p
  if s.namedState (s.cfg p).pDisp = some .failed then s.enterEndingCore p .sensorFail
  else s.enterPulseCore p

/-- R50: the conditions of the start test, in CALLING. -/
def State.mayStart (s : State) (p : Fin 4) : Bool :=
  (s.pos p).state == .calling && (s.activeTicket p).any (fun t => t.state == .authorized) &&
  (s.debouncers.coupling.get p).level && !s.esdLatch && !s.tradeLockOpen && s.commissioned

/-- R50: the start test of a position. -/
def State.startTest (s : State) (p : Fin 4) : State :=
  if s.mayStart p then (s.enterStartingCore p).makeGrants else s

/-- R53 (1): the position leaves PULSE for SETTLE. -/
def State.enterSettle (s : State) (p : Fin 4) : State :=
  let s := (s.modPos p fun q => { q with valve := 0 }).releaseDraw p
  s.modPos p fun q => { q with state := .starting .settle, substateTimer := some Config.settleTime }

/-! ### Whole events, with the grants that they call for -/

/-- R60, R163: a fill ends, and a released slot is granted on. -/
def State.endFill (s : State) (p : Fin 4) (reason : EndReason) : State :=
  (s.enterEndingCore p reason).makeGrants

/-- R112, R163: a factor becomes active, and a slot that an end releases is granted on. -/
def State.activate (s : State) (p : Fin 4) (f : Factor) : State := (s.activateCore p f).makeGrants

/-- R129, R131, R132: a bank is selected for a position in FUELLING that has left its draw set; the counts become 0. -/
def State.switchTo (s : State) (p : Fin 4) (b : Fin 6) : State :=
  (s.joinBank p b).modPos p fun q => { q with ramp := { q.ramp with starved := 0, lagging := 0 } }

/-- R117: the maximum hold total, ms. -/
def PositionConfig.holdLimit (c : PositionConfig) : Nat := c.maxHold * 1000

/-- R117 (2): the whole seconds of the hold accumulator are written into the ticket. -/
def State.writeHoldTime (s : State) (p : Fin 4) : State :=
  s.modActive p fun t => { t with holdUsed := (s.pos p).holdTime / 1000 }

/-- R117: a resume that is taken before the expiry that falls together with it stops the accumulator short of the maximum
hold total, in the model by 1 ms (notes/assumptions/25.md). -/
def State.stopShort (s : State) (p : Fin 4) : State :=
  if (s.cfg p).holdLimit ≤ (s.pos p).holdTime then
    (s.modPos p fun q => { q with holdTime := (s.cfg p).holdLimit - 1 }).writeHoldTime p
  else s

/-- R116, R117: a held position asks for a bank and returns to FUELLING, or BANK_LOW becomes active. -/
def State.resume (s : State) (p : Fin 4) : State :=
  match s.selectedBank p none with
  | some b =>
    ((s.stopShort p).joinBank p b).modPos p fun q =>
      { q with
        state := .fuelling
        valve := 0
        resumeTimer := none
        ramp :=
          { q.ramp with
            base := 10 * s.pDisp p
            time := 0
            target := none
            starved := 0
            lagging := 0
            stepTimer := some Config.stepTime } }
  | none => (s.bankLowCore p).makeGrants

/-! ### Slots of a position and promotion -/

/-- R8: the authorization window at its full length, ms. -/
def State.windowLength (s : State) : Nat := s.site.authWindow * 1000

/-- R8, R13: a ticket promoted to ACTIVE; an AUTHORIZED one gets a fresh window. -/
def Ticket.promoted (t : Ticket) (window : Nat) : Ticket :=
  { t with attachment := .active, window := if t.state = .authorized then some window else none }

/-- R13: the STAGED ticket of a position, if any, becomes its ACTIVE ticket. -/
def State.promote (s : State) (p : Fin 4) : State :=
  let staged := (s.pos p).staged
  let s := s.modPos p fun q => { q with active := staged, staged := none }
  match staged with
  | some n => s.modTicket n fun t => t.promoted s.windowLength
  | none => s

/-- R4, R13: the ACTIVE ticket of a position is detached and its slot vacated. -/
def State.detachActive (s : State) (p : Fin 4) : State :=
  (s.modActive p fun t => { t with attachment := .detached }).modPos p fun q => { q with active := none }

/-- R13 (1), R48: the nozzle-holstered event at a position in ENDED. An ACTIVE ticket that is not ENDED, opened after the
settlement of the fill's ticket, stays ACTIVE (notes/assumptions/12.md). -/
def State.holsterEnded (s : State) (p : Fin 4) : State :=
  let s := s.modPos p fun q => { q with state := .idle }
  match s.activeTicket p with
  | some t => if t.state = .ended then (s.detachActive p).promote p else s
  | none => s.promote p

end Sys2Proof.Machine
end

