-- ==== Sys2Proof/Machine/Chiller.lean ====
section
/-! DEFINITION. The Precool Controller: fault causes, READY and PULLDOWN, the offered grade, the loss of slots, and
grade fallback (R153 to R165). -/

namespace Sys2Proof.Machine

/-! ### The offered grade -/

/-- R153: the ready threshold. -/
def SiteRecord.readyThreshold (r : SiteRecord) : Nat := r.limitG3 - r.approach

/-- R153: the outlet limit of a grade; G0 has none. -/
def SiteRecord.outletLimit (r : SiteRecord) (g : Grade) : Option Nat :=
  match g with
  | .g0 => none
  | .g1 => some r.limitG1
  | .g2 => some r.limitG2
  | .g3 => some r.limitG3

/-- R153: the outlet limit of a position. -/
def State.outletLimit (s : State) (p : Fin 4) : Option Nat := (s.grade p).bind s.site.outletLimit

/-- R160 (2): the coldest grade whose outlet limit less the approach is at or above the coolant value; G0 when there is none
(notes/assumptions/19.md). -/
def SiteRecord.gradeFor (r : SiteRecord) (v : Nat) : Grade :=
  if v + r.approach ≤ r.limitG1 then .g1
  else if v + r.approach ≤ r.limitG2 then .g2
  else if v + r.approach ≤ r.limitG3 then .g3
  else .g0

/-- 1.9, R165 (3): the grade one step warmer. -/
def Grade.warmer (g : Grade) : Grade :=
  match g with
  | .g1 => .g2
  | .g2 => .g3
  | .g3 => .g0
  | .g0 => .g0

/-- R160 (1): the chiller leaves READY or stays out of it; the offered grade is G0. -/
def State.setChiller (s : State) (c : ChillerState) : State :=
  s.modPcl fun x => { x with chiller := c, offered := .g0 }

/-- R156, R158, R160: the chiller is READY with a coolant value. -/
def State.setReady (s : State) (v : Nat) : State :=
  s.modPcl fun x => { x with chiller := .ready, offered := s.site.gradeFor v }

/-! ### Losing slots -/

/-- R56, R157 (2), R159: a position in STARTING takes G0 and cool-wait expired yes. -/
def State.giveUpCooling (s : State) (p : Fin 4) : State :=
  (s.setGrade p (some .g0)).modPos p fun q => { q with coolWaitExpired := true }

/-- R157 (2): what becomes of a former holder, by its state. -/
def State.loseSlot (s : State) (p : Fin 4) : State :=
  match (s.pos p).state with
  | .fuelling | .held _ => ((s.setGrade p (some .g0)).setFallback p none).relookupWarm p
  | .starting _ => s.giveUpCooling p
  | .closed | .idle | .calling | .ending | .ended => s

/-- R157 (2): every slot is released, and each former holder is treated, in ascending order by the model's choice
(notes/assumptions/12.md). -/
def State.releaseSlots (s : State) : State :=
  let holders := s.precool.holders
  (allPositions.filter holders.has).foldl State.loseSlot (s.modPcl fun c => { c with holders := .empty })

/-- R56, R159: a waiter withdrawn by CHILLER_OFF; in COOL_WAIT its wait ends. -/
def State.withdrawWaiter (s : State) (p : Fin 4) : State := (s.giveUpCooling p).endCoolWaitCore p

/-- R159 (1): every waiter is withdrawn, the head of the queue first, which is the model's choice (notes/assumptions/37.md). -/
def State.withdrawWaiters (s : State) : State :=
  s.precool.waitQueue.foldl State.withdrawWaiter (s.modPcl fun c => { c with waitQueue := [] })

/-! ### Faults and switching -/

/-- R157: entry into FAULT. -/
def State.enterFault (s : State) : State := ((s.setChiller .fault).releaseSlots).raise .precoolFault

/-- R155 (3): a fault cause has become present. -/
def State.faultArises (s : State) : State := if s.precool.chiller = .fault then s else s.enterFault

/-- R155 (1): a debounced transition of the chiller fault line. -/
def State.faultLineChange (s : State) (active : Bool) : State :=
  let was := s.precool.faultLine
  let s := s.modPcl fun c => { c with faultLine := active }
  if active && !was then s.faultArises else s

/-- R155 (2): the coolant channel reports FAILED. -/
def State.coolantFailed (s : State) : State :=
  let was := s.precool.coolantCause
  let s := s.modPcl fun c => { c with coolantCause := true }
  if was then s else s.faultArises

/-- R155 (2): the coolant channel reports a return to OK. -/
def State.coolantReturned (s : State) : State := s.modPcl fun c => { c with coolantCause := false }

/-- R156: a value taken on the coolant channel. -/
def State.coolantTaken (s : State) (v : Nat) : State :=
  let s := s.modPcl fun c => { c with coolantSeen := true }
  match s.precool.chiller with
  | .pulldown => if v ≤ s.site.readyThreshold then (s.setReady v).makeGrants else s.setChiller .pulldown
  | .ready => if s.site.readyThreshold < v then s.setChiller .pulldown else s.setReady v
  | .off | .fault => s

/-- R158 (1): entry into PULLDOWN, and READY in the same event when the last coolant value allows. -/
def State.enterPulldown (s : State) : State :=
  let s := s.setChiller .pulldown
  match s.coolantValue with
  | some v =>
    if s.precool.coolantSeen && decide (v ≤ s.site.readyThreshold) then (s.setReady v).makeGrants else s
  | none => s

/-- R158: the chiller is switched on from OFF or from a FAULT whose causes are gone. -/
def State.switchChillerOn (s : State) : State :=
  if s.precool.faultLine || s.precool.coolantCause then s.enterFault else s.enterPulldown

/-- R154, R160: the offered grade is recomputed from the chiller state and the last coolant value. With no coolant channel
there is no value, and the grade offered in READY stands (notes/assumptions/19.md). -/
def State.recomputeOffered (s : State) : State :=
  s.modPcl fun c =>
    { c with
      offered :=
        match c.chiller with
        | .ready => (s.coolantValue.map s.site.gradeFor).getD c.offered
        | .off | .pulldown | .fault => .g0 }

/-- R154, R158 (1): what COMMISSION does to the chiller: OFF is left, another state stands, and the offered grade is
recomputed. -/
def State.commissionChiller (s : State) : State :=
  if s.precool.chiller = .off then s.switchChillerOn else s.recomputeOffered

/-- R159 (1): CHILLER_OFF. -/
def State.switchChillerOff (s : State) : State := ((s.setChiller .off).releaseSlots).withdrawWaiters

/-- R154, R159 (2): what an accepted DECOMMISSION does to PCL. -/
def State.decommissionPrecool (s : State) : State :=
  s.modPcl fun c =>
    { c with
      chiller := .off
      offered := .g0
      holders := .empty
      waitQueue := []
      grades := Vector.replicate 4 none
      fallback := Vector.replicate 4 none }

/-! ### Grade fallback -/

/-- R153, R165: the fallback window, ms. -/
def State.fallbackLength (s : State) : Nat := s.site.fallbackWindow * 1000

/-- R165 (1), (2): a T_gas value taken, against the outlet limit of a position. -/
def State.superviseTGas (s : State) (p : Fin 4) (v : Nat) : State :=
  match (s.pos p).state, s.outletLimit p with
  | .fuelling, some limit =>
    if limit < v then
      if (s.precool.fallback.get p).isNone then s.setFallback p (some s.fallbackLength) else s
    else s.setFallback p none
  | _, _ => s

/-- R73 (1), R165 (3), (4): a successful fallback: the grade is the candidate, and the window starts again when the last
T_gas value is above the new limit. -/
def State.fallBack (s : State) (p : Fin 4) (candidate : Grade) : State :=
  let s := s.setGrade p (some candidate)
  match (s.pos p).state, s.site.outletLimit candidate with
  | .fuelling, some limit => if limit < s.tGas p then s.setFallback p (some s.fallbackLength) else s
  | _, _ => s

/-- R73, R165 (3): the fallback timer of a position has expired. -/
def State.fallbackExpired (s : State) (p : Fin 4) : State :=
  let s := (s.setFallback p none).raise .gradeFallback
  match s.grade p with
  | some g =>
    match s.relookup p (some g.warmer) (s.pos p).commMode with
    | some s => s.fallBack p g.warmer
    | none => s.activate p .precool
  | none => s

end Sys2Proof.Machine
end

