-- ==== Sys2Proof/Machine/Isolation.lean ====
section
/-! DEFINITION. Bank values and isolation, and the reports to waiting positions (R125, R132, R133, R135). -/

namespace Sys2Proof.Machine

/-- R132 (3): a position whose draw bank is isolated: another bank is selected, or the pulse ends, or BANK_LOW
becomes active. -/
def State.displace (s : State) (p : Fin 4) : State :=
  let s := s.leaveBank p
  match (s.pos p).state with
  | .starting .pulse =>
    match s.selectedBank p none with
    | some b => s.joinBank p b
    | none => s.enterSettle p
  | .fuelling =>
    match s.selectedBank p none with
    | some b => s.switchTo p b
    | none => (s.bankLowCore p).makeGrants
  | .starting .settle | .starting .leakCheck | .starting .coolWait => s
  | .closed | .idle | .calling | .held _ | .ending | .ended => s

/-- R132 (3): the positions of a draw set are handled in ascending order. -/
def State.displaceAll (s : State) (b : Fin 6) : State :=
  allPositions.foldl (fun s p => if s.inDrawSet b p then s.displace p else s) s

/-- R132: a READY bank is isolated. -/
def State.isolate (s : State) (b : Fin 6) : State :=
  if (s.bank b).isolated then s
  else (((s.modBank b fun x => { x with isolated := true }).removeBank b).displaceAll b).raise .bankIsolated

/-- R135 (3): a waiting position for which a bank is eligible leaves the waiting set and clears BANK_LOW. -/
def State.reportBank (s : State) (p : Fin 4) : State :=
  if s.waiting.has p && allBanks.any (s.eligible p none) then
    (s.setWaiting p false).clearFactor p .bankLow
  else s

/-- R135 (2): the eligibility test of every waiting position. -/
def State.reportWaiting (s : State) : State := allPositions.foldl State.reportBank s

/-- R125: a value taken on the P channel of a bank. -/
def State.bankPressureTaken (s : State) (b : Fin 6) (v : Nat) : State :=
  let s := (s.modBank b fun x => { x with p := v }).recomputeInventory b
  if (s.bankCfg b).rated < v then s.isolate b
  else
    let s := s.refillProgress b v
    let s := if v < (s.bankCfg b).refillStart then s.queueEntryTest b else s
    s.reportWaiting

/-- R125: a value taken on the T channel of a bank. -/
def State.bankTemperatureTaken (s : State) (b : Fin 6) (v : Nat) : State :=
  let s := (s.modBank b fun x => { x with t := v }).recomputeInventory b
  if Config.maxBankTemperature < v then s.isolate b else s

/-- R133: whether RETURN_BANK finds the bank's readings good. -/
def State.bankReadingsGood (s : State) (b : Fin 6) : Bool :=
  s.namedState (s.bankCfg b).pChannel == some .ok && s.namedState (s.bankCfg b).tChannel == some .ok &&
  decide ((s.bank b).p ≤ (s.bankCfg b).rated) && decide ((s.bank b).t ≤ Config.maxBankTemperature)

/-- R133: an ISOLATED bank becomes READY again. -/
def State.returnToReady (s : State) (b : Fin 6) : State :=
  ((s.modBank b fun x => { x with isolated := false }).queueEntryTest b).reportWaiting

end Sys2Proof.Machine
end

