-- ==== Sys2Proof/Machine/Control.lean ====
section
/-! DEFINITION. The control step and the meter decoder (R76 to R89). -/

namespace Sys2Proof.Machine

/-! ### State of charge -/

/-- R84 (2): the reference pressure of a class. -/
def NozzleClass.referencePressure (k : NozzleClass) : Nat :=
  match k with
  | .h70 => 7000
  | .h35 => 3500

/-- R84 (2): the reference effective temperature of a class. -/
def NozzleClass.referenceTemperature (k : NozzleClass) : Nat :=
  match k with
  | .h70 => 4121
  | .h35 => 3501

/-- R84: the state of charge of a tank, permille. -/
def stateOfCharge (k : NozzleClass) (p t : Nat) : Nat :=
  min 1999 (1000 * p * k.referenceTemperature / (k.referencePressure * effectiveTemperature p t))

/-- R79, R103: the tank data that a step may use: the link is in STREAM. -/
def Position.tankData (q : Position) : Option (Nat × Nat) :=
  match q.link.state, q.link.tankPressure, q.link.tankTemperature with
  | .stream, some p, some t => some (p, t)
  | _, _, _ => none

/-! ### The stages of the step -/

/-- R77 (2): the ramp target, capped at ten times the end pressure. -/
def rampTarget (r : RampContext) (time endPressure : Nat) : Nat :=
  min (r.base + r.rate * time / 1000) (10 * endPressure)

/-- R78 (2), (3): the valve step for an error. -/
def valveStep (error : Int) (gain : Nat) : Int :=
  clampInt (-Config.maxValveStep) Config.maxValveStep ((error * (gain : Int)).tdiv 256)

/-- R78 (4): the new opening. -/
def newOpening (old : Nat) (step : Int) : Nat := (clampInt 0 1000 ((old : Int) + step)).toNat

/-- R77, R78: stages 1 to 3. -/
def State.stepRamp (s : State) (p : Fin 4) (f : FillProfile) : State :=
  s.modPos p fun q =>
    let time := q.ramp.time + Config.stepTime
    let target := rampTarget q.ramp time f.endPressure
    let error : Int := (target : Int) - 10 * (s.pDisp p : Int)
    { q with
      valve := newOpening q.valve (valveStep error f.gain)
      ramp := { q.ramp with time := time, target := some target, error := error } }

/-- R79: the state of charge of this step, when the tank data is fresh. -/
def State.stepSoc (s : State) (p : Fin 4) : Option Nat :=
  (s.pos p).tankData.map fun d => stateOfCharge (s.cfg p).nozzleClass d.1 d.2

/-- R79: stage 4 writes the state of charge into the ticket. -/
def State.recordSoc (s : State) (p : Fin 4) (soc : Option Nat) : State :=
  match soc with
  | some x => s.modActive p fun t => { t with lastSoc := some x }
  | none => s

/-- R69: the maximum fill time of a class, ms. -/
def SiteRecord.maxFillTime (r : SiteRecord) (k : NozzleClass) : Nat :=
  match k with
  | .h70 => r.maxFillH70 * 60000
  | .h35 => r.maxFillH35 * 60000

/-- Whether an optional value is present and at or above a limit. -/
def reaches (value : Option Nat) (limit : Nat) : Bool := value.any fun v => decide (limit ≤ v)

/-- Whether a limit is present and a value is at or above it. -/
def limitReached (limit : Option Nat) (value : Nat) : Bool := limit.any fun l => decide (l ≤ value)

/-- R80: the comparators C1 to C6 in their order; the first that is true gives the end reason. -/
def State.comparators (s : State) (p : Fin 4) (f : FillProfile) (soc : Option Nat) : Option EndReason :=
  let ticket := s.activeTicket p
  if f.endPressure ≤ s.pDisp p then some .endPressure
  else if f.comm.any fun c => reaches soc c.endSoc then some .endSoc
  else if f.comm.any fun c => reaches ((s.pos p).tankData.map Prod.snd) c.tankLimit then some .tankHot
  else if ticket.any fun t => limitReached t.presetMass t.grams then some .presetMass
  else if ticket.any fun t => limitReached t.presetAmount t.amount then some .presetAmount
  else if s.site.maxFillTime (s.cfg p).nozzleClass ≤ (s.pos p).fillTime then some .fillTime
  else none

/-- R81 (1): whether the step is starved. -/
def State.starved (s : State) (p : Fin 4) (f : FillProfile) : Bool :=
  match (s.pos p).drawBank with
  | some b => decide ((s.bank b).p < s.pDisp p + f.switchDiff)
  | none => true

/-- R81 (2): whether the step lags. -/
def Position.lags (q : Position) : Bool := q.valve == 1000 && decide (500 ≤ q.ramp.error)

/-- R81 (1), (2): the consecutive counts after the tests of this step. -/
def State.countTests (s : State) (p : Fin 4) (f : FillProfile) : State :=
  let starved := s.starved p f
  s.modPos p fun q =>
    { q with
      ramp :=
        { q.ramp with
          starved := if starved then q.ramp.starved + 1 else 0
          lagging := if q.lags then q.ramp.lagging + 1 else 0 } }

/-- R81 (3): whether a threshold is reached. -/
def RampContext.wantsSwitch (r : RampContext) : Bool := decide (2 ≤ r.starved) || decide (4 ≤ r.lagging)

/-- R82: stage 7. -/
def State.stepTaper (s : State) (p : Fin 4) (f : FillProfile) (soc : Option Nat) : State :=
  if !(s.pos p).ramp.taper && (reaches soc f.taperSoc || decide (f.endPressure ≤ s.pDisp p + 300)) then
    s.modPos p fun q =>
      { q with
        ramp :=
          { q.ramp with
            base := q.ramp.target.getD q.ramp.base
            time := 0
            rate := max 10 (q.ramp.rate / 4)
            taper := true } }
  else s

/-- R76 (2): the step timer starts again. -/
def State.restartStep (s : State) (p : Fin 4) : State :=
  s.modPos p fun q => { q with ramp := { q.ramp with stepTimer := some Config.stepTime } }

/-- R81 (3), R131, R82: stages 6 and 7 when no comparator is true. -/
def State.stepCascade (s : State) (p : Fin 4) (f : FillProfile) (soc : Option Nat) : State :=
  let s := s.countTests p f
  if (s.pos p).ramp.wantsSwitch then
    let old := (s.pos p).drawBank
    let s := s.leaveBank p
    match s.selectedBank p old with
    | some b => (((s.switchTo p b).reportLeft old).stepTaper p f soc).restartStep p
    | none => (s.reportLeft old).bankLowCore p
  else (s.stepTaper p f soc).restartStep p

/-- The profile in use of a position. -/
def State.profileInUse (s : State) (p : Fin 4) : Option FillProfile :=
  (s.pos p).ramp.profile.bind fun i => s.profiles.get i

/-- R76 to R83: the control step of a position in FUELLING. -/
def State.runStep (s : State) (p : Fin 4) : State :=
  match s.profileInUse p with
  | none => s.restartStep p
  | some f =>
    let s := s.stepRamp p f
    let soc := s.stepSoc p
    let s := s.recordSoc p soc
    match s.comparators p f soc with
    | some reason => s.endFill p reason
    | none => (s.stepCascade p f soc).makeGrants

/-! ### The meter decoder -/

/-- R86: the next line state in the forward order. -/
def meterNext (a b : Bool) : Bool × Bool :=
  match a, b with
  | false, false => (true, false)
  | true, false => (true, true)
  | true, true => (false, true)
  | false, true => (false, false)

/-- R63, R88: a whole pulse changes the ticket's mass in a fill and the stray count outside one. -/
def State.wholePulse (s : State) (p : Fin 4) (forward : Bool) : State :=
  let w := s.pulseWeights.get p
  if (s.pos p).state.busy then
    s.modActive p fun t => t.withMass (if forward then satAdd Config.max32 t.mass w else t.mass - w)
  else s.modPos p fun q => { q with stray := bump16 q.stray }

/-- R87: a phase fault; the third of a fill makes METER active. -/
def State.phaseFault (s : State) (p : Fin 4) : State :=
  if (s.pos p).state.busy then
    let count := satAdd 255 (s.pos p).phaseFaults 1
    let s := s.modPos p fun q => { q with phaseFaults := count }
    if count = 3 then s.activate p .meter else s
  else s

/-- R86: the quarter-step count of a position moves by one; +4 and −4 are whole pulses. -/
def State.quarterStep (s : State) (p : Fin 4) (forward : Bool) : State :=
  let count := (s.pos p).quarter + (if forward then 1 else -1)
  if count = 4 ∨ count = -4 then (s.modPos p fun q => { q with quarter := 0 }).wholePulse p forward
  else s.modPos p fun q => { q with quarter := count }

/-- R86: the meter lines of a position stand at new levels. -/
def State.meterChange (s : State) (p : Fin 4) (a b : Bool) : State :=
  let q := s.pos p
  let s := s.modPos p fun q => { q with meterA := a, meterB := b }
  if (a, b) = (q.meterA, q.meterB) then s
  else if (a, b) = meterNext q.meterA q.meterB then s.quarterStep p true
  else if (q.meterA, q.meterB) = meterNext a b then s.quarterStep p false
  else s.phaseFault p

end Sys2Proof.Machine
end

