-- ==== Sys2Proof/Machine/Link.lean ====
section
/-! DEFINITION. The vehicle data link of a position: frames, link states, commands and the loss of the link (R91 to
R104). -/

namespace Sys2Proof.Machine

/-! ### Frames -/

/-- 12.6: whether a character is printable. -/
def printable (b : Byte) : Bool := decide (0x20 ≤ b.toNat) && decide (b.toNat ≤ 0x7E)

/-- R91: a tag of eight spaces is absent. -/
def presentTag (t : Tag) : Option Tag :=
  if (tagBytes t).all fun b => b == 0x20#8 then none else some t

/-- R91, 12.6.6: the fields of a vehicle frame. -/
structure VehicleFrame where
  isData      : Bool
  bit         : Bool
  vehicleClass : NozzleClass
  command     : VehicleCommand
  pressure    : Nat
  temperature : Nat
  volume      : Nat
  tag         : Tag
deriving DecidableEq, Repr

/-- R92 (1), 12.6.6: whether the sum of all 16 bytes, modulo 256, is 0. -/
def checksumGood (bytes : List Byte) : Bool := bytes.foldl (· + ·) 0 == 0

/-- 12.6.6: the class of a vehicle frame. -/
def frameClass (b : Byte) : Option NozzleClass :=
  match (b >>> 2 &&& 3).toNat with
  | 1 => some .h70
  | 2 => some .h35
  | _ => none

/-- 12.6.6: the command of a vehicle frame. -/
def frameCommand (b : Byte) : Option VehicleCommand :=
  match (b >>> 4 &&& 3).toNat with
  | 0 => some .run
  | 1 => some .halt
  | 2 => some .abort
  | _ => none

/-- R92 (2): whether the volume and the tag of an IDENT frame are among their values. -/
def identGood (volume : Nat) (tag : Tag) : Bool :=
  decide (1 ≤ volume) && decide (volume ≤ 2500) && (tagBytes tag).all printable

/-- R92 (1), (2): the frame that 16 bytes spell; absent when the frame fails its form. -/
def parseVehicleFrame (bytes : List Byte) : Option VehicleFrame :=
  let b := u8 bytes 0
  let volume := (u16 bytes 5).toNat
  let tag := tagAt bytes 7
  match checksumGood bytes, frameClass b, frameCommand b with
  | true, some k, some c =>
    if b.getLsbD 0 || identGood volume tag then
      some ⟨b.getLsbD 0, b.getLsbD 1, k, c, (u16 bytes 1).toNat, (u16 bytes 3).toNat, volume, tag⟩
    else none
  | _, _, _ => none

/-! ### Taking frames -/

/-- R92 (4), R95, R96, R99: a taken frame's data, sequence bit and command are stored, and the freshness timer starts. -/
def LinkContext.take (l : LinkContext) (f : VehicleFrame) : LinkContext :=
  { l with
    tankPressure := some (clampNat 0 Config.maxPressure f.pressure)
    tankTemperature := some (clampNat Config.minTemperature Config.maxTemperature f.temperature)
    lastBit := some f.bit
    expectedBit := some (!f.bit)
    lastCommand := some f.command
    freshness := some Config.freshnessTime }

/-- R95 (1): an IDENT frame taken in LISTEN. -/
def LinkContext.identify (l : LinkContext) (f : VehicleFrame) : LinkContext :=
  { l.take f with
    state := .stream
    vehicleClass := some f.vehicleClass
    volume := some f.volume
    tag := presentTag f.tag }

/-- R99, R115: a RUN taken at a position in HELD, which is a demand in DEMAND_WAIT of a TIMED_DEMAND position. -/
def State.runHeld (s : State) (p : Fin 4) (release : Release) : State :=
  let s := s.clearFactor p .vehicleHalt
  if release = .demandWait ∧ (s.cfg p).clearMode = .timedDemand then s.resume p else s

/-- R58 (3), R99: a RUN taken at a position in STARTING. -/
def State.runStarting (s : State) (p : Fin 4) : State :=
  if (s.pos p).factors.vehicleHalt then ((s.clearFactor p .vehicleHalt).advanceCore p).makeGrants else s

/-- R99: the command of a taken frame is handed to the position by its state. -/
def State.vehicleCommand (s : State) (p : Fin 4) (c : VehicleCommand) : State :=
  match c with
  | .halt => s.activate p .vehicleHalt
  | .abort => s.endFill p .vehicleAbort
  | .run =>
    match (s.pos p).state with
    | .starting _ => s.runStarting p
    | .held release => s.runHeld p release
    | .fuelling => s.clearFactor p .vehicleHalt
    | .closed | .idle | .calling | .ending | .ended => s

/-- R75, R100: the link of a position has left STREAM for STALLED or LOST. -/
def State.linkLoss (s : State) (p : Fin 4) : State :=
  match (s.pos p).state with
  | .starting _ => if (s.pos p).factors.vehicleHalt then s.endFill p .linkLost else s
  | .fuelling | .held _ =>
    if (s.pos p).factors.vehicleHalt then s.endFill p .linkLost else (s.relookupNonComm p).makeGrants
  | .closed | .idle | .calling | .ending | .ended => s

/-- R98: a protocol violation takes the link to STALLED. -/
def State.stallLink (s : State) (p : Fin 4) : State :=
  let was := (s.pos p).link.state
  let s := (s.modLink p fun l => l.fail .stalled).raise (.linkStalled p)
  if was = .stream then s.linkLoss p else s

/-- R97 (3): the freshness timer has expired. -/
def State.loseLink (s : State) (p : Fin 4) : State := (s.modLink p fun l => l.fail .lost).linkLoss p

/-- R96: a frame in STREAM. -/
def State.frameInStream (s : State) (p : Fin 4) (f : VehicleFrame) : State :=
  let l := (s.pos p).link
  if !f.isData || l.vehicleClass != some f.vehicleClass then s.stallLink p
  else if l.expectedBit = some f.bit then
    (s.modLink p fun l => l.take f).vehicleCommand p f.command
  else s.modLink p fun l => { l with repeated := bump16 l.repeated }

/-- R95: a frame in LISTEN. -/
def State.frameInListen (s : State) (p : Fin 4) (f : VehicleFrame) : State :=
  if f.isData then s.stallLink p
  else (s.modLink p fun l => l.identify f).vehicleCommand p f.command

/-- R92, R95, R96, R98: a frame arrives at a position. -/
def State.vehicleFrame (s : State) (p : Fin 4) (bytes : List Byte) : State :=
  if (s.pos p).link.state = .off then s
  else
    match parseVehicleFrame bytes with
    | none => s.modLink p fun l => { l with rejected := bump16 l.rejected }
    | some f =>
      match (s.pos p).link.state with
      | .off => s
      | .listen => s.frameInListen p f
      | .stream => s.frameInStream p f
      | .stalled | .lost => s.modLink p fun l => { l with ignored := bump16 l.ignored }

/-! ### The switches of a position -/

/-- R94: the link enters LISTEN from OFF. -/
def State.listen (s : State) (p : Fin 4) : State :=
  if (s.pos p).link.state = .off then s.modLink p fun _ => { LinkContext.off with state := .listen } else s

/-- R48, R94 (2): the position enters CALLING. -/
def State.enterCalling (s : State) (p : Fin 4) : State :=
  let s := s.modPos p fun q => { q with state := .calling }
  if (s.debouncers.coupling.get p).level then s.listen p else s

/-- R48: the nozzle-lifted event. -/
def State.nozzleLifted (s : State) (p : Fin 4) : State :=
  if (s.pos p).state = .idle then s.enterCalling p else s

/-- R48: the nozzle-holstered event. -/
def State.nozzleHolstered (s : State) (p : Fin 4) : State :=
  match (s.pos p).state with
  | .calling => s.modPos p fun q => { q with state := .idle }
  | .ended => s.holsterEnded p
  | .closed | .idle | .starting _ | .fuelling | .held _ | .ending => s

/-- R49, R94 (1), (3): the coupling-closed event. -/
def State.couplingClosed (s : State) (p : Fin 4) : State :=
  match (s.pos p).state with
  | .closed | .idle => s
  | .calling => (s.listen p).startTest p
  | .starting _ | .fuelling | .held _ | .ending | .ended => s.listen p

/-- R49, R94 (4): the coupling-opened event. -/
def State.couplingOpened (s : State) (p : Fin 4) : State :=
  (s.modLink p fun _ => .off).endFill p .decoupled

end Sys2Proof.Machine
end

