-- ==== Sys2Proof/Machine/Operands.lean ====
section
/-! DEFINITION. The operands of the requests: the value codes of 12.6.8 and the records that the configuration
payloads of 12.6.9 spell. A payload with a field outside its values spells no record (BAD_VALUE). -/

namespace Sys2Proof.Machine

/-! ### Value codes (12.6.8) -/

/-- A yes or no field. -/
def yesNoOf (b : Byte) : Option Bool :=
  match b.toNat with
  | 0 => some false
  | 1 => some true
  | _ => none

/-- A class. -/
def classOf (b : Byte) : Option NozzleClass :=
  match b.toNat with
  | 1 => some .h70
  | 2 => some .h35
  | _ => none

/-- A class permission or the classes that a bank serves: whether H70 and whether H35. -/
def classesOf (b : Byte) : Option (Bool × Bool) :=
  match b.toNat with
  | 1 => some (true, false)
  | 2 => some (false, true)
  | 3 => some (true, true)
  | _ => none

/-- A grade. -/
def gradeOf (b : Byte) : Option Grade :=
  match b.toNat with
  | 0 => some .g0
  | 1 => some .g1
  | 2 => some .g2
  | 3 => some .g3
  | _ => none

/-- A comm mode. -/
def commModeOf (b : Byte) : Option CommMode :=
  match b.toNat with
  | 0 => some .comm
  | 1 => some .noncomm
  | _ => none

/-- A start variant. -/
def variantOf (b : Byte) : Option StartVariant :=
  match b.toNat with
  | 0 => some .pulseCheck
  | 1 => some .pulseOnly
  | _ => none

/-- An authorization mode. -/
def authModeOf (b : Byte) : Option AuthMode :=
  match b.toNat with
  | 0 => some .autonomous
  | 1 => some .supervised
  | _ => none

/-- A clear mode. -/
def clearModeOf (b : Byte) : Option ClearMode :=
  match b.toNat with
  | 0 => some .manual
  | 1 => some .timed
  | 2 => some .timedDemand
  | _ => none

/-- A debounce time, ms. -/
def debounceOf (b : Byte) : Option Nat :=
  match b.toNat with
  | 0 => some 20
  | 1 => some 80
  | 2 => some 160
  | 3 => some 320
  | _ => none

/-- A channel named by a position or a bank: 255 is none. -/
def namedChannelOf (b : Byte) : Option (Option (Fin 32)) :=
  if b.toNat = 255 then some none else (channelOf b).map some

/-- A channel kind. -/
def kindOf (b : Byte) : Option ChannelKind :=
  match b.toNat with
  | 0 => some .pressure
  | 1 => some .temperature
  | _ => none

/-- A channel user: 0 is none. -/
def userOf (b : Byte) : Option (Option Role) :=
  match b.toNat with
  | 0 => some none
  | 1 => some (some (.pDisp 0))
  | 2 => some (some (.pDisp 1))
  | 3 => some (some (.pDisp 2))
  | 4 => some (some (.pDisp 3))
  | 5 => some (some (.tGas 0))
  | 6 => some (some (.tGas 1))
  | 7 => some (some (.tGas 2))
  | 8 => some (some (.tGas 3))
  | 9 => some (some (.bankP 0))
  | 10 => some (some (.bankP 1))
  | 11 => some (some (.bankP 2))
  | 12 => some (some (.bankP 3))
  | 13 => some (some (.bankP 4))
  | 14 => some (some (.bankP 5))
  | 15 => some (some (.bankT 0))
  | 16 => some (some (.bankT 1))
  | 17 => some (some (.bankT 2))
  | 18 => some (some (.bankT 3))
  | 19 => some (some (.bankT 4))
  | 20 => some (some (.bankT 5))
  | 21 => some (some .supply)
  | 22 => some (some .discharge)
  | 23 => some (some .coolant)
  | 24 => some (some .ambient)
  | _ => none

/-- R167: the kind that a role requires. -/
def Role.kind (r : Role) : ChannelKind :=
  match r with
  | .pDisp _ | .bankP _ | .supply => .pressure
  | .tGas _ | .bankT _ | .discharge | .coolant | .ambient => .temperature

/-- R37, R32: an account kind. -/
def accountKindOf (b : Byte) : Option Bool := yesNoOf b

/-- R32: the statuses that WRITE_ACCOUNT may write. -/
def writtenStatusOf (b : Byte) : Option AccountStatus :=
  match b.toNat with
  | 0 => some .active
  | 1 => some .blocked
  | _ => none

/-- 12.6.8: the disposition that a bit of the disposition byte gives. -/
def dispositionBit (b : Byte) (i : Nat) : Disposition := if b.getLsbD i then .endFill else .holdFill

/-! ### Ranges -/

/-- Whether a value lies in a range, both ends included. -/
def within (lo x hi : Nat) : Bool := decide (lo ≤ x) && decide (x ≤ hi)

/-! ### Records -/

/-- R44, R69, R123, R138, R153, R181: whether every site field lies within its values and relations. -/
def SiteRecord.good (r : SiteRecord) : Bool :=
  within 30 r.authWindow 600 && within 1 r.minAuthAmount 1000000 && within 1 r.pulseOpening 1000 &&
  within 500 r.pulseTime 3000 && within 1 r.ventTime 10 && within 60 r.coolWaitTime 300 &&
  within 1 r.leakTolerance 200 && within 2000 r.worstAmbient 3730 && within 1 r.maxFillH70 60 &&
  within 1 r.maxFillH35 60 && within 50 r.openDiff 2000 && within 0 r.floorH70 9500 && within 0 r.floorH35 9500 &&
  within 0 r.supplyMin 9000 && within 10 r.supplyHyst 1000 && within 3000 r.dischargeLimit 3700 &&
  within 2000 r.limitG1 3730 && within 2000 r.limitG2 3730 && within 2000 r.limitG3 3730 &&
  decide (r.limitG1 < r.limitG2) && decide (r.limitG2 < r.limitG3) && within 0 r.approach 500 &&
  within 1 r.slotCount 4 && within 5 r.fallbackWindow 60

/-- R181: the site record that a payload carries, before its test; bits 27 to 31 of the mask are not kept (12.6). -/
def siteRecordOf (f : SiteLayout) : SiteRecord where
  authWindow := f.authWindow.toNat
  minAuthAmount := f.minAuthAmount.toNat
  pulseOpening := f.pulseOpening.toNat
  pulseTime := f.pulseTime.toNat
  ventTime := f.ventTime.toNat
  coolWaitTime := f.coolWaitTime.toNat
  leakTolerance := f.leakTolerance.toNat
  worstAmbient := f.worstAmbient.toNat
  maxFillH70 := f.maxFillH70.toNat
  maxFillH35 := f.maxFillH35.toNat
  openDiff := f.openDiff.toNat
  floorH70 := f.floorH70.toNat
  floorH35 := f.floorH35.toNat
  supplyMin := f.supplyMin.toNat
  supplyHyst := f.supplyHyst.toNat
  dischargeLimit := f.dischargeLimit.toNat
  limitG1 := f.limitG1.toNat
  limitG2 := f.limitG2.toNat
  limitG3 := f.limitG3.toNat
  approach := f.approach.toNat
  slotCount := f.slotCount.toNat
  fallbackWindow := f.fallbackWindow.toNat
  eventMask := f.eventMask.setWidth 27

/-- R181: the site record that a payload spells. -/
def decodeSite (f : SiteLayout) : Option SiteRecord :=
  if (siteRecordOf f).good then some (siteRecordOf f) else none

/-- R43: whether the two channels of a record differ, unless both are none. -/
def channelsDiffer (a b : Option (Fin 32)) : Bool := a.isNone || a != b

/-- R43: the position record that a payload spells. -/
def decodePosition (f : PositionLayout) : Option PositionConfig :=
  match yesNoOf f.inService, classOf f.nozzleClass, yesNoOf f.cooling, authModeOf f.authMode,
    namedChannelOf f.pDisp, namedChannelOf f.tGas, clearModeOf f.clearMode, debounceOf f.holsterDebounce,
    debounceOf f.couplingDebounce with
  | some inService, some k, some cooling, some mode, some pDisp, some tGas, some clear, some holster, some coupling =>
    if channelsDiffer pDisp tGas && within 1 f.resumeDelay.toNat 60 && within 10 f.maxHold.toNat 600 then
      some
        { inService := inService
          nozzleClass := k
          cooling := cooling
          authMode := mode
          pDisp := pDisp
          tGas := tGas
          bankLow := dispositionBit f.dispositions 0
          precool := dispositionBit f.dispositions 1
          sensor := dispositionBit f.dispositions 2
          meter := dispositionBit f.dispositions 3
          clearMode := clear
          resumeDelay := f.resumeDelay.toNat
          maxHold := f.maxHold.toNat
          holsterDebounce := holster
          couplingDebounce := coupling }
    else none
  | _, _, _, _, _, _, _, _, _ => none

/-- R67: the largest end pressure of a class. -/
def NozzleClass.maxEndPressure (k : NozzleClass) : Nat :=
  match k with
  | .h70 => 8750
  | .h35 => 4375

/-- R67, R68: the COMM fields of a profile payload; a NONCOMM entry has none of them, tested or kept. -/
def decodeComm (f : ProfileLayout) (mode : CommMode) : Option (Option CommFields) :=
  match mode with
  | .noncomm => some none
  | .comm =>
    let c : CommFields := ⟨f.volumeLow.toNat, f.volumeHigh.toNat, f.tankLimit.toNat, f.endSoc.toNat⟩
    if within 1 c.volumeLow 2500 && within 1 c.volumeHigh 2500 && decide (c.volumeLow ≤ c.volumeHigh) &&
       within 2000 c.tankLimit 3580 && within 900 c.endSoc 1000 then some (some c)
    else none

/-- R67: whether the fields of every entry lie within their values. -/
def FillProfile.good (f : FillProfile) : Bool :=
  within 2000 f.ambientLow 3730 && within 2000 f.ambientHigh 3730 && decide (f.ambientLow ≤ f.ambientHigh) &&
  within 10 f.rampRate 1000 && within 1 f.endPressure f.nozzleClass.maxEndPressure && within 800 f.taperSoc 990 &&
  within 1 f.leakTolerance 200 && within 100 f.switchDiff 2000 && within 1 f.gain 255

/-- R68: the in-use profile that a payload spells. -/
def decodeInUse (f : ProfileLayout) : Option FillProfile :=
  match classOf f.nozzleClass, gradeOf f.grade, commModeOf f.commMode, variantOf f.variant with
  | some k, some g, some mode, some variant =>
    match decodeComm f mode with
    | some comm =>
      let x : FillProfile :=
        { nozzleClass := k
          grade := g
          comm := comm
          ambientLow := f.ambientLow.toNat
          ambientHigh := f.ambientHigh.toNat
          rampRate := f.rampRate.toNat
          endPressure := f.endPressure.toNat
          taperSoc := f.taperSoc.toNat
          variant := variant
          leakTolerance := f.leakTolerance.toNat
          switchDiff := f.switchDiff.toNat
          gain := f.gain.toNat }
      if x.good then some x else none
    | none => none
  | _, _, _, _ => none

/-- R68: the profile entry that a payload spells: not in use, or in use with its fields. -/
def decodeProfile (f : ProfileLayout) : Option (Option FillProfile) :=
  match yesNoOf f.inUse with
  | some false => some none
  | some true => (decodeInUse f).map some
  | none => none

/-- R121: whether the numbers of a bank record lie within their values and relations. -/
def BankConfig.good (c : BankConfig) : Bool :=
  within 100 c.rated 9500 && within 50 c.volume 20000 && within 1 c.refillTarget c.rated &&
  decide (c.refillStart + 1 ≤ c.refillTarget) && channelsDiffer c.pChannel c.tChannel

/-- R122: the bank configuration that a payload spells. -/
def decodeBank (f : BankLayout) : Option BankConfig :=
  match yesNoOf f.inService, classesOf f.serves, namedChannelOf f.pChannel, namedChannelOf f.tChannel with
  | some inService, some serves, some pChannel, some tChannel =>
    let c : BankConfig :=
      { inService := inService
        servesH70 := serves.1
        servesH35 := serves.2
        rated := f.rated.toNat
        volume := f.volume.toNat
        refillTarget := f.refillTarget.toNat
        refillStart := f.refillStart.toNat
        pChannel := pChannel
        tChannel := tChannel }
    if c.good then some c else none
  | _, _, _, _ => none

/-- 1.6: the unit range of a kind. -/
def ChannelKind.range (k : ChannelKind) : Nat × Nat :=
  match k with
  | .pressure => (0, Config.maxPressure)
  | .temperature => (Config.minTemperature, Config.maxTemperature)

/-- R167: whether the numbers of a channel record lie within their values. -/
def ChannelConfig.good (c : ChannelConfig) : Bool :=
  within c.kind.range.1 c.windowMin c.kind.range.2 && within c.kind.range.1 c.windowMax c.kind.range.2 &&
  decide (c.windowMin ≤ c.windowMax) && within 500 c.grace 10000

/-- R168 test 3: the channel configuration that a payload spells. -/
def decodeChannel (f : ChannelLayout) : Option ChannelConfig :=
  match userOf f.user, kindOf f.kind with
  | some user, some kind =>
    let c : ChannelConfig :=
      { user := user
        kind := kind
        source := f.source.toNat
        windowMin := f.windowMin.toNat
        windowMax := f.windowMax.toNat
        grace := f.grace.toNat }
    if c.good then some c else none
  | _, _ => none

/-- R32: what a WRITE_ACCOUNT payload gives, with its tests passed. -/
structure AccountWrite where
  number     : Nat
  status     : AccountStatus
  money      : Money
  permitsH70 : Bool
  permitsH35 : Bool
  perFillMax : Option Nat
  tag        : Option Tag
deriving DecidableEq, Repr

/-- R32: the money fields that a payload opens an account with; a PREPAID opening balance is not negative. -/
def openingMoney (prepaid : Bool) (x : Word32) : Option Money :=
  if prepaid then
    if 0 ≤ x.toInt then some (.prepaid x.toInt) else none
  else some (.credit x.toNat 0)

/-- R32: the per-fill maximum of a payload, at least 1 when given. -/
def perFillOf (f : AccountLayout) : Option (Option Nat) :=
  if f.presence.getLsbD 0 then
    if 1 ≤ f.perFillMax.toNat then some (some f.perFillMax.toNat) else none
  else some none

/-- R23, R32: the vehicle tag of a payload, printable when given; eight spaces is absent. -/
def accountTagOf (f : AccountLayout) : Option (Option Tag) :=
  if f.presence.getLsbD 1 then
    if (tagBytes f.tag).all printable then some (presentTag f.tag) else none
  else some none

/-- R32 test 2: the account that a payload spells. -/
def decodeAccount (f : AccountLayout) : Option AccountWrite :=
  match accountKindOf f.kind, writtenStatusOf f.status, classesOf f.permission, perFillOf f, accountTagOf f with
  | some credit, some status, some classes, some perFill, some tag =>
    match openingMoney (!credit) f.money with
    | some money =>
      if f.number.toNat = 0 then none
      else some ⟨f.number.toNat, status, money, classes.1, classes.2, perFill, tag⟩
    | none => none
  | _, _, _, _, _ => none

/-- 12.6.3: the account, preset mass and preset amount that an AUTHORIZE payload gives. -/
def authorizeGiven (f : AuthorizeLayout) : Option Nat × Option Nat × Option Nat :=
  (if f.presence.getLsbD 0 then some f.account.toNat else none,
   if f.presence.getLsbD 1 then some f.presetMass.toNat else none,
   if f.presence.getLsbD 2 then some f.presetAmount.toNat else none)

end Sys2Proof.Machine
end

