-- ==== Sys2Proof/Machine/Measurement.lean ====
section
/-! DEFINITION. The Measurement Unit: samples, notifications, debounced switches and the ESD latch, and what the blocks
do with what it hands on (R40, R110, R155, R170 to R175). -/

namespace Sys2Proof.Machine

/-! ### Samples -/

/-- R170 (2): a value clamped to the unit range of a kind. -/
def ChannelKind.clamp (k : ChannelKind) (v : Nat) : Nat :=
  match k with
  | .pressure => clampNat 0 Config.maxPressure v
  | .temperature => clampNat Config.minTemperature Config.maxTemperature v

/-- R170 (3): whether a value is in window. -/
def ChannelConfig.inWindow (c : ChannelConfig) (v : Nat) : Bool :=
  decide (c.windowMin ≤ v) && decide (v ≤ c.windowMax)

/-- R170 (4): the channel after a taken value. -/
def ChannelConfig.take (c : ChannelConfig) (v : Nat) : Channel := ⟨.ok, v, true, some c.grace⟩

/-- R110 (1): SENSOR follows a reported state change of a channel of the position. -/
def State.senseDoubt (s : State) (p : Fin 4) : State :=
  if s.sensorDoubt p then s.activate p .sensor else s.clearFactor p .sensor

/-- R11: the peak gas outlet temperature of a FUELLING ticket. -/
def Ticket.withTGas (t : Ticket) (v : Nat) : Ticket := { t with peakTGas := some (max v (t.peakTGas.getD v)) }

/-- R11, R109 (1), R165: a T_gas value taken for a position. -/
def State.tGasTaken (s : State) (p : Fin 4) (v : Nat) : State :=
  let s := if (s.pos p).state.busy then s.modActive p fun t => t.withTGas v else s
  let s := s.superviseTGas p v
  if (s.outletLimit p).any fun limit => decide (v ≤ limit) then s.clearFactor p .precool else s

/-- R172: a notification with a taken value; `changed` says that the state changed with it. A channel in the role of a bank's P
or T moves that bank also when the bank's record names another channel or none (the model's reading of R125,
notes/assumptions/43.md). -/
def State.notifyTaken (s : State) (r : Role) (v : Nat) (changed : Bool) : State :=
  match r with
  | .pDisp p => if changed then s.senseDoubt p else s
  | .tGas p => (if changed then s.senseDoubt p else s).tGasTaken p v
  | .bankP b => s.bankPressureTaken b v
  | .bankT b => s.bankTemperatureTaken b v
  | .supply => s.supplyTaken v
  | .discharge => s.dischargeTaken v
  | .coolant => (if changed then s.coolantReturned else s).coolantTaken v
  | .ambient => s

/-- R172: a notification of a change to HELD. -/
def State.notifyHeld (s : State) (r : Role) : State :=
  match r with
  | .pDisp p => s.senseDoubt p
  | .tGas p => s.senseDoubt p
  | .bankP _ | .bankT _ | .supply | .discharge | .coolant | .ambient => s

/-- R172: a notification of a change to FAILED by grace expiry. The bank that the role names is isolated also when its record
names another channel or none (the model's reading of R132 (3), notes/assumptions/43.md). -/
def State.notifyFailed (s : State) (r : Role) : State :=
  match r with
  | .pDisp p => s.endFill p .sensorFail
  | .tGas p => s.senseDoubt p
  | .bankP b => s.isolate b
  | .supply => s.supplyFailed
  | .discharge => s.dischargeFailed
  | .coolant => s.coolantFailed
  | .bankT _ | .ambient => s

/-- The user of a channel is told, where it has one. -/
def State.notify (s : State) (c : Fin 32) (tell : State → Role → State) : State :=
  match (s.chanCfg c).user with
  | some r => tell s r
  | none => s

/-- R170 (4), (5): a clamped value arrives at a channel. -/
def State.channelSample (s : State) (c : Fin 32) (v : Nat) : State :=
  let was := (s.chan c).state
  if (s.chanCfg c).inWindow v then
    (s.setChan c ((s.chanCfg c).take v)).notify c fun s r => s.notifyTaken r v (was != .ok)
  else if was = .ok then
    (s.setChan c { s.chan c with state := .held }).notify c State.notifyHeld
  else s

/-- R170: a sensor sample message. -/
def State.sample (s : State) (source value : Nat) : State :=
  match s.sourceChannel source with
  | some c => s.channelSample c ((s.chanCfg c).kind.clamp value)
  | none => { s with rejectedSamples := bump16 s.rejectedSamples }

/-- R171: the grace timer of a channel has expired. -/
def State.failChannel (s : State) (c : Fin 32) : State :=
  ((s.setChan c { s.chan c with state := .failed, grace := none }).raise .channelFailed).notify c State.notifyFailed

/-! ### Switch lines -/

/-- R173: the debouncer of a line. -/
def Debouncers.at (d : Debouncers) (line : SwitchLine) : Debouncer :=
  match line with
  | .holster p => d.holster.get p
  | .coupling p => d.coupling.get p
  | .metrology => d.metrology
  | .chillerFault => d.chillerFault

/-- R173: the debouncers with the one of a line replaced. -/
def Debouncers.put (d : Debouncers) (line : SwitchLine) (x : Debouncer) : Debouncers :=
  match line with
  | .holster p => { d with holster := setAt d.holster p x }
  | .coupling p => { d with coupling := setAt d.coupling p x }
  | .metrology => { d with metrology := x }
  | .chillerFault => { d with chillerFault := x }

/-- R173: the debounce time of a line, ms. -/
def State.debounceTime (s : State) (line : SwitchLine) : Nat :=
  match line with
  | .holster p => (s.cfg p).holsterDebounce
  | .coupling p => (s.cfg p).couplingDebounce
  | .metrology => Config.cabinetDebounce
  | .chillerFault => Config.cabinetDebounce

/-- R173 (1), (2): the debouncer after a raw change. -/
def Debouncer.rawChange (d : Debouncer) (level : Bool) (time : Nat) : Debouncer :=
  if level = d.raw then d
  else { d with raw := level, timer := if level = d.level then none else some time }

/-- R50 (4), (5): every position evaluates its start test, in ascending order. -/
def State.startTestAll (s : State) : State := allPositions.foldl State.startTest s

/-- R40: a debounced transition of the metrology switch. -/
def State.metrologyChange (s : State) (closed : Bool) : State :=
  if closed then ({ s with tradeLockOpen := false }).startTestAll
  else
    ({ s with tradeLockOpen := true, metrologyCount := bump16 s.metrologyCount }).raise .tradeLockOpen

/-- R173: a debounced event is handed to its block. -/
def State.switchEvent (s : State) (line : SwitchLine) (level : Bool) : State :=
  match line with
  | .holster p => if level then s.nozzleHolstered p else s.nozzleLifted p
  | .coupling p => if level then s.couplingClosed p else s.couplingOpened p
  | .metrology => s.metrologyChange level
  | .chillerFault => s.faultLineChange level

/-- R173 (3): the debounce timer of a line has expired. -/
def State.debounced (s : State) (line : SwitchLine) : State :=
  let level := (s.debouncers.at line).raw
  ({ s with debouncers := s.debouncers.put line ⟨level, level, none⟩ }).switchEvent line level

/-! ### Emergency shutdown -/

/-- R64: a position acts on the setting of the ESD latch. Its slot is not granted on, because every position that waits for
one ends its fill with the same setting. -/
def State.esdAtPosition (s : State) (p : Fin 4) : State := s.enterEndingCore p .esd

/-- R64, R174: the ESD latch sets, and every fill ends with ESD. CMP takes the setting before the positions do
(notes/assumptions/10.md). -/
def State.setEsdLatch (s : State) : State :=
  (allPositions.foldl State.esdAtPosition ({ s with esdLatch := true }).esdCauseSet).raise .esd

/-- R174: a change of the ESD line. -/
def State.esdLineAt (s : State) (active : Bool) : State :=
  let was := s.esdLine
  let s := { s with esdLine := active }
  if active && !was && !s.esdLatch then s.setEsdLatch else s

/-- R175: the ESD latch clears; CMP first, then the positions (notes/assumptions/11.md). -/
def State.clearEsdLatch (s : State) : State := (({ s with esdLatch := false }).esdCauseCleared).startTestAll

end Sys2Proof.Machine
end

