-- ==== Sys2Proof/Machine/Time.lean ====
section
/-! DEFINITION. The passing of time, in whole ms: what elapses together, the expiry of a timer, and the event that is due
(notes/assumptions/1.md to 4.md). A timer is the ms left, absent while stopped; an overdue timer waits at 0. -/

namespace Sys2Proof.Machine

/-- A timer after a time has passed. -/
def runDown (d : Nat) (t : Option Nat) : Option Nat := t.map fun x => x - d

/-- R85, R117: the timers of a position run on, its fill time counts from STARTING to HELD, and its hold accumulator in
HELD up to the maximum hold total. -/
def Position.elapse (d limit : Nat) (q : Position) : Position :=
  { q with
    coolWaitTimer := runDown d q.coolWaitTimer
    substateTimer := runDown d q.substateTimer
    resumeTimer := runDown d q.resumeTimer
    ramp := { q.ramp with stepTimer := runDown d q.ramp.stepTimer }
    link := { q.link with freshness := runDown d q.link.freshness }
    fillTime := if q.state.filling then satAdd Config.max32 q.fillTime d else q.fillTime
    holdTime := if q.state.isHeld then max q.holdTime (min limit (q.holdTime + d)) else q.holdTime }

/-- R138, R147: the state timer and the return times run on. -/
def Compressor.elapse (d : Nat) (c : Compressor) : Compressor :=
  { c with timer := runDown d c.timer, returns := c.returns.map fun x => x - d }

/-- R165: the fallback timers run on. -/
def Precool.elapse (d : Nat) (c : Precool) : Precool := { c with fallback := mapAll (runDown d) c.fallback }

/-- R171: the grace timer of a channel runs on. -/
def Channel.elapse (d : Nat) (c : Channel) : Channel := { c with grace := runDown d c.grace }

/-- R173: a debounce timer runs on. -/
def Debouncer.elapse (d : Nat) (x : Debouncer) : Debouncer := { x with timer := runDown d x.timer }

/-- R173: the debounce timers run on. -/
def Debouncers.elapse (d : Nat) (x : Debouncers) : Debouncers where
  holster := mapAll (Debouncer.elapse d) x.holster
  coupling := mapAll (Debouncer.elapse d) x.coupling
  metrology := x.metrology.elapse d
  chillerFault := x.chillerFault.elapse d

/-- R178: the gap since the last byte of a frame grows. -/
def Receiver.elapse (d : Nat) (r : Receiver) : Receiver :=
  match r with
  | .hunting inRun => .hunting inRun
  | .assembling bytes gap => .assembling bytes (gap - d)

/-- A position of the site after a time has passed. -/
def State.agedPos (s : State) (d : Nat) (p : Fin 4) : Position := (s.pos p).elapse d (s.cfg p).holdLimit

/-- R106, R117 (2): whether a ticket is the one of a fill in HELD. -/
def State.holdsFill (s : State) (t : Ticket) : Bool :=
  decide ((s.pos t.position).active = some t.number) && (s.pos t.position).state.isHeld

/-- A ticket after a time has passed. R8: its authorization window runs on. R106, R117 (2): in HELD each whole second of the
hold accumulator is written into it as the second completes. -/
def State.agedTicket (s : State) (d : Nat) (t : Ticket) : Ticket :=
  { t with
    window := runDown d t.window
    holdUsed := if s.holdsFill t then (s.agedPos d t.position).holdTime / 1000 else t.holdUsed }

/-- R185: the site clock after a time has passed; it counts the seconds that complete, modulo 2^32. -/
def State.agedClock (s : State) (d : Nat) : Word32 := s.clock + BitVec.ofNat 32 ((s.clockPhase.val + d) / 1000)

/-- `d` ms pass at every block: timers run down, fill times and hold accumulators count up, and the seconds that complete
are counted by the site clock and by the hold time of the fills in HELD. -/
def State.elapse (d : Nat) (s : State) : State :=
  if d = 0 then s
  else
    { s with
      tickets := mapAll (Option.map (s.agedTicket d)) s.tickets
      positions := #v[s.agedPos d 0, s.agedPos d 1, s.agedPos d 2, s.agedPos d 3]
      compressor := s.compressor.elapse d
      precool := s.precool.elapse d
      channels := mapAll (Channel.elapse d) s.channels
      debouncers := s.debouncers.elapse d
      receiver := s.receiver.elapse d
      clock := s.agedClock d
      clockPhase := Fin.ofNat 1000 (s.clockPhase.val + d) }

/-- The expiry of a timer: the time left on it passes, then the event acts. A stopped timer does not expire. -/
def expire (left : Option Nat) (s : State) (event : State → State) : State :=
  match left with
  | some d => event (s.elapse d)
  | none => s

/-! ### The time left on each timer -/

/-- R178: the time left until the gap within a frame is too long. -/
def State.gapLeft (s : State) : Option Nat :=
  match s.receiver with
  | .hunting _ => none
  | .assembling _ gap => some gap

/-- R8: the time left of the window of a ticket. -/
def State.windowLeft (s : State) (n : Nat) : Option Nat := (s.ticket n).bind Ticket.window

/-- R44, R52, R53, R54: the time left of a start substate. -/
def State.substateLeft (s : State) (p : Fin 4) (sub : Substate) : Option Nat :=
  if (s.pos p).state = .starting sub then (s.pos p).substateTimer else none

/-- R56: the time left of the cool wait. -/
def State.coolWaitLeft (s : State) (p : Fin 4) : Option Nat :=
  if (s.pos p).state = .starting .coolWait then (s.pos p).coolWaitTimer else none

/-- R76: the time left to the next control step. -/
def State.stepLeft (s : State) (p : Fin 4) : Option Nat :=
  if (s.pos p).state = .fuelling then (s.pos p).ramp.stepTimer else none

/-- R61: the time left of the vent. -/
def State.ventLeft (s : State) (p : Fin 4) : Option Nat :=
  if (s.pos p).state = .ending then (s.pos p).substateTimer else none

/-- R115: the time left of the resume delay. -/
def State.delayLeft (s : State) (p : Fin 4) : Option Nat :=
  if (s.pos p).state = .held .delay then (s.pos p).resumeTimer else none

/-- R117 (2): the time left until the hold accumulator completes its running second. -/
def State.holdSecondLeft (s : State) (p : Fin 4) : Option Nat :=
  if (s.pos p).state.isHeld ∧ (s.pos p).holdTime < (s.cfg p).holdLimit then some (1000 - (s.pos p).holdTime % 1000)
  else none

/-- R117 (3): the time left until the hold accumulator reaches the maximum hold total. -/
def State.holdTotalLeft (s : State) (p : Fin 4) : Option Nat :=
  if (s.pos p).state.isHeld then some ((s.cfg p).holdLimit - (s.pos p).holdTime) else none

/-- R97: the time left of the freshness timer, which runs in STREAM only. -/
def State.freshnessLeft (s : State) (p : Fin 4) : Option Nat :=
  if (s.pos p).link.state = .stream then (s.pos p).link.freshness else none

/-- R143, R144, R150: the time left on the state timer of the compressor in a state. -/
def State.compressorLeft (s : State) (c : CompressorState) : Option Nat :=
  if s.compressor.state = c then s.compressor.timer else none

/-- R185: the time left of the running second of the site clock. -/
def State.clockLeft (s : State) : Nat := 1000 - s.clockPhase.val

/-! ### What is due -/

/-- The event of a timer whose time is up. -/
def due (left : Option Nat) (c : Instr) : Option Instr := if left = some 0 then some c else none

/-- The events of one position that are due, in the model's order. -/
def State.duePosition (s : State) (p : Fin 4) : List (Option Instr) :=
  [due (s.debouncers.at (.holster p)).timer (.debounceExpiry (.holster p)),
   due (s.debouncers.at (.coupling p)).timer (.debounceExpiry (.coupling p)),
   due (s.freshnessLeft p) (.freshnessExpiry p),
   due (s.substateLeft p .pulse) (.pulseTimeEnd p),
   due (s.substateLeft p .settle) (.settleTimeEnd p),
   due (s.substateLeft p .leakCheck) (.leakCheckTimeEnd p),
   due (s.coolWaitLeft p) (.coolWaitExpiry p),
   due (s.ventLeft p) (.ventTimeEnd p),
   due (s.holdTotalLeft p) (.holdTotalExpiry p),
   due (s.delayLeft p) (.resumeDelayExpiry p),
   due (s.precool.fallback.get p) (.fallbackExpiry p),
   due (s.stepLeft p) (.controlStep p)]

/-- The window of the ticket in a slot, when it is due. -/
def State.dueWindow (s : State) (i : Fin 32) : Option Instr :=
  (s.tickets.get i).bind fun t => due t.window (.authWindowExpiry (BitVec.ofNat 16 t.number))

/-- The events that are due, in the model's order (notes/assumptions/4.md). The seconds of the site clock and of the hold
accumulators are not among them, because `State.elapse` counts them as they complete. -/
def State.dueEvents (s : State) : List (Option Instr) :=
  [due s.gapLeft .frameGapTimeout] ++
  (List.finRange 32).map (fun c => due (s.chan c).grace (.graceTimerExpiry c)) ++
  [due (s.debouncers.at .metrology).timer (.debounceExpiry .metrology),
   due (s.debouncers.at .chillerFault).timer (.debounceExpiry .chillerFault)] ++
  allPositions.flatMap s.duePosition ++
  (List.finRange 32).map s.dueWindow ++
  [due (s.compressorLeft .starting) .startTimeEnd,
   due (s.compressorLeft .unloaded) .unloadedTimeEnd,
   due (s.compressorLeft .lockout) .lockoutTimeEnd,
   due s.compressor.returns.head? .creditReturn]

/-- What the part does by itself when no command waits: it takes the waiting frame, else the first due event (R179). -/
def State.internalCommand (s : State) : Option Instr :=
  (s.inputBuffer.head?.map Frame.request).or (s.dueEvents.findSome? id)

end Sys2Proof.Machine
end

