-- ==== Sys2Proof/Machine/Outputs.lean ====
section
/-! DEFINITION. The output lines of R176, as views of the state that each owner holds (notes/assumptions/16.md). The
attention line is State.attention in Machine/Flags.lean. -/

namespace Sys2Proof.Machine

/-- R46: the control valve output of a position, permille. -/
def State.valveOutput (s : State) (p : Fin 4) : Nat := (s.pos p).valve

/-- R60, R61: the vent output of a position is open in ENDING. -/
def State.ventOpen (s : State) (p : Fin 4) : Bool := (s.pos p).state == .ending

/-- R130: the bank-to-position line is open while the position is in the bank's draw set. -/
def State.bankLineOpen (s : State) (b : Fin 6) (p : Fin 4) : Bool := s.inDrawSet b p

/-- R137: the refill line of a bank is open while the bank is ACTIVE. -/
def State.refillLineOpen (s : State) (b : Fin 6) : Bool := s.compressor.activeBank == some b

/-- R137: the compressor motor output. -/
def State.motorOutput (s : State) : Bool := s.compressor.state.motorOn

/-- R154: the chiller output is on in PULLDOWN and READY. -/
def State.chillerOutput (s : State) : Bool := s.precool.chiller == .pulldown || s.precool.chiller == .ready

/-- 9.6: the supply inhibit is set while the supply cause is not CLEAR or the ESD cause is set. -/
def Compressor.inhibit (c : Compressor) : Bool := c.supply != .clear || c.esdCause


end Sys2Proof.Machine
end

