-- ==== Sys2Proof/Machine/Replies.lean ====
section
/-! DEFINITION. The replies: the codes of 12.6.2, 12.6.4 and 12.6.8, the payload layouts of 12.6.4 to 12.6.10, the CRC and
the reply frame of 12.6.1. -/

namespace Sys2Proof.Machine

/-! ### Numbers -/

/-- A number in one byte. -/
def out8 (x : Nat) : Byte := BitVec.ofNat 8 x

/-- A number in two bytes, most significant byte first. -/
def out16 (x : Nat) : List Byte := bytes16 (BitVec.ofNat 16 x)

/-- A number in four bytes, most significant byte first. -/
def out32 (x : Nat) : List Byte := bytes32 (BitVec.ofNat 32 x)

/-- A signed number in four bytes, in two's complement. -/
def outSigned (x : Int) : List Byte := bytes32 (BitVec.ofInt 32 x)

/-- 12.6.8: a yes or no field. -/
def outBool (b : Bool) : Byte := if b then 1 else 0

/-- 12.6: the time left on a timer, 0xFFFFFFFF while it is stopped. -/
def outTimer (t : Option Nat) : List Byte := out32 (t.getD Config.max32)

/-- A number whose bits, from the least significant, are given. -/
def bitNumber (bits : List Bool) : Nat := bits.foldr (fun b n => b.toNat + 2 * n) 0

/-- A tag; an absent one is sent as 0. -/
def outTag (t : Option Tag) : List Byte := (t.map tagBytes).getD (List.replicate 8 0)

/-- Bytes sent as 0 up to a length. -/
def padTo (n : Nat) (l : List Byte) : List Byte := l ++ List.replicate (n - l.length) 0

/-! ### Codes -/

/-- 12.6.2. -/
def Result.code (r : Result) : Nat :=
  match r with
  | .ok => 0
  | .okReduced => 1
  | .refusedState => 2
  | .notFound => 3
  | .tableFull => 4
  | .badValue => 5
  | .locked => 6
  | .notPermitted => 7
  | .notCommissioned => 8
  | .insufficient => 9
  | .noStock => 10
  | .unknownRequest => 11

/-- 12.6.4: the end reasons. -/
def EndReason.code (r : EndReason) : Nat :=
  match r with
  | .authExpired => 1
  | .restart => 2
  | .powerFail => 3
  | .decommissioned => 4
  | .decoupled => 5
  | .supervisorStop => 6
  | .esd => 7
  | .noSupply => 8
  | .tankUnsafe => 9
  | .leak => 10
  | .tagMismatch => 11
  | .tagUnverified => 12
  | .classMismatch => 13
  | .noProfile => 14
  | .noCooling => 15
  | .startFull => 16
  | .endPressure => 17
  | .endSoc => 18
  | .tankHot => 19
  | .presetMass => 20
  | .presetAmount => 21
  | .fillTime => 22
  | .linkLost => 23
  | .vehicleAbort => 24
  | .sensorFail => 25
  | .bankLow => 26
  | .precool => 27
  | .sensor => 28
  | .meter => 29
  | .holdExpired => 30

/-- 12.6.4: the ticket states. -/
def TicketState.code (x : TicketState) : Nat :=
  match x with
  | .opened => 0
  | .authorized => 1
  | .fuelling => 2
  | .ended => 3

/-- 12.6.4: the attachments. -/
def Attachment.code (x : Attachment) : Nat :=
  match x with
  | .active => 0
  | .staged => 1
  | .detached => 2

/-- 12.6.8: the classes. -/
def NozzleClass.code (x : NozzleClass) : Nat :=
  match x with
  | .h70 => 1
  | .h35 => 2

/-- 12.6.8: a class permission, or the classes that a bank serves. -/
def classesCode (h70 h35 : Bool) : Nat := h70.toNat + 2 * h35.toNat

/-- 12.6.8: the grades. -/
def Grade.code (x : Grade) : Nat :=
  match x with
  | .g0 => 0
  | .g1 => 1
  | .g2 => 2
  | .g3 => 3

/-- 12.6.8: the comm modes. -/
def CommMode.code (x : CommMode) : Nat :=
  match x with
  | .comm => 0
  | .noncomm => 1

/-- 12.6.8: the start variants. -/
def StartVariant.code (x : StartVariant) : Nat :=
  match x with
  | .pulseCheck => 0
  | .pulseOnly => 1

/-- 12.6.8: the authorization modes. -/
def AuthMode.code (x : AuthMode) : Nat :=
  match x with
  | .autonomous => 0
  | .supervised => 1

/-- 12.6.5: the account status. -/
def AccountStatus.code (x : AccountStatus) : Nat :=
  match x with
  | .active => 0
  | .blocked => 1
  | .overdrawn => 2

/-- 12.6.8: the position states. -/
def PosState.code (x : PosState) : Nat :=
  match x with
  | .closed => 0
  | .idle => 1
  | .calling => 2
  | .starting _ => 3
  | .fuelling => 4
  | .held _ => 5
  | .ending => 6
  | .ended => 7

/-- 12.6.8: the start substate, 255 outside STARTING. -/
def PosState.substateCode (x : PosState) : Nat :=
  match x with
  | .starting .pulse => 0
  | .starting .settle => 1
  | .starting .leakCheck => 2
  | .starting .coolWait => 3
  | .closed | .idle | .calling | .fuelling | .held _ | .ending | .ended => 255

/-- 12.6.8: the release condition, 255 outside HELD. -/
def PosState.releaseCode (x : PosState) : Nat :=
  match x with
  | .held .factorWait => 0
  | .held .delay => 1
  | .held .demandWait => 2
  | .closed | .idle | .calling | .starting _ | .fuelling | .ending | .ended => 255

/-- 12.6.8: the link states. -/
def LinkState.code (x : LinkState) : Nat :=
  match x with
  | .off => 0
  | .listen => 1
  | .stream => 2
  | .stalled => 3
  | .lost => 4

/-- 12.6.8: the vehicle commands. -/
def VehicleCommand.code (x : VehicleCommand) : Nat :=
  match x with
  | .run => 0
  | .halt => 1
  | .abort => 2

/-- 12.6.8: the refill statuses. -/
def RefillStatus.code (x : RefillStatus) : Nat :=
  match x with
  | .none => 0
  | .queued => 1
  | .active => 2

/-- 12.6.8: the compressor states. -/
def CompressorState.code (x : CompressorState) : Nat :=
  match x with
  | .stopped => 0
  | .starting => 1
  | .running => 2
  | .unloaded => 3
  | .suspended => 4
  | .lockout => 5

/-- 12.6.8: the supply causes. -/
def SupplyCause.code (x : SupplyCause) : Nat :=
  match x with
  | .clear => 0
  | .below => 1
  | .noValue => 2

/-- 12.6.8: the chiller states. -/
def ChillerState.code (x : ChillerState) : Nat :=
  match x with
  | .off => 0
  | .pulldown => 1
  | .ready => 2
  | .fault => 3

/-- 12.6.8: the channel states. -/
def ChannelState.code (x : ChannelState) : Nat :=
  match x with
  | .ok => 0
  | .held => 1
  | .failed => 2

/-- 12.6.8: the channel kinds. -/
def ChannelKind.code (x : ChannelKind) : Nat :=
  match x with
  | .pressure => 0
  | .temperature => 1

/-- 12.6.8: the channel users. -/
def Role.code (r : Role) : Nat :=
  match r with
  | .pDisp p => 1 + p.val
  | .tGas p => 5 + p.val
  | .bankP b => 9 + b.val
  | .bankT b => 15 + b.val
  | .supply => 21
  | .discharge => 22
  | .coolant => 23
  | .ambient => 24

/-- 12.6.8: the grade in a reply, 255 when absent. -/
def gradeCode (g : Option Grade) : Nat := (g.map Grade.code).getD 255

/-- 12.6.8: a channel named by a position or a bank, 255 for none. -/
def namedCode (c : Option (Fin 32)) : Nat := (c.map Fin.val).getD 255

/-- 12.6.8: a bank named by a position or the compressor, 255 for none. -/
def bankCode (b : Option (Fin 6)) : Nat := (b.map Fin.val).getD 255

/-- 12.6.8: a holster or coupling level, 0 for closed. -/
def contactCode (closed : Bool) : Nat := if closed then 0 else 1

/-- 12.6.8: the factor set. -/
def FactorSet.code (f : FactorSet) : Nat :=
  bitNumber [f.vehicleHalt, f.supervisor, f.bankLow, f.precool, f.sensor, f.meter]

/-! ### The value and the state of a channel that serves a role -/

/-- The channel that a record names for a role, when it serves that role (notes/assumptions/20.md). -/
def State.serving (s : State) (named : Option (Fin 32)) (r : Role) : Option (Fin 32) :=
  if s.configured named r then named else none

/-- 12.6.8: the value of a channel in two bytes, then its state; 0 and 255 where no channel serves the role. -/
def State.outChannel (s : State) (c : Option (Fin 32)) : List Byte :=
  match c with
  | some c => out16 (s.chan c).value ++ [out8 (s.chan c).state.code]
  | none => out16 0 ++ [255]

/-! ### Records -/

/-- 12.6.4: the presence bits of a ticket record. -/
def Ticket.presence (t : Ticket) : Nat :=
  bitNumber
    [t.authorizer.isSome, t.account.isSome, t.presetMass.isSome, t.presetAmount.isSome, t.hold.isSome, t.price.isSome,
     t.expectedTag.isSome, t.metrologyCount.isSome, t.profile.isSome, t.grade.isSome, t.commMode.isSome,
     t.pInit.isSome, t.finalPressure.isSome, t.lastSoc.isSome, t.peakTGas.isSome, t.startTime.isSome,
     t.endTime.isSome, t.endReason.isSome]

/-- 12.6.4: bytes 0 to 31 of a ticket record. -/
def Ticket.recordHead (t : Ticket) : List Byte :=
  out16 t.number ++
  [out8 t.state.code, out8 t.position.val, out8 t.attachment.code, out8 t.opener.val, out8 t.nozzleClass.code,
   out8 ((t.authorizer.map AuthMode.code).getD 0), outBool t.reduced, out8 (t.presence / 65536)] ++
  out16 t.presence ++ out32 (t.account.getD 0) ++ out32 (t.presetMass.getD 0) ++ out32 (t.presetAmount.getD 0) ++
  out32 (t.hold.getD 0) ++ out32 (t.price.getD 0)

/-- 12.6.4: bytes 32 to 75 of a ticket record. That byte 43 is 0 for an absent grade, as 12.6.4 and its presence bit have it, and
not the 255 that 12.6.8 gives a grade in replies, is the model's choice (notes/assumptions/39.md). -/
def Ticket.recordTail (t : Ticket) : List Byte :=
  outTag t.expectedTag ++ out16 (t.metrologyCount.getD 0) ++
  [out8 ((t.profile.map Fin.val).getD 0), out8 ((t.grade.map Grade.code).getD 0),
   out8 ((t.commMode.map CommMode.code).getD 0), out8 ((t.endReason.map EndReason.code).getD 0)] ++
  out32 t.mass ++ out32 t.grams ++ out32 t.amount ++ out16 (t.pInit.getD 0) ++ out16 (t.finalPressure.getD 0) ++
  out16 (t.lastSoc.getD 0) ++ out16 (t.peakTGas.getD 0) ++ bytes32 (t.startTime.getD 0) ++
  bytes32 (t.endTime.getD 0) ++ out16 t.holdUsed

/-- 12.6.4: the ticket record, 76 bytes. -/
def Ticket.record (t : Ticket) : List Byte := t.recordHead ++ t.recordTail

/-- 12.6.5: kind code of the money fields. -/
def Money.code (m : Money) : Nat :=
  match m with
  | .prepaid _ => 0
  | .credit _ _ => 1

/-- 12.6.5: bytes 8 to 15 of an account record. -/
def Money.record (m : Money) : List Byte :=
  match m with
  | .prepaid balance => outSigned balance ++ out32 0
  | .credit limit spent => out32 limit ++ out32 spent

/-- 12.6.10: the new balance or the new spent of CREDIT_ACCOUNT. -/
def Money.standing (m : Money) : List Byte :=
  match m with
  | .prepaid balance => outSigned balance
  | .credit _ spent => out32 spent

/-- 12.6.5: the account record, 36 bytes. -/
def Account.record (a : Account) : List Byte :=
  out32 a.number ++
  [out8 a.money.code, out8 a.status.code, out8 (classesCode a.permitsH70 a.permitsH35),
   out8 (bitNumber [a.perFillMax.isSome, a.tag.isSome])] ++
  a.money.record ++ out32 a.held ++ out32 (a.perFillMax.getD 0) ++ outTag a.tag ++ out32 a.available

/-- 12.6.10: a fill profile entry as stored, in the layout of WRITE_PROFILE; an entry not in use holds no fields. -/
def profileRecord (i : Fin 16) (entry : Option FillProfile) : List Byte :=
  match entry with
  | none => padTo 29 [out8 i.val]
  | some f =>
    let comm := f.comm.getD ⟨0, 0, 0, 0⟩
    [out8 i.val, 1, out8 f.nozzleClass.code, out8 f.grade.code, if f.comm.isSome then 0 else 1] ++
    out16 f.ambientLow ++ out16 f.ambientHigh ++ out16 comm.volumeLow ++ out16 comm.volumeHigh ++ out16 f.rampRate ++
    out16 f.endPressure ++ out16 comm.tankLimit ++ out16 f.taperSoc ++ out16 comm.endSoc ++
    [out8 f.variant.code, out8 f.leakTolerance] ++ out16 f.switchDiff ++ [out8 f.gain, 0]

/-- 12.6.9, 12.6.10: the configuration fields of a bank, 13 bytes. -/
def bankRecord (b : Fin 6) (c : BankConfig) : List Byte :=
  [out8 b.val, outBool c.inService, out8 (classesCode c.servesH70 c.servesH35)] ++ out16 c.rated ++ out16 c.volume ++
  out16 c.refillTarget ++ out16 c.refillStart ++ [out8 (namedCode c.pChannel), out8 (namedCode c.tChannel)]

/-- 12.6.9, 12.6.10: the configuration fields of a channel, 10 bytes. -/
def channelRecord (i : Fin 32) (c : ChannelConfig) : List Byte :=
  [out8 i.val, out8 ((c.user.map Role.code).getD 0), out8 c.kind.code, out8 c.source] ++ out16 c.windowMin ++
  out16 c.windowMax ++ out16 c.grace

/-! ### Status replies (12.6.7, 12.6.10) -/

/-- R66: the cooling slot of a position. -/
def State.slotCode (s : State) (p : Fin 4) : Nat :=
  if s.precool.holders.has p then 1 else if p ∈ s.precool.waitQueue then 2 else 0

/-- 12.6.10: the presence bits of READ_POSITION. -/
def Position.presence (q : Position) : Nat :=
  bitNumber
    [q.pInit.isSome, q.variant.isSome, q.ramp.profile.isSome, q.ramp.target.isSome, q.link.vehicleClass.isSome,
     q.link.volume.isSome, q.link.tag.isSome, q.link.tankPressure.isSome, q.link.tankTemperature.isSome,
     q.link.lastBit.isSome, q.link.expectedBit.isSome, q.link.lastCommand.isSome]

/-- 12.6.10: bytes 0 to 21 of READ_POSITION. R66: the opening as it stands in every state, also where R83 has the values of the
last step made (the model's reading, notes/assumptions/41.md). -/
def State.positionHead (s : State) (p : Fin 4) : List Byte :=
  let q := s.pos p
  [out8 q.state.code, out8 q.state.substateCode] ++ out16 (q.active.getD 0) ++ out16 (q.staged.getD 0) ++
  out16 q.valve ++ [outBool (s.ventOpen p), out8 (bankCode q.drawBank), out8 (gradeCode (s.grade p)),
    out8 (s.slotCode p)] ++
  out16 q.presence ++ out16 (q.pInit.getD 0) ++
  [out8 ((q.variant.map StartVariant.code).getD 0), out8 (q.leakTolerance.getD 0)] ++ out32 q.fillTime

/-- 12.6.10: bytes 22 to 34 of READ_POSITION. -/
def State.positionField (s : State) (p : Fin 4) : List Byte :=
  let q := s.pos p
  s.outChannel (s.serving (s.cfg p).pDisp (.pDisp p)) ++ s.outChannel (s.serving (s.cfg p).tGas (.tGas p)) ++
  [out8 (contactCode (s.debouncers.holster.get p).level), out8 (contactCode (s.debouncers.coupling.get p).level),
   out8 q.factors.code, out8 q.state.releaseCode, outBool q.resumeTimer.isSome] ++ out16 (q.holdTime / 1000)

/-- 12.6.10: bytes 35 to 50 of READ_POSITION. R66: the ramp context as it stands in every state, so that a re-lookup or a rebase
after the last step shows (R71, R72; the model's reading, notes/assumptions/41.md). -/
def RampContext.record (r : RampContext) : List Byte :=
  [out8 ((r.profile.map Fin.val).getD 0)] ++ out32 r.time ++ [outBool r.taper] ++ out32 (r.target.getD 0) ++
  outSigned r.error ++ [out8 r.starved, out8 r.lagging]

/-- R105, 12.6.10: bytes 51 to 75 of READ_POSITION. -/
def LinkContext.record (l : LinkContext) : List Byte :=
  [out8 l.state.code, out8 ((l.vehicleClass.map NozzleClass.code).getD 0)] ++ out16 (l.volume.getD 0) ++
  outTag l.tag ++ out16 (l.tankPressure.getD 0) ++ out16 (l.tankTemperature.getD 0) ++
  [outBool (l.lastBit.getD false), outBool (l.expectedBit.getD false),
   out8 ((l.lastCommand.map VehicleCommand.code).getD 0)] ++
  out16 l.rejected ++ out16 l.repeated ++ out16 l.ignored

/-- R66: the READ_POSITION reply, 79 bytes. -/
def State.positionReply (s : State) (p : Fin 4) : List Byte :=
  let q := s.pos p
  s.positionHead p ++ s.positionField p ++ q.ramp.record ++ q.link.record ++
  [out8 q.phaseFaults] ++ out16 q.stray

/-- R136: the READ_BANK reply, 34 bytes. P and T are those of the bank record. -/
def State.bankReply (s : State) (b : Fin 6) : List Byte :=
  let c := s.bankCfg b
  let x := s.bank b
  let stateOf (named : Option (Fin 32)) (r : Role) : Byte :=
    out8 (((s.namedState (s.serving named r)).map ChannelState.code).getD 255)
  let valueOf (named : Option (Fin 32)) (r : Role) (v : Nat) : List Byte :=
    out16 (if (s.serving named r).isSome then v else 0)
  bankRecord b c ++ valueOf c.pChannel (.bankP b) x.p ++ [stateOf c.pChannel (.bankP b)] ++
  valueOf c.tChannel (.bankT b) x.t ++ [stateOf c.tChannel (.bankT b)] ++ out32 x.inventory ++
  [outBool x.isolated, (s.drawSet b).toByte, out8 (s.refillStatus b).code] ++
  out32 (s.usableInventory .h70) ++ out32 (s.usableInventory .h35)

/-- R152: the READ_COMPRESSOR reply, 55 bytes. -/
def State.compressorReply (s : State) : List Byte :=
  let c := s.compressor
  [out8 c.state.code, out8 (bankCode c.activeBank)] ++ outTimer c.timer ++ [out8 c.queue.length] ++
  padTo 12 (c.queue.flatMap fun b => [out8 b.val, out8 (s.refillStatus b).code]) ++
  [out8 c.credits, out8 c.returns.length] ++ padTo 24 (c.returns.flatMap out32) ++
  [outBool c.creditWait, out8 c.supply.code, outBool c.esdCause, outBool c.inhibit] ++
  s.outChannel (s.roleChannel .supply) ++ s.outChannel (s.roleChannel .discharge)

/-- R166: the READ_PRECOOL reply, 53 bytes. -/
def State.precoolReply (s : State) : List Byte :=
  let c := s.precool
  [out8 c.chiller.code, outBool c.faultLine, outBool c.coolantCause] ++ s.outChannel (s.roleChannel .coolant) ++
  [outBool c.coolantSeen, out8 c.offered.code] ++ out16 s.site.readyThreshold ++
  [out8 s.site.slotCount, c.holders.toByte, out8 c.waitQueue.length] ++
  padTo 20 (c.waitQueue.flatMap fun p => out8 p.val :: outTimer (s.pos p).coolWaitTimer) ++
  allPositions.flatMap fun p => out8 (gradeCode (s.grade p)) :: outTimer (c.fallback.get p)

/-- R177: the READ_CHANNEL reply, 22 bytes. -/
def State.channelReply (s : State) (c : Fin 32) : List Byte :=
  let x := s.chan c
  channelRecord c (s.chanCfg c) ++ [out8 x.state.code] ++ out16 x.value ++ [outBool x.taken] ++ outTimer x.grace ++
  out16 s.rejectedSamples ++ [outBool s.esdLatch, outBool s.esdLine]

/-- R39: the READ_METROLOGY reply, 11 bytes. -/
def State.metrologyReply (s : State) : List Byte :=
  allPositions.flatMap (fun p => out16 (s.pulseWeights.get p)) ++ out16 s.metrologyCount ++ [outBool s.tradeLockOpen]

/-- 12.6.7: the READ_EVENTS reply, 16 bytes. -/
def State.eventsReply (s : State) : List Byte :=
  bytes32 (s.pendingFlags.setWidth 32) ++ bytes32 (s.site.eventMask.setWidth 32) ++ out16 s.discardedFrames ++
  out16 s.bufferOverruns ++ bytes32 s.clock

/-! ### Frames (12.6.1) -/

/-- 12.6: one bit of the CRC-16. -/
def crcBit (c : Word16) : Word16 := if c.getLsbD 15 then (c <<< 1) ^^^ 0x1021 else c <<< 1

/-- 12.6: one byte of the CRC-16. -/
def crcByte (c : Word16) (b : Byte) : Word16 :=
  crcBit (crcBit (crcBit (crcBit (crcBit (crcBit (crcBit (crcBit (c ^^^ (b ++ 0#8)))))))))

/-- 12.6: the CRC-16 of a list of bytes. -/
def crc16 (bytes : List Byte) : Word16 := bytes.foldl crcByte 0xFFFF

/-- 12.6.1: the bytes of a request frame that its CRC covers. -/
def requestBytes (f : RawFrame) : List Byte :=
  [f.address, f.tag, f.code] ++ out16 f.payload.length ++ f.payload

/-- 12.6.1: the bytes of a reply that its CRC covers. -/
def Reply.covered (r : Reply) : List Byte :=
  [out8 r.sender.val, r.tag, r.code, out8 r.result.code] ++ out16 r.payload.length ++ r.payload

/-- 12.6.1: the reply frame. -/
def Reply.frame (r : Reply) : List Byte := 0x5A :: (r.covered ++ bytes16 (crc16 r.covered))

end Sys2Proof.Machine
end

