-- ==== Sys2Proof/Machine/SiteLink.lean ====
section
/-! DEFINITION. The site link: the receiver, the checks of a complete frame, and the input frame buffer (R178, R179). -/

namespace Sys2Proof.Machine

/-- R178 (4): a frame is abandoned or discarded, or a run of bytes is dropped. -/
def State.countDiscarded (s : State) : State := { s with discardedFrames := bump16 s.discardedFrames }

/-- R178 (3), R180: the checked frame that a complete frame gives; absent when it fails a check. -/
def checkedFrame (f : RawFrame) : Option Frame :=
  if h : f.address.toNat < 5 then
    if crc16 (requestBytes f) = f.crc ∧ ((requestLength f.code).all fun n => n == f.payload.length) = true then
      some ⟨⟨f.address.toNat, h⟩, f.tag, f.code, f.payload⟩
    else none
  else none

/-- R179 (1): a checked frame is appended to the buffer, or lost to an overrun, which raises the buffer-overrun count and not
the discarded-frame count (notes/assumptions/38.md). -/
def State.appendFrame (s : State) (f : Frame) : State :=
  if s.inputBuffer.length < Config.bufferFrames then { s with inputBuffer := s.inputBuffer ++ [f] }
  else { s with bufferOverruns := bump16 s.bufferOverruns }

/-- R178, R179: a complete frame is checked, then discarded or appended. -/
def State.completeFrame (s : State) (f : RawFrame) : State :=
  match checkedFrame f with
  | some f => s.appendFrame f
  | none => s.countDiscarded

/-- R178 (1): the receiver hunts again, with no run of dropped bytes begun. -/
def State.hunt (s : State) : State := { s with receiver := .hunting false }

/-- R178 (2): the frame is abandoned. -/
def State.abandonFrame (s : State) : State := s.hunt.countDiscarded

/-- R178 (1): a byte received while hunting. A run of dropped bytes raises the count once; that it does so at the first byte
of the run is the model's choice (notes/assumptions/36.md). -/
def State.huntByte (s : State) (inRun : Bool) (value : Byte) (stopOk : Bool) : State :=
  if stopOk && value == 0xA5 then { s with receiver := .assembling [] Config.frameGap }
  else if inRun then s
  else { s with receiver := .hunting true }.countDiscarded

/-- 12.6.1: the length field of the bytes after the start byte. -/
def lengthField (bytes : List Byte) : Nat := (u16 bytes 3).toNat

/-- 12.6.1: the frame that the bytes after the start byte spell. -/
def frameOfBytes (bytes : List Byte) : RawFrame :=
  let n := lengthField bytes
  ⟨u8 bytes 0, u8 bytes 1, u8 bytes 2, (bytes.drop 5).take n, u16 bytes (5 + n)⟩

/-- R178 (2): a good byte received while assembling; `bytes` are those after the start byte, this one among them. -/
def State.assembleByte (s : State) (bytes : List Byte) : State :=
  if 5 ≤ bytes.length && decide (Config.maxPayload < lengthField bytes) then s.abandonFrame
  else if 5 ≤ bytes.length && bytes.length == lengthField bytes + 7 then s.hunt.completeFrame (frameOfBytes bytes)
  else { s with receiver := .assembling bytes Config.frameGap }

/-- R178 (2): a partly received frame whose gap is too long already is abandoned before anything further arrives. -/
def State.abandonOverdue (s : State) : State :=
  match s.receiver with
  | .assembling _ 0 => s.abandonFrame
  | .assembling _ (_ + 1) | .hunting _ => s

/-- REQUEST_FRAME (R178, R179): a complete request frame arrives; a payload longer than 512 bytes abandons it. A partial frame
that is still within its gap is dropped and not counted, which is the model's choice (notes/assumptions/40.md). -/
def execRequestFrame (f : RawFrame) (s : State) : Host.Outcome State Fault Refusal :=
  let s := s.abandonOverdue
  .next (if Config.maxPayload < f.payload.length then s.abandonFrame else s.hunt.completeFrame f)

/-- FRAME_GAP_TIMEOUT (R178): the gap between two bytes of a frame exceeds 5 ms. -/
def execFrameGapTimeout (s : State) : Host.Outcome State Fault Refusal :=
  .next (expire s.gapLeft s State.abandonFrame)

/-- UNKNOWN_REQUEST (R179): a taken frame whose code is not in the catalogue. -/
def execUnknownRequest (h : Header) (code : Byte) (s : State) : Host.Outcome State Fault Refusal :=
  answer (.unknownRequest h code) h code s fun s => refuse s .unknownRequest

/-- RECEIVED_BYTE (R178): a byte with its stop bit. When the gap before it exceeds 5 ms, the frame is abandoned and the byte is
received while hunting. -/
def execReceivedByte (value : Byte) (stopOk : Bool) (s : State) : Host.Outcome State Fault Refusal :=
  let s := s.abandonOverdue
  .next
    (match s.receiver with
    | .hunting inRun => s.huntByte inRun value stopOk
    | .assembling bytes _ => if stopOk then s.assembleByte (bytes ++ [value]) else s.abandonFrame)

end Sys2Proof.Machine
end

