-- ==== Sys2Proof/Machine/Lifecycle.lean ====
section
/-! DEFINITION. The commands that act on every block at once: RESTART, COMMISSION, DECOMMISSION and FACTORY_CLEAR (R19 to
R21, R42, R45, R47, R124, R137, R154, R169, R173, R174, R182 to R187). -/

namespace Sys2Proof.Machine

/-! ### Restart -/

/-- R19: a ticket at restart. -/
def Ticket.atRestart (t : Ticket) (clock : Word32) : Ticket :=
  match t.state with
  | .opened | .authorized => t.endUnused .restart clock
  | .fuelling =>
    { t with
      state := .ended
      endReason := some .powerFail
      amount := t.billed
      endTime := some clock
      attachment := .detached
      window := none }
  | .ended => { t with attachment := .detached, window := none }

/-- R45, R86: the positions at restart. -/
def positionsAtRestart (lines : FieldLines) : Vector Position 4 :=
  #v[.atRestart (lines.meterA.get 0) (lines.meterB.get 0), .atRestart (lines.meterA.get 1) (lines.meterB.get 1),
     .atRestart (lines.meterA.get 2) (lines.meterB.get 2), .atRestart (lines.meterA.get 3) (lines.meterB.get 3)]

/-- R173: the debouncers at restart take the raw levels of their lines. -/
def debouncersAtRestart (lines : FieldLines) : Debouncers where
  holster := mapAll Debouncer.atRestart lines.holster
  coupling := mapAll Debouncer.atRestart lines.coupling
  metrology := .atRestart lines.metrology
  chillerFault := .atRestart lines.chillerFault

/-- R187 (4): the flag word with the one flag RESTART. -/
def restartFlags : BitVec 27 := EventFlag.restart.word

/-- R185: the site clock has run on for some seconds with main power off. -/
def State.afterOutage (s : State) (seconds : Word32) : State := { s with clock := s.clock + seconds }

/-- R186: restart keeps retained memory and gives the runtime state its restart values. -/
def State.restarted (s : State) (lines : FieldLines) : State :=
  { s with
    tickets := mapAll (Option.map fun t : Ticket => t.atRestart s.clock) s.tickets
    commissioned := false
    positions := positionsAtRestart lines
    banks := Vector.replicate 6 .atRestart
    waiting := .empty
    compressor := .atRestart lines.esd
    precool := .atRestart lines.chillerFault
    tradeLockOpen := !lines.metrology
    channels := Vector.replicate 32 .atRestart
    rejectedSamples := 0
    debouncers := debouncersAtRestart lines
    esdLatch := lines.esd
    esdLine := lines.esd
    pendingFlags := restartFlags
    receiver := .hunting false
    inputBuffer := []
    discardedFrames := 0
    bufferOverruns := 0
    reply := none }

/-! ### Commission -/

/-- R182 test 4: the first failing item of an in-service position, by its number in the refusal. -/
def State.positionItem (s : State) (p : Fin 4) : Option Nat :=
  let c := s.cfg p
  if !c.inService then none
  else if (s.price c.nozzleClass).isNone then some 1
  else if !(s.configured c.pDisp (.pDisp p) && s.configured c.tGas (.tGas p)) then some 2
  else if s.pulseWeights.get p = 0 then some 3
  else none

/-- R182 test 5: the failing item of an in-service bank. -/
def State.bankItem (s : State) (b : Fin 6) : Option Nat :=
  let c := s.bankCfg b
  if c.inService && !(s.configured c.pChannel (.bankP b) && s.configured c.tChannel (.bankT b)) then some 4 else none

/-- R182 tests 4 and 5: the payload that names the first failing item, with its position or bank. -/
def State.commissionFault (s : State) : Option (List Byte) :=
  (allPositions.findSome? fun p => (s.positionItem p).map fun i => [out8 i, out8 p.val]).or
    (allBanks.findSome? fun b => (s.bankItem b).map fun i => [out8 i, out8 b.val])

/-- R47 (1): a position at COMMISSION. -/
def State.commissionPosition (s : State) (p : Fin 4) : State :=
  if (s.cfg p).inService then
    if (s.debouncers.holster.get p).level then s.modPos p fun q => { q with state := .idle }
    else s.enterCalling p
  else s

/-- R182: the site is commissioned, and each block starts. -/
def State.commission (s : State) : State :=
  let s := allPositions.foldl State.commissionPosition { s with commissioned := true }
  let s := allBanks.foldl State.queueEntryAtCommission s
  s.commissionChiller.compressorStartTest

/-! ### Decommission -/

/-- R20: a ticket at DECOMMISSION. -/
def Ticket.decommissioned (t : Ticket) (clock : Word32) : Ticket :=
  match t.state with
  | .opened | .authorized => t.endUnused .decommissioned clock
  | .fuelling | .ended => { t with attachment := .detached, window := none }

/-- R45, R47 (2): a position at DECOMMISSION; the stray count and the meter's reference state are kept. -/
def Position.decommissioned (q : Position) : Position :=
  { Position.atRestart q.meterA q.meterB with stray := q.stray }

/-- R183: the site is decommissioned. -/
def State.decommission (s : State) : State :=
  let s :=
    { s with
      commissioned := false
      tickets := mapAll (Option.map fun t : Ticket => t.decommissioned s.clock) s.tickets
      positions := mapAll Position.decommissioned s.positions
      waiting := .empty }
  s.decommissionCompressor.decommissionPrecool

/-- R183: whether a fill is in progress at a position. -/
def State.anyBusy (s : State) : Bool := allPositions.any fun p => (s.pos p).state.busy

/-! ### Factory clear -/

/-- R124: a bank's runtime fields at FACTORY_CLEAR. -/
def Bank.cleared (x : Bank) : Bank := { x with p := 0, t := 0, inventory := 0 }

/-- R21, R42, R184: the retained records take their empty state. -/
def State.factoryClear (s : State) : State :=
  { s with
    tickets := Vector.replicate 32 none
    ticketCounter := 0
    accounts := Vector.replicate 64 none
    priceH70 := none
    priceH35 := none
    pulseWeights := Vector.replicate 4 0
    site := .factory
    positionConfig := Vector.replicate 4 .factory
    profiles := Vector.replicate 16 none
    bankConfig := Vector.replicate 6 .factory
    channelConfig := Vector.replicate 32 .factory
    terminals := Vector.replicate 4 .empty
    channels := Vector.replicate 32 .atRestart
    rejectedSamples := 0
    banks := mapAll Bank.cleared s.banks }

/-! ### The commands -/

/-- RESTART (R185, R186): power-on or the reset pin, after some seconds with main power off (0 for the reset pin), with the
levels on the field lines (notes/assumptions/7.md). -/
def execRestart (found : RestartInputs) (s : State) : Host.Outcome State Fault Refusal :=
  .next ((s.afterOutage found.secondsOff).restarted found.lines)

/-- COMMISSION (R182). -/
def execCommission (h : Header) (s : State) : Host.Outcome State Fault Refusal :=
  answer (.commission h) h 0x16 s fun s =>
    stationOnly h s <| require (!s.commissioned) .refusedState s <| require (!s.tradeLockOpen) .locked s <|
    match s.commissionFault with
    | some item => ⟨s, .refusedState, item⟩
    | none => accept s.commission

/-- DECOMMISSION (R183). -/
def execDecommission (h : Header) (s : State) : Host.Outcome State Fault Refusal :=
  answer (.decommission h) h 0x17 s fun s =>
    stationOnly h s <| require s.commissioned .notCommissioned s <| require (!s.anyBusy) .refusedState s <|
    accept s.decommission

/-- FACTORY_CLEAR (R184). -/
def execFactoryClear (h : Header) (s : State) : Host.Outcome State Fault Refusal :=
  answer (.factoryClear h) h 0x18 s fun s =>
    stationOnly h s <| require (!s.commissioned) .refusedState s <| require s.tradeLockOpen .locked s <|
    accept s.factoryClear

end Sys2Proof.Machine
end

