-- ==== Sys2Proof/Machine/Configuration.lean ====
section
/-! DEFINITION. The configuration requests and the site clock: WRITE_SITE, WRITE_POSITION, WRITE_PROFILE, WRITE_BANK,
WRITE_CHANNEL, WRITE_TERMINAL, SET_CLOCK and SITE_CLOCK_TICK (R43, R68, R122, R168, R180, R181, R185). -/

namespace Sys2Proof.Machine

/-- R181: a configuration request, which is accepted only while the site is decommissioned. -/
def configure (h : Header) (s : State) (k : Answer) : Answer :=
  stationOnly h s <| require (!s.commissioned) .refusedState s k

/-- A value that a payload must spell, else BAD_VALUE. -/
def spelled {α : Type} (x : Option α) (s : State) (k : α → Answer) : Answer :=
  match x with
  | some a => k a
  | none => refuse s .badValue

/-- A profile index in a request, 0 to 15. -/
def profileOf (b : Byte) : Option (Fin 16) := if h : b.toNat < 16 then some ⟨b.toNat, h⟩ else none

/-- R180 (3): a terminal address in a request, 1 to 4, as the index of its permission set. -/
def terminalOf (b : Byte) : Option (Fin 4) :=
  if h : 1 ≤ b.toNat ∧ b.toNat ≤ 4 then some ⟨b.toNat - 1, by omega⟩ else none

/-! ### Banks -/

/-- R122: what CAS takes from a named channel at a write: 0 without a channel or a taken value. -/
def State.takenValue (s : State) (c : Option (Fin 32)) : Nat := if s.namedTaken c then s.namedValue c else 0

/-- R122: the bank record is written; a changed channel gives P and T anew, and the inventory is recomputed. -/
def State.writeBank (s : State) (b : Fin 6) (c : BankConfig) : State :=
  let old := s.bankCfg b
  let s := { s with bankConfig := setAt s.bankConfig b c }
  let s :=
    if old.pChannel = c.pChannel ∧ old.tChannel = c.tChannel then s
    else s.modBank b fun x => { x with p := s.takenValue c.pChannel, t := s.takenValue c.tChannel }
  s.recomputeInventory b

/-! ### Channels -/

/-- R168 test 4: whether the kind, the role and the source of a channel record conflict with no other channel. -/
def State.channelFits (s : State) (i : Fin 32) (c : ChannelConfig) : Bool :=
  match c.user with
  | none => true
  | some r =>
    c.kind == r.kind &&
    (List.finRange 32).all fun j =>
      j == i || (s.chanCfg j).user.isNone || ((s.chanCfg j).user != some r && (s.chanCfg j).source != c.source)

/-- R168: the user of a rewritten channel takes it as it stands at restart; CAS sets P or T to 0. CMP keeps its supply cause, so
that a CLEAR cause outlives a write that leaves no supply channel, against the "stays NO_VALUE" of R148 (5) (the model's reading,
notes/assumptions/42.md). -/
def State.userRestart (s : State) (user : Option Role) : State :=
  match user with
  | some (.bankP b) => (s.modBank b fun x => { x with p := 0 }).recomputeInventory b
  | some (.bankT b) => (s.modBank b fun x => { x with t := 0 }).recomputeInventory b
  | some (.pDisp _) | some (.tGas _) | some .supply | some .discharge | some .coolant | some .ambient => s
  | none => s

/-- R168: the channel record is written, and the channel and its users return to their restart values. -/
def State.writeChannel (s : State) (i : Fin 32) (c : ChannelConfig) : State :=
  let old := (s.chanCfg i).user
  let s := { s with channelConfig := setAt s.channelConfig i c }
  ((s.setChan i .atRestart).userRestart old).userRestart c.user

/-! ### The commands -/

/-- WRITE_SITE (R181). -/
def execWriteSite (h : Header) (f : SiteLayout) (s : State) : Host.Outcome State Fault Refusal :=
  answer (.writeSite h f) h 0x10 s fun s =>
    configure h s <| spelled (decodeSite f) s fun r => accept { s with site := r }

/-- WRITE_POSITION (R43). -/
def execWritePosition (h : Header) (f : PositionLayout) (s : State) : Host.Outcome State Fault Refusal :=
  answer (.writePosition h f) h 0x11 s fun s =>
    configure h s <| spelled (positionOf f.position) s fun p => spelled (decodePosition f) s fun c =>
      accept { s with positionConfig := setAt s.positionConfig p c }

/-- WRITE_PROFILE (R68). -/
def execWriteProfile (h : Header) (f : ProfileLayout) (s : State) : Host.Outcome State Fault Refusal :=
  answer (.writeProfile h f) h 0x12 s fun s =>
    configure h s <| spelled (profileOf f.index) s fun i => spelled (decodeProfile f) s fun x =>
      acceptWith { s with profiles := setAt s.profiles i x } (profileRecord i x)

/-- WRITE_BANK (R122). -/
def execWriteBank (h : Header) (f : BankLayout) (s : State) : Host.Outcome State Fault Refusal :=
  answer (.writeBank h f) h 0x13 s fun s =>
    configure h s <| spelled (bankOf f.bank) s fun b => spelled (decodeBank f) s fun c =>
      acceptWith (s.writeBank b c) (bankRecord b c)

/-- WRITE_CHANNEL (R168). -/
def execWriteChannel (h : Header) (f : ChannelLayout) (s : State) : Host.Outcome State Fault Refusal :=
  answer (.writeChannel h f) h 0x14 s fun s =>
    configure h s <| spelled (channelOf f.channel) s fun i => spelled (decodeChannel f) s fun c =>
      require (s.channelFits i c) .badValue s <| acceptWith (s.writeChannel i c) (channelRecord i c)

/-- WRITE_TERMINAL (R180). -/
def execWriteTerminal (h : Header) (address positions : Byte) (s : State) : Host.Outcome State Fault Refusal :=
  answer (.writeTerminal h address positions) h 0x15 s fun s =>
    configure h s <| spelled (terminalOf address) s fun i =>
      accept { s with terminals := setAt s.terminals i (PosSet.ofByte positions) }

/-- SET_CLOCK (R185). -/
def execSetClock (h : Header) (value : Word32) (s : State) : Host.Outcome State Fault Refusal :=
  answer (.setClock h value) h 0x19 s fun s =>
    stationOnly h s <| acceptWith { s with clock := value } (bytes32 s.clock)

/-- SITE_CLOCK_TICK (R185): the running second of the site clock passes, at every block, and the clock has counted it
(notes/assumptions/9.md). -/
def execSiteClockTick (s : State) : Host.Outcome State Fault Refusal := .next (s.elapse s.clockLeft)

end Sys2Proof.Machine
end

