-- ==== Sys2Proof/Machine/Accounts.lean ====
section
/-! DEFINITION. The accounts, the prices and the metrology record: their requests, the status rule and the settlement of a
ticket's money (R22 to R39). -/

namespace Sys2Proof.Machine

/-- R23: the range of a PREPAID balance. -/
def minBalance : Int := -2147483648

/-- R23: the range of a PREPAID balance. -/
def maxBalance : Int := 2147483647

/-- R25: the status of an account follows its debt. -/
def State.followDebt (s : State) (n : Nat) : State :=
  match s.account n with
  | some a =>
    if a.status = .active ∧ a.inDebt then (s.modAccount n fun a => { a with status := .overdrawn }).raise .accountOverdrawn
    else if a.status = .overdrawn ∧ !a.inDebt then s.modAccount n fun a => { a with status := .active }
    else s
  | none => s

/-! ### Holds and settlement -/

/-- R30 (1): the held total of an account is raised by a hold. -/
def State.takeHold (s : State) (n hold : Nat) : State := s.modAccount n fun a => { a with held := a.held + hold }

/-- R14 (1), R31 (1): the held total of an account is lowered by a hold. -/
def State.releaseHoldOn (s : State) (n hold : Nat) : State := s.modAccount n fun a => { a with held := a.held - hold }

/-- R31 (2), (3): an amount is charged. -/
def Money.charge (m : Money) (amount : Nat) : Money :=
  match m with
  | .prepaid balance => .prepaid (max minBalance (balance - amount))
  | .credit limit spent => .credit limit (satAdd Config.max32 spent amount)

/-- R34 (1), (2): an amount is paid in. -/
def Money.pay (m : Money) (amount : Nat) : Money :=
  match m with
  | .prepaid balance => .prepaid (min maxBalance (balance + amount))
  | .credit limit spent => .credit limit (spent - amount)

/-- R31: the money of an ENDED ticket is settled. -/
def State.settleMoney (s : State) (t : Ticket) : State :=
  match t.account with
  | some n =>
    ((s.releaseHoldOn n (t.hold.getD 0)).modAccount n fun a => { a with money := a.money.charge t.amount }).followDebt n
  | none => s

/-- R14 (1): the hold of a cancelled ticket is released. -/
def State.cancelHold (s : State) (t : Ticket) : State :=
  match t.account with
  | some n => s.releaseHoldOn n (t.hold.getD 0)
  | none => s

/-! ### Writing accounts -/

/-- R32: the account that a write creates. -/
def AccountWrite.created (w : AccountWrite) : Account where
  number := w.number
  status := w.status
  money := w.money
  held := 0
  permitsH70 := w.permitsH70
  permitsH35 := w.permitsH35
  perFillMax := w.perFillMax
  tag := w.tag

/-- R33 (1), (2): the money fields after a write over an account; absent when the change of kind is refused. -/
def rewriteMoney (old new : Money) (held : Nat) : Option Money :=
  match old, new with
  | .prepaid balance, .prepaid _ => some (.prepaid balance)
  | .credit _ spent, .credit limit _ => some (.credit limit spent)
  | .prepaid balance, .credit limit _ => if held = 0 ∧ balance = 0 then some (.credit limit 0) else none
  | .credit _ spent, .prepaid opening => if held = 0 ∧ spent = 0 then some (.prepaid opening) else none

/-- R33 (3): the status after a write; ACTIVE written over OVERDRAWN leaves the status to R25. -/
def rewriteStatus (old new : AccountStatus) : AccountStatus :=
  if old = .overdrawn ∧ new = .active then .overdrawn else new

/-- R33: an account changed in place. -/
def Account.rewritten (a : Account) (w : AccountWrite) (money : Money) : Account :=
  { a with
    status := rewriteStatus a.status w.status
    money := money
    permitsH70 := w.permitsH70
    permitsH35 := w.permitsH35
    perFillMax := w.perFillMax
    tag := w.tag }

/-- 12.6.10: the record of an account as it stands. -/
def State.accountRecord (s : State) (n : Nat) : List Byte := ((s.account n).map Account.record).getD []

/-- R32 test 3: a new account in a free entry. The spec says `a free entry`; the lowest one is the model's choice
(notes/assumptions/35.md). -/
def State.createAccount (s : State) (w : AccountWrite) : Answer :=
  match freeSlot s.accounts with
  | some i => acceptWith { s with accounts := setAt s.accounts i (some w.created) } w.created.record
  | none => refuse s .tableFull

/-- R33: an account in the table is changed. -/
def State.changeAccount (s : State) (w : AccountWrite) (a : Account) : Answer :=
  match rewriteMoney a.money w.money a.held with
  | some money =>
    let s := (s.modAccount w.number fun a => a.rewritten w money).followDebt w.number
    acceptWith s (s.accountRecord w.number)
  | none => refuse s .refusedState

/-- R32, R33: an accepted form of WRITE_ACCOUNT. -/
def State.writeAccount (s : State) (w : AccountWrite) : Answer :=
  match s.account w.number with
  | some a => s.changeAccount w a
  | none => s.createAccount w

/-- The account that a request names, else NOT_FOUND (R22). -/
def withAccount (n : Nat) (s : State) (k : Account → Answer) : Answer :=
  match s.account n with
  | some a => k a
  | none => refuse s .notFound

/-- R34: a payment into an account. -/
def State.creditMoney (s : State) (n amount : Nat) : State :=
  (s.modAccount n fun a => { a with money := a.money.pay amount }).followDebt n

/-- R34: the reply payload of CREDIT_ACCOUNT. -/
def State.creditReply (s : State) (n : Nat) : List Byte :=
  ((s.account n).map fun a => a.money.standing ++ out32 a.available).getD []

/-- R35: an account is retired. -/
def State.retireAccount (s : State) (n : Nat) : State :=
  match s.accountSlot n with
  | some i => { s with accounts := setAt s.accounts i none }
  | none => s

/-! ### Prices and metrology -/

/-- R37: sets the price of a class. -/
def State.setPrice (s : State) (k : NozzleClass) (value : Nat) : State :=
  match k with
  | .h70 => { s with priceH70 := some value }
  | .h35 => { s with priceH35 := some value }

/-- R37: the previous price of a class, or an indication that it was absent. -/
def priceReply (price : Option Nat) : List Byte := outBool price.isSome :: out32 (price.getD 0)

/-! ### The commands -/

/-- WRITE_ACCOUNT (R32, R33). -/
def execWriteAccount (h : Header) (f : AccountLayout) (s : State) : Host.Outcome State Fault Refusal :=
  answer (.writeAccount h f) h 0x30 s fun s => stationOnly h s <| spelled (decodeAccount f) s s.writeAccount

/-- CREDIT_ACCOUNT (R34). -/
def execCreditAccount (h : Header) (number amount : Word32) (s : State) : Host.Outcome State Fault Refusal :=
  answer (.creditAccount h number amount) h 0x31 s fun s =>
    require (1 ≤ amount.toNat) .badValue s <| withAccount number.toNat s fun _ =>
      let s := s.creditMoney number.toNat amount.toNat
      acceptWith s (s.creditReply number.toNat)

/-- CLOSE_ACCOUNT (R35). -/
def execCloseAccount (h : Header) (number : Word32) (s : State) : Host.Outcome State Fault Refusal :=
  answer (.closeAccount h number) h 0x32 s fun s =>
    stationOnly h s <| withAccount number.toNat s fun a =>
      require (a.held == 0) .refusedState s <| acceptWith (s.retireAccount number.toNat) a.record

/-- READ_ACCOUNT (R36). -/
def execReadAccount (h : Header) (number : Word32) (s : State) : Host.Outcome State Fault Refusal :=
  answer (.readAccount h number) h 0x33 s fun s => withAccount number.toNat s fun a => acceptWith s a.record

/-- SET_PRICE (R37). -/
def execSetPrice (h : Header) (nozzleClass : Byte) (value : Word32) (s : State) : Host.Outcome State Fault Refusal :=
  answer (.setPrice h nozzleClass value) h 0x34 s fun s =>
    stationOnly h s <| spelled (classOf nozzleClass) s fun k =>
      require (within 1 value.toNat 10000000) .badValue s <|
        acceptWith (s.setPrice k value.toNat) (priceReply (s.price k))

/-- WRITE_METROLOGY (R39). -/
def execWriteMetrology (h : Header) (position : Byte) (weight : Word16) (s : State) : Host.Outcome State Fault Refusal :=
  answer (.writeMetrology h position weight) h 0x35 s fun s =>
    stationOnly h s <| require s.tradeLockOpen .locked s <| spelled (positionOf position) s fun p =>
      require (within 10 weight.toNat 10000) .badValue s <| require (!(s.pos p).state.busy) .refusedState s <|
        accept { s with pulseWeights := setAt s.pulseWeights p weight.toNat }

/-- READ_METROLOGY (R39). -/
def execReadMetrology (h : Header) (s : State) : Host.Outcome State Fault Refusal :=
  answer (.readMetrology h) h 0x36 s fun s => acceptWith s s.metrologyReply

end Sys2Proof.Machine
end

