-- ==== Sys2Proof/Machine/Tickets.lean ====
section
/-! DEFINITION. The ticket requests and the authorization window: opening, authorization with its tests, expiry,
cancellation, settlement and reading (R3, R6 to R9, R13 to R18, R27 to R31). -/

namespace Sys2Proof.Machine

/-- The ticket that a request names, else NOT_FOUND, for a sender permitted at its position, else NOT_PERMITTED. -/
def withTicket (h : Header) (n : Nat) (s : State) (k : Ticket → Answer) : Answer :=
  match s.ticket n with
  | some t => require (s.permitted h t.position) .notPermitted s (k t)
  | none => refuse s .notFound

/-! ### Opening -/

/-- R3 (2), (3): the candidates for the next number, in their order. -/
def candidate (counter k : Nat) : Nat := (counter + k) % 65535 + 1

/-- R3: the number that is issued next. -/
def State.nextNumber (s : State) : Nat :=
  (((List.range 33).map (candidate s.ticketCounter)).find? fun n => (s.ticketSlot n).isNone).getD 0

/-- R6: the slot of the position that takes a new ticket. -/
def Position.placement (q : Position) : Option Attachment :=
  match q.active, q.staged with
  | none, none => some .active
  | some _, none => some .staged
  | _, some _ => none

/-- R6: an OPEN ticket. -/
def Ticket.opening (n : Nat) (p : Fin 4) (a : Attachment) (h : Header) (k : NozzleClass) : Ticket where
  number := n
  state := .opened
  position := p
  attachment := a
  opener := h.sender
  nozzleClass := k
  authorizer := none
  account := none
  presetMass := none
  presetAmount := none
  hold := none
  reduced := false
  price := none
  expectedTag := none
  metrologyCount := none
  profile := none
  grade := none
  commMode := none
  mass := 0
  amount := 0
  pInit := none
  finalPressure := none
  lastSoc := none
  peakTGas := none
  startTime := none
  endTime := none
  holdUsed := 0
  endReason := none
  window := none

/-- R4: a position's slot refers to a ticket. -/
def Position.attach (q : Position) (a : Attachment) (n : Nat) : Position :=
  match a with
  | .active => { q with active := some n }
  | .staged => { q with staged := some n }
  | .detached => q

/-- R6: the ticket is created in a slot of the table and attached to its position. -/
def State.openTicket (s : State) (h : Header) (p : Fin 4) (a : Attachment) (i : Fin 32) : State :=
  let n := s.nextNumber
  { s with
    tickets := setAt s.tickets i (some (.opening n p a h (s.cfg p).nozzleClass))
    ticketCounter := n }.modPos p fun q => q.attach a n

/-- R6 tests 5 and 6. -/
def State.placeTicket (s : State) (h : Header) (p : Fin 4) : Answer :=
  match (s.pos p).placement with
  | some a =>
    match freeSlot s.tickets with
    | some i => acceptWith (s.openTicket h p a i) (out16 s.nextNumber)
    | none => refuse s .tableFull
  | none => refuse s .refusedState

/-! ### Authorization -/

/-- R27 to R30: the terms of an authorization. -/
structure Terms where
  account      : Option Nat
  presetMass   : Option Nat
  presetAmount : Option Nat
  hold         : Option Nat
  reduced      : Bool
  tag          : Option Tag
deriving DecidableEq, Repr

/-- R27 test 3: the ranges of the presets. -/
def presetsGood (mass amount : Option Nat) : Bool :=
  mass.all (fun m => within 1 m 4294967) && amount.all fun a => within 1 a Config.max32

/-- R28: the stock check of a preset mass: absent for NO_STOCK, else the mass and whether it was cut. -/
def stockCheck (usable : Nat) (mass : Option Nat) : Option (Option Nat × Bool) :=
  match mass with
  | none => some (none, false)
  | some m => if usable < Config.minStock then none else some (some (min m usable), decide (usable < m))

/-- R29: the requested amount. -/
def requestedAmount (amount mass : Option Nat) (price : Nat) (a : Account) : Nat :=
  match amount, mass, a.perFillMax with
  | some x, _, _ => x
  | none, some m, _ => billing m price
  | none, none, some x => x
  | none, none, none => a.available

/-- R29: the hold. -/
def holdFor (requested : Nat) (a : Account) : Nat :=
  let hold := min requested a.available
  match a.perFillMax with
  | some x => min hold x
  | none => hold

/-- R27 tests 8 and 9, R29: the terms against an account, or without one. -/
def State.termsFor (s : State) (t : Ticket) (account : Option Account) (mass amount : Option Nat) :
    Result ⊕ Terms :=
  match stockCheck (s.usableInventory t.nozzleClass) mass with
  | none => .inl .noStock
  | some (mass, reduced) =>
    match account with
    | none => .inr ⟨none, mass, amount, none, reduced, none⟩
    | some a =>
      let hold := holdFor (requestedAmount amount mass ((s.price t.nozzleClass).getD 0) a) a
      if hold < s.site.minAuthAmount then .inl .insufficient
      else .inr ⟨some a.number, mass, some hold, some hold, reduced, a.tag⟩

/-- R27 tests 5 to 7 and the tests that follow. -/
def State.termsWithAccount (s : State) (t : Ticket) (n : Nat) (mass amount : Option Nat) : Result ⊕ Terms :=
  match s.account n with
  | none => .inl .notFound
  | some a =>
    if a.status ≠ .active then .inl .refusedState
    else if !a.permits t.nozzleClass then .inl .notPermitted
    else s.termsFor t (some a) mass amount

/-- R27: the tests of the Account and Tariff Unit; the result of the first that fails, else the terms. -/
def State.authorizationTerms (s : State) (h : Header) (t : Ticket) (account mass amount : Option Nat) :
    Result ⊕ Terms :=
  let mode := (s.cfg t.position).authMode
  if mode = .supervised ∧ !isStation h then .inl .notPermitted
  else if s.tradeLockOpen then .inl .locked
  else if !presetsGood mass amount then .inl .badValue
  else
    match account with
    | some n => s.termsWithAccount t n mass amount
    | none => if mode = .supervised then s.termsFor t none mass amount else .inl .badValue

/-- R7, R30 (2): the fields that an authorization writes into the ticket. -/
def Ticket.authorized (t : Ticket) (x : Terms) (mode : AuthMode) (price : Option Nat) (count window : Nat) : Ticket :=
  { t with
    state := .authorized
    authorizer := some mode
    account := x.account
    presetMass := x.presetMass
    presetAmount := x.presetAmount
    hold := x.hold
    reduced := x.reduced
    price := price
    expectedTag := x.tag
    metrologyCount := some count
    window := if t.attachment = .active then some window else none }

/-- R30 (1): the hold is taken on the account. -/
def State.takeTerms (s : State) (x : Terms) : State :=
  match x.account, x.hold with
  | some n, some hold => s.takeHold n hold
  | _, _ => s

/-- R7, R30: an authorization is carried out; the position of an ACTIVE ticket makes its start test. -/
def State.authorizeTicket (s : State) (t : Ticket) (x : Terms) : State :=
  let s :=
    (s.takeTerms x).modTicket t.number fun t =>
      t.authorized x (s.cfg t.position).authMode (s.price t.nozzleClass) s.metrologyCount s.windowLength
  if t.attachment = .active then s.startTest t.position else s

/-- R7: the tests of the Ticket Table and of the Account and Tariff Unit, and the authorization. -/
def State.authorize (s : State) (h : Header) (t : Ticket) (account mass amount : Option Nat) : Answer :=
  require (t.state == .opened) .refusedState s <| require (!s.esdLatch) .refusedState s <|
  match s.authorizationTerms h t account mass amount with
  | .inl r => refuse s r
  | .inr x => ⟨s.authorizeTicket t x, if x.reduced then .okReduced else .ok, []⟩

/-! ### Expiry, cancellation, settlement -/

/-- R9: the authorization window of a ticket has expired. -/
def State.expireWindow (s : State) (n : Nat) : State :=
  match s.ticket n with
  | some t =>
    let s := s.modTicket n fun t => t.endUnused .authExpired s.clock
    ((s.promote t.position).raise (.authExpired t.position)).startTest t.position
  | none => s

/-- R14 (2) to (4): a cancelled ticket is retired and its slot at the position vacated. -/
def State.cancelTicket (s : State) (t : Ticket) : State :=
  let s := (s.cancelHold t).retireTicket t.number
  match t.attachment with
  | .active => (s.promote t.position).startTest t.position
  | .staged => s.modPos t.position fun q => { q with staged := none }
  | .detached => s

/-- R15: a settled ticket is retired; the ACTIVE slot is vacated when it still holds the ticket. -/
def State.settleTicket (s : State) (t : Ticket) : State :=
  let s := (s.settleMoney t).retireTicket t.number
  if t.attachment = .active then s.modPos t.position fun q => { q with active := none } else s

/-! ### Reading -/

/-- 12.6.3: whether a ticket state is in a LIST_TICKETS filter; an empty filter selects all four states (R18). -/
def inFilter (filter : Byte) (x : TicketState) : Bool := filter.extractLsb' 0 4 == 0 || filter.getLsbD x.code

/-- R18: the numbers that LIST_TICKETS returns, in slot order. -/
def State.listNumbers (s : State) (h : Header) (filter : Byte) : List Nat :=
  (List.finRange 32).filterMap fun i =>
    match s.tickets.get i with
    | some t => if inFilter filter t.state && s.permitted h t.position then some t.number else none
    | none => none

/-! ### The commands -/

/-- OPEN_TICKET (R6). -/
def execOpenTicket (h : Header) (position : Byte) (s : State) : Host.Outcome State Fault Refusal :=
  answer (.openTicket h position) h 0x20 s fun s =>
    spelled (positionOf position) s fun p =>
      require (s.permitted h p) .notPermitted s <| require s.commissioned .notCommissioned s <|
      require (s.cfg p).inService .refusedState s <| s.placeTicket h p

/-- AUTHORIZE (R7, R27 to R30). -/
def execAuthorize (h : Header) (f : AuthorizeLayout) (s : State) : Host.Outcome State Fault Refusal :=
  answer (.authorize h f) h 0x21 s fun s =>
    withTicket h f.ticket.toNat s fun t =>
      s.authorize h t (authorizeGiven f).1 (authorizeGiven f).2.1 (authorizeGiven f).2.2

/-- AUTH_WINDOW_EXPIRY (R9). -/
def execAuthWindowExpiry (ticket : Word16) (s : State) : Host.Outcome State Fault Refusal :=
  .next (expire (s.windowLeft ticket.toNat) s fun s => s.expireWindow ticket.toNat)

/-- CANCEL_TICKET (R14). -/
def execCancelTicket (h : Header) (ticket : Word16) (s : State) : Host.Outcome State Fault Refusal :=
  answer (.cancelTicket h ticket) h 0x22 s fun s =>
    withTicket h ticket.toNat s fun t =>
      require (t.state == .opened || t.state == .authorized) .refusedState s <| accept (s.cancelTicket t)

/-- SETTLE_TICKET (R15, R31). -/
def execSettleTicket (h : Header) (ticket : Word16) (s : State) : Host.Outcome State Fault Refusal :=
  answer (.settleTicket h ticket) h 0x23 s fun s =>
    withTicket h ticket.toNat s fun t =>
      require (t.state == .ended) .refusedState s <| accept (s.settleTicket t)

/-- READ_TICKET (R17). -/
def execReadTicket (h : Header) (ticket : Word16) (s : State) : Host.Outcome State Fault Refusal :=
  answer (.readTicket h ticket) h 0x24 s fun s => withTicket h ticket.toNat s fun t => acceptWith s t.record

/-- LIST_TICKETS (R18). -/
def execListTickets (h : Header) (filter : Byte) (s : State) : Host.Outcome State Fault Refusal :=
  answer (.listTickets h filter) h 0x25 s fun s =>
    let numbers := s.listNumbers h filter
    acceptWith s (out8 numbers.length :: numbers.flatMap out16)

end Sys2Proof.Machine
end

