-- ==== Sys2Proof/Machine/Operating.lean ====
section
/-! DEFINITION. The operating requests: holds, the refill, the banks, the chiller and the ESD acknowledgement (R118 to
R120, R133, R146, R158, R159, R175). -/

namespace Sys2Proof.Machine

/-- 7.7: an operating request for a position: the sender, then the position number. -/
def atPosition (h : Header) (position : Byte) (s : State) (k : Fin 4 → Answer) : Answer :=
  stationOnly h s <| spelled (positionOf position) s k

/-- R133: an operating request for a bank: the sender, then the bank index. -/
def atBank (h : Header) (bank : Byte) (s : State) (k : Fin 6 → Answer) : Answer :=
  stationOnly h s <| spelled (bankOf bank) s k

/-! ### Resuming -/

/-- R119: whether a factor that RESUME_POSITION clears is active. -/
def FactorSet.clearable (f : FactorSet) : Bool := f.supervisor || f.meter

/-- R119: whether a factor that RESUME_POSITION does not clear is active. -/
def FactorSet.others (f : FactorSet) : Bool := f.vehicleHalt || f.bankLow || f.precool || f.sensor

/-- R119: SUPERVISOR and METER are cleared, and the phase-fault count becomes 0. -/
def State.clearStationFactors (s : State) (p : Fin 4) : State :=
  s.modPos p fun q => { q with factors := (q.factors.put .supervisor false).put .meter false, phaseFaults := 0 }

/-- R115, R119 (2): the request clears the last active factors of a held position. -/
def State.resumeFromFactors (s : State) (p : Fin 4) : State :=
  let s := s.clearStationFactors p
  if (s.cfg p).clearMode = .manual then s.resume p else s.releaseHold p

/-- R119 (3): the request is the demand that a held position awaits. -/
def State.resumeOnDemand (s : State) (p : Fin 4) : State :=
  (s.modPos p fun q => { q with phaseFaults := 0 }).resume p

/-- R119: RESUME_POSITION at a position. -/
def State.resumePosition (s : State) (p : Fin 4) : Answer :=
  let factors := (s.pos p).factors
  match (s.pos p).state with
  | .starting _ => require factors.clearable .refusedState s <| accept (s.clearStationFactors p)
  | .held .factorWait =>
    require (factors.clearable && !factors.others) .refusedState s <| accept (s.resumeFromFactors p)
  | .held .demandWait => accept (s.resumeOnDemand p)
  | .held .delay => refuse s .refusedState
  | .closed | .idle | .calling | .fuelling | .ending | .ended => refuse s .refusedState

/-! ### The refill, the chiller and the ESD latch -/

/-- R146: SUSPEND_REFILL by the compressor state. -/
def State.suspendRefill (s : State) : Answer :=
  match s.compressor.state with
  | .stopped | .starting | .running | .unloaded => accept s.suspendMotor
  | .suspended => accept s
  | .lockout => refuse s .refusedState

/-- R158 (2): CHILLER_ON by the chiller state. -/
def State.chillerOn (s : State) : Answer :=
  match s.precool.chiller with
  | .off => accept s.switchChillerOn
  | .fault =>
    require (!s.precool.faultLine && !s.precool.coolantCause) .refusedState s <| accept s.switchChillerOn
  | .pulldown | .ready => accept s

/-- R175: CLEAR_ESD by the latch and the line. -/
def State.clearEsd (s : State) : Answer :=
  if s.esdLatch then require (!s.esdLine) .refusedState s <| accept s.clearEsdLatch else accept s

/-! ### The commands -/

/-- HOLD_POSITION (R118). -/
def execHoldPosition (h : Header) (position : Byte) (s : State) : Host.Outcome State Fault Refusal :=
  answer (.holdPosition h position) h 0x40 s fun s =>
    atPosition h position s fun p =>
      require (s.pos p).state.filling .refusedState s <| accept (s.activate p .supervisor)

/-- RESUME_POSITION (R119). -/
def execResumePosition (h : Header) (position : Byte) (s : State) : Host.Outcome State Fault Refusal :=
  answer (.resumePosition h position) h 0x41 s fun s => atPosition h position s s.resumePosition

/-- STOP_POSITION (R120). -/
def execStopPosition (h : Header) (position : Byte) (s : State) : Host.Outcome State Fault Refusal :=
  answer (.stopPosition h position) h 0x42 s fun s =>
    atPosition h position s fun p =>
      require (s.pos p).state.filling .refusedState s <| accept (s.endFill p .supervisorStop)

/-- SUSPEND_REFILL (R146). -/
def execSuspendRefill (h : Header) (s : State) : Host.Outcome State Fault Refusal :=
  answer (.suspendRefill h) h 0x43 s fun s => stationOnly h s s.suspendRefill

/-- RESUME_REFILL (R146). -/
def execResumeRefill (h : Header) (s : State) : Host.Outcome State Fault Refusal :=
  answer (.resumeRefill h) h 0x44 s fun s =>
    stationOnly h s <| require (s.compressor.state == .suspended) .refusedState s <| accept s.enterStopped

/-- ISOLATE_BANK (R133). -/
def execIsolateBank (h : Header) (bank : Byte) (s : State) : Host.Outcome State Fault Refusal :=
  answer (.isolateBank h bank) h 0x45 s fun s => atBank h bank s fun b => accept (s.isolate b)

/-- RETURN_BANK (R133). -/
def execReturnBank (h : Header) (bank : Byte) (s : State) : Host.Outcome State Fault Refusal :=
  answer (.returnBank h bank) h 0x46 s fun s =>
    atBank h bank s fun b =>
      require ((s.bank b).isolated && s.bankReadingsGood b) .refusedState s <| accept (s.returnToReady b)

/-- CHILLER_ON (R158). -/
def execChillerOn (h : Header) (s : State) : Host.Outcome State Fault Refusal :=
  answer (.chillerOn h) h 0x47 s fun s => stationOnly h s s.chillerOn

/-- CHILLER_OFF (R159). -/
def execChillerOff (h : Header) (s : State) : Host.Outcome State Fault Refusal :=
  answer (.chillerOff h) h 0x48 s fun s => stationOnly h s <| accept s.switchChillerOff

/-- CLEAR_ESD (R175). -/
def execClearEsd (h : Header) (s : State) : Host.Outcome State Fault Refusal :=
  answer (.clearEsd h) h 0x49 s fun s => stationOnly h s s.clearEsd

end Sys2Proof.Machine
end

