-- ==== Sys2Proof/Machine/Status.lean ====
section
/-! DEFINITION. The status requests: READ_POSITION, READ_BANK, READ_COMPRESSOR, READ_PRECOOL, READ_CHANNEL and READ_EVENTS
(R66, R136, R152, R166, R177, R187). -/

namespace Sys2Proof.Machine

/-- READ_POSITION (R66): the position number is tested first. -/
def execReadPosition (h : Header) (position : Byte) (s : State) : Host.Outcome State Fault Refusal :=
  answer (.readPosition h position) h 0x50 s fun s =>
    spelled (positionOf position) s fun p =>
      require (s.permitted h p) .notPermitted s <| acceptWith s (s.positionReply p)

/-- READ_BANK (R136). -/
def execReadBank (h : Header) (bank : Byte) (s : State) : Host.Outcome State Fault Refusal :=
  answer (.readBank h bank) h 0x51 s fun s => atBank h bank s fun b => acceptWith s (s.bankReply b)

/-- READ_COMPRESSOR (R152). -/
def execReadCompressor (h : Header) (s : State) : Host.Outcome State Fault Refusal :=
  answer (.readCompressor h) h 0x52 s fun s => stationOnly h s <| acceptWith s s.compressorReply

/-- READ_PRECOOL (R166). -/
def execReadPrecool (h : Header) (s : State) : Host.Outcome State Fault Refusal :=
  answer (.readPrecool h) h 0x53 s fun s => stationOnly h s <| acceptWith s s.precoolReply

/-- READ_CHANNEL (R177). -/
def execReadChannel (h : Header) (channel : Byte) (s : State) : Host.Outcome State Fault Refusal :=
  answer (.readChannel h channel) h 0x54 s fun s =>
    stationOnly h s <| spelled (channelOf channel) s fun c => acceptWith s (s.channelReply c)

/-- READ_EVENTS (R187): the flags returned stop being pending. -/
def execReadEvents (h : Header) (s : State) : Host.Outcome State Fault Refusal :=
  answer (.readEvents h) h 0x55 s fun s =>
    stationOnly h s <| acceptWith { s with pendingFlags := 0 } s.eventsReply

end Sys2Proof.Machine
end

