-- ==== Sys2Proof/Machine/FieldEvents.lean ====
section
/-! DEFINITION. The events of the field lines and of the vehicle links: samples and grace timers, switch lines, the ESD
line, the meter lines, vehicle frames and the freshness timer (R86, R92, R97, R170, R171, R173, R174). -/

namespace Sys2Proof.Machine

/-- R173 (1), (2): a raw level is seen on a switch line. -/
def State.rawChange (s : State) (line : SwitchLine) (level : Bool) : State :=
  { s with
    debouncers := s.debouncers.put line ((s.debouncers.at line).rawChange level (s.debounceTime line)) }

/-- SAMPLE_ARRIVAL (R170). -/
def execSampleArrival (source : Byte) (value : Word16) (s : State) : Host.Outcome State Fault Refusal :=
  .next (s.sample source.toNat value.toNat)

/-- GRACE_TIMER_EXPIRY (R171). -/
def execGraceTimerExpiry (channel : Fin 32) (s : State) : Host.Outcome State Fault Refusal :=
  .next (expire (s.chan channel).grace s fun s => s.failChannel channel)

/-- SWITCH_RAW_CHANGE (R173). -/
def execSwitchRawChange (line : SwitchLine) (level : Bool) (s : State) : Host.Outcome State Fault Refusal :=
  .next (s.rawChange line level)

/-- DEBOUNCE_EXPIRY (R173). -/
def execDebounceExpiry (line : SwitchLine) (s : State) : Host.Outcome State Fault Refusal :=
  .next (expire (s.debouncers.at line).timer s fun s => s.debounced line)

/-- ESD_LINE_CHANGE (R174). -/
def execEsdLineChange (active : Bool) (s : State) : Host.Outcome State Fault Refusal := .next (s.esdLineAt active)

/-- METER_LINE_CHANGE (R86). -/
def execMeterLineChange (p : Fin 4) (a b : Bool) (s : State) : Host.Outcome State Fault Refusal :=
  .next (s.meterChange p a b)

/-- VEHICLE_FRAME_ARRIVAL (R92). -/
def execVehicleFrameArrival (p : Fin 4) (frame : Vector Byte 16) (s : State) : Host.Outcome State Fault Refusal :=
  .next (s.vehicleFrame p frame.toArray.toList)

/-- FRESHNESS_EXPIRY (R97). -/
def execFreshnessExpiry (p : Fin 4) (s : State) : Host.Outcome State Fault Refusal :=
  .next (expire (s.freshnessLeft p) s fun s => s.loseLink p)

end Sys2Proof.Machine
end

