-- ==== Sys2Proof/Machine/FillTimers.lean ====
section
/-! DEFINITION. The timer events of a position: the start sequence, the control step, the vent, the hold unit and the
grade fallback (R12, R52 to R58, R61, R76, R115, R117, R165). -/

namespace Sys2Proof.Machine

/-! ### The start sequence -/

/-- R54 (1), (2): the variant lookup is written into the start context. -/
def State.lookUpVariant (s : State) (p : Fin 4) : State :=
  match s.lookupVariant p with
  | some f => s.modPos p fun q => { q with variant := some f.variant, leakTolerance := some f.leakTolerance }
  | none =>
    s.modPos p fun q => { q with variant := some .pulseCheck, leakTolerance := some s.site.leakTolerance }

/-- R53 (2): P_init is taken into the start context and the ticket. -/
def State.takePInit (s : State) (p : Fin 4) : State :=
  let v := s.pDisp p
  (s.modPos p fun q => { q with pInit := some v, substateTimer := none }).modActive p fun t =>
    { t with pInit := some v }

/-- R53 (2) to (4): the settle time ends. That the variant lookup does not wait under VEHICLE_HALT, as the advance does, is the
model's choice (notes/assumptions/14.md). -/
def State.settleEnded (s : State) (p : Fin 4) : State :=
  let s := s.takePInit p
  if (s.pos p).pInit.getD 0 < Config.minTankPressure then s.endFill p .tankUnsafe
  else ((s.lookUpVariant p).advanceUnlessHalted p).makeGrants

/-- R54 (3): whether the pressure has dropped by more than the leak tolerance. -/
def State.leaks (s : State) (p : Fin 4) : Bool :=
  decide (s.pDisp p + (s.pos p).leakTolerance.getD 0 < (s.pos p).pInit.getD 0)

/-- R54 (3): the leak-check time ends. -/
def State.leakCheckEnded (s : State) (p : Fin 4) : State :=
  let s := s.modPos p fun q => { q with substateTimer := none }
  if s.leaks p then s.endFill p .leak else (s.advanceUnlessHalted p).makeGrants

/-- R56 (5), R163 (2): the cool-wait timer expires: the position withdraws, takes G0 and ends its wait. -/
def State.coolWaitEnded (s : State) (p : Fin 4) : State :=
  let s := s.modPcl fun c => { c with waitQueue := c.waitQueue.erase p }
  ((s.giveUpCooling p).endCoolWaitCore p).makeGrants

/-! ### The vent -/

/-- R12 (3): the ticket becomes ENDED with its final dispenser pressure. -/
def Ticket.completed (t : Ticket) (clock : Word32) (pressure : Nat) : Ticket :=
  { t with state := .ended, endTime := some clock, finalPressure := some pressure }

/-- R12 (3) to (6), R61: the vent time ends. -/
def State.ventEnded (s : State) (p : Fin 4) : State :=
  let s := s.modActive p fun t => t.completed s.clock (s.pDisp p)
  let s := s.modPos p fun q => { q with state := .ended, substateTimer := none, quarter := 0 }
  let s := s.raise (.fillEnded p)
  if (s.debouncers.holster.get p).level then s.holsterEnded p else s

/-! ### The hold unit -/

/-- R115: the resume delay has expired. -/
def State.delayEnded (s : State) (p : Fin 4) : State :=
  let s := s.modPos p fun q => { q with resumeTimer := none }
  match (s.cfg p).clearMode with
  | .timed => s.resume p
  | .timedDemand | .manual => s.modPos p fun q => { q with state := .held .demandWait }

/-- R117 (3): the hold accumulator reaches the maximum hold total. -/
def State.holdExhausted (s : State) (p : Fin 4) : State :=
  (s.modActive p fun t => { t with holdUsed := (s.cfg p).maxHold }).endFill p .holdExpired

/-! ### The commands -/

/-- PULSE_TIME_END (R52, R53). -/
def execPulseTimeEnd (p : Fin 4) (s : State) : Host.Outcome State Fault Refusal :=
  .next (expire (s.substateLeft p .pulse) s fun s => s.enterSettle p)

/-- SETTLE_TIME_END (R53). -/
def execSettleTimeEnd (p : Fin 4) (s : State) : Host.Outcome State Fault Refusal :=
  .next (expire (s.substateLeft p .settle) s fun s => s.settleEnded p)

/-- LEAK_CHECK_TIME_END (R54). -/
def execLeakCheckTimeEnd (p : Fin 4) (s : State) : Host.Outcome State Fault Refusal :=
  .next (expire (s.substateLeft p .leakCheck) s fun s => s.leakCheckEnded p)

/-- COOL_WAIT_EXPIRY (R56). -/
def execCoolWaitExpiry (p : Fin 4) (s : State) : Host.Outcome State Fault Refusal :=
  .next (expire (s.coolWaitLeft p) s fun s => s.coolWaitEnded p)

/-- CONTROL_STEP (R76). -/
def execControlStep (p : Fin 4) (s : State) : Host.Outcome State Fault Refusal :=
  .next (expire (s.stepLeft p) s fun s => s.runStep p)

/-- VENT_TIME_END (R61). -/
def execVentTimeEnd (p : Fin 4) (s : State) : Host.Outcome State Fault Refusal :=
  .next (expire (s.ventLeft p) s fun s => s.ventEnded p)

/-- RESUME_DELAY_EXPIRY (R115). -/
def execResumeDelayExpiry (p : Fin 4) (s : State) : Host.Outcome State Fault Refusal :=
  .next (expire (s.delayLeft p) s fun s => s.delayEnded p)

/-- HOLD_SECOND_ELAPSED (R117): the running second of the hold accumulator completes. -/
def execHoldSecondElapsed (p : Fin 4) (s : State) : Host.Outcome State Fault Refusal :=
  .next (expire (s.holdSecondLeft p) s fun s => s.writeHoldTime p)

/-- HOLD_TOTAL_EXPIRY (R117). -/
def execHoldTotalExpiry (p : Fin 4) (s : State) : Host.Outcome State Fault Refusal :=
  .next (expire (s.holdTotalLeft p) s fun s => s.holdExhausted p)

/-- FALLBACK_EXPIRY (R165). -/
def execFallbackExpiry (p : Fin 4) (s : State) : Host.Outcome State Fault Refusal :=
  .next (expire (s.precool.fallback.get p) s fun s => s.fallbackExpired p)

end Sys2Proof.Machine
end

