-- ==== Sys2Proof/Machine/CompressorTimers.lean ====
section
/-! DEFINITION. The timer events of the Compressor Controller (R143, R144, R147, R150). -/

namespace Sys2Proof.Machine

/-- R144 (3): the unloaded time ends; no start test is made on this entry into STOPPED. -/
def State.unloadedEnded (s : State) : State := s.modCmp fun c => { c with state := .stopped, timer := none }

/-- START_TIME_END (R143). -/
def execStartTimeEnd (s : State) : Host.Outcome State Fault Refusal :=
  .next (expire (s.compressorLeft .starting) s fun s => s.chooseNext none)

/-- UNLOADED_TIME_END (R144). -/
def execUnloadedTimeEnd (s : State) : Host.Outcome State Fault Refusal :=
  .next (expire (s.compressorLeft .unloaded) s State.unloadedEnded)

/-- LOCKOUT_TIME_END (R150). -/
def execLockoutTimeEnd (s : State) : Host.Outcome State Fault Refusal :=
  .next (expire (s.compressorLeft .lockout) s State.endLockout)

/-- CREDIT_RETURN (R147). -/
def execCreditReturn (s : State) : Host.Outcome State Fault Refusal :=
  .next (expire s.compressor.returns.head? s State.returnCredit)

end Sys2Proof.Machine
end

