-- ==== Sys2Proof/Machine/Dispatch.lean ====
section
/-! DEFINITION. The meaning of every command: one arm for each constructor of Instr. -/

namespace Sys2Proof.Machine

def exec (i : Instr) (s : State) : Host.Outcome State Fault Refusal :=
  match i with
  | .restart found => Sys2Proof.Machine.execRestart found s
  | .requestFrame frame => Sys2Proof.Machine.execRequestFrame frame s
  | .frameGapTimeout => Sys2Proof.Machine.execFrameGapTimeout s
  | .unknownRequest h code => Sys2Proof.Machine.execUnknownRequest h code s
  | .writeSite h fields => Sys2Proof.Machine.execWriteSite h fields s
  | .writePosition h fields => Sys2Proof.Machine.execWritePosition h fields s
  | .writeProfile h fields => Sys2Proof.Machine.execWriteProfile h fields s
  | .writeBank h fields => Sys2Proof.Machine.execWriteBank h fields s
  | .writeChannel h fields => Sys2Proof.Machine.execWriteChannel h fields s
  | .writeTerminal h address positions => Sys2Proof.Machine.execWriteTerminal h address positions s
  | .commission h => Sys2Proof.Machine.execCommission h s
  | .decommission h => Sys2Proof.Machine.execDecommission h s
  | .factoryClear h => Sys2Proof.Machine.execFactoryClear h s
  | .setClock h value => Sys2Proof.Machine.execSetClock h value s
  | .siteClockTick => Sys2Proof.Machine.execSiteClockTick s
  | .openTicket h position => Sys2Proof.Machine.execOpenTicket h position s
  | .authorize h fields => Sys2Proof.Machine.execAuthorize h fields s
  | .authWindowExpiry ticket => Sys2Proof.Machine.execAuthWindowExpiry ticket s
  | .cancelTicket h ticket => Sys2Proof.Machine.execCancelTicket h ticket s
  | .settleTicket h ticket => Sys2Proof.Machine.execSettleTicket h ticket s
  | .readTicket h ticket => Sys2Proof.Machine.execReadTicket h ticket s
  | .listTickets h filter => Sys2Proof.Machine.execListTickets h filter s
  | .writeAccount h fields => Sys2Proof.Machine.execWriteAccount h fields s
  | .creditAccount h number amount => Sys2Proof.Machine.execCreditAccount h number amount s
  | .closeAccount h number => Sys2Proof.Machine.execCloseAccount h number s
  | .readAccount h number => Sys2Proof.Machine.execReadAccount h number s
  | .setPrice h nozzleClass value => Sys2Proof.Machine.execSetPrice h nozzleClass value s
  | .writeMetrology h position weight => Sys2Proof.Machine.execWriteMetrology h position weight s
  | .readMetrology h => Sys2Proof.Machine.execReadMetrology h s
  | .holdPosition h position => Sys2Proof.Machine.execHoldPosition h position s
  | .resumePosition h position => Sys2Proof.Machine.execResumePosition h position s
  | .stopPosition h position => Sys2Proof.Machine.execStopPosition h position s
  | .suspendRefill h => Sys2Proof.Machine.execSuspendRefill h s
  | .resumeRefill h => Sys2Proof.Machine.execResumeRefill h s
  | .isolateBank h bank => Sys2Proof.Machine.execIsolateBank h bank s
  | .returnBank h bank => Sys2Proof.Machine.execReturnBank h bank s
  | .chillerOn h => Sys2Proof.Machine.execChillerOn h s
  | .chillerOff h => Sys2Proof.Machine.execChillerOff h s
  | .clearEsd h => Sys2Proof.Machine.execClearEsd h s
  | .readPosition h position => Sys2Proof.Machine.execReadPosition h position s
  | .readBank h bank => Sys2Proof.Machine.execReadBank h bank s
  | .readCompressor h => Sys2Proof.Machine.execReadCompressor h s
  | .readPrecool h => Sys2Proof.Machine.execReadPrecool h s
  | .readChannel h channel => Sys2Proof.Machine.execReadChannel h channel s
  | .readEvents h => Sys2Proof.Machine.execReadEvents h s
  | .sampleArrival source value => Sys2Proof.Machine.execSampleArrival source value s
  | .graceTimerExpiry channel => Sys2Proof.Machine.execGraceTimerExpiry channel s
  | .switchRawChange line level => Sys2Proof.Machine.execSwitchRawChange line level s
  | .debounceExpiry line => Sys2Proof.Machine.execDebounceExpiry line s
  | .esdLineChange active => Sys2Proof.Machine.execEsdLineChange active s
  | .meterLineChange position a b => Sys2Proof.Machine.execMeterLineChange position a b s
  | .vehicleFrameArrival position frame => Sys2Proof.Machine.execVehicleFrameArrival position frame s
  | .freshnessExpiry position => Sys2Proof.Machine.execFreshnessExpiry position s
  | .pulseTimeEnd position => Sys2Proof.Machine.execPulseTimeEnd position s
  | .settleTimeEnd position => Sys2Proof.Machine.execSettleTimeEnd position s
  | .leakCheckTimeEnd position => Sys2Proof.Machine.execLeakCheckTimeEnd position s
  | .coolWaitExpiry position => Sys2Proof.Machine.execCoolWaitExpiry position s
  | .controlStep position => Sys2Proof.Machine.execControlStep position s
  | .ventTimeEnd position => Sys2Proof.Machine.execVentTimeEnd position s
  | .resumeDelayExpiry position => Sys2Proof.Machine.execResumeDelayExpiry position s
  | .holdSecondElapsed position => Sys2Proof.Machine.execHoldSecondElapsed position s
  | .holdTotalExpiry position => Sys2Proof.Machine.execHoldTotalExpiry position s
  | .fallbackExpiry position => Sys2Proof.Machine.execFallbackExpiry position s
  | .startTimeEnd => Sys2Proof.Machine.execStartTimeEnd s
  | .unloadedTimeEnd => Sys2Proof.Machine.execUnloadedTimeEnd s
  | .lockoutTimeEnd => Sys2Proof.Machine.execLockoutTimeEnd s
  | .creditReturn => Sys2Proof.Machine.execCreditReturn s
  | .receivedByte value stopOk => Sys2Proof.Machine.execReceivedByte value stopOk s

end Sys2Proof.Machine
end

