-- ==== Sys2Proof/Machine/Step.lean ====
section
/-! DEFINITION. The step: the command at the front of the queue, or, with an empty queue, what the part does by itself
(notes/assumptions/1.md). -/

namespace Sys2Proof.Machine

/-- With no command waiting, the part takes its waiting frame or its first due event; with nothing due, 1 ms passes. -/
def idle (s : State) : Host.Outcome State Fault Refusal :=
  match s.internalCommand with
  | some c => exec c s
  | none => .next (s.elapse 1)

/-- One step of the machine. -/
def step (s : State) : Host.Outcome State Fault Refusal :=
  match s.pending with
  | c :: rest => exec c { s with pending := rest }
  | [] => idle s

/-- The state with a command put at the front of its queue. -/
def State.withCommand (s : State) (c : Instr) : State := { s with pending := c :: s.pending }

/-- The state with the command that a table word spells at the front of its queue; the table gives no row any bits, so
the state is unchanged. -/
def State.withFetchWord (s : State) (nbits w : Nat) : State :=
  match decodeTableWord nbits w with
  | some c => s.withCommand c
  | none => s

end Sys2Proof.Machine
end

