-- ==== Sys2Proof/WellFormed.lean ====
section
/-! DEFINITION. The well-formed commands. The widths of the operands are in their types; what is left are the two
relations of R178 and R179 that no type says. -/

namespace Sys2Proof

/-- A command is well formed when a complete frame's payload is no longer than the length field may say (R178), and
when a request answered UNKNOWN_REQUEST has a code outside the catalogue (R179). -/
def Instr.wellFormed (c : Instr) : Bool :=
  match c with
  | .requestFrame f => decide (f.payload.length ≤ 512)
  | .unknownRequest _ code => (requestLength code).isNone
  | .restart _ | .frameGapTimeout | .writeSite _ _ | .writePosition _ _ | .writeProfile _ _ | .writeBank _ _
  | .writeChannel _ _ | .writeTerminal _ _ _ | .commission _ | .decommission _ | .factoryClear _ | .setClock _ _
  | .siteClockTick | .openTicket _ _ | .authorize _ _ | .authWindowExpiry _ | .cancelTicket _ _ | .settleTicket _ _
  | .readTicket _ _ | .listTickets _ _ | .writeAccount _ _ | .creditAccount _ _ _ | .closeAccount _ _
  | .readAccount _ _ | .setPrice _ _ _ | .writeMetrology _ _ _ | .readMetrology _ | .holdPosition _ _
  | .resumePosition _ _ | .stopPosition _ _ | .suspendRefill _ | .resumeRefill _ | .isolateBank _ _ | .returnBank _ _
  | .chillerOn _ | .chillerOff _ | .clearEsd _ | .readPosition _ _ | .readBank _ _ | .readCompressor _
  | .readPrecool _ | .readChannel _ _ | .readEvents _ | .sampleArrival _ _ | .graceTimerExpiry _
  | .switchRawChange _ _ | .debounceExpiry _ | .esdLineChange _ | .meterLineChange _ _ _ | .vehicleFrameArrival _ _
  | .freshnessExpiry _ | .pulseTimeEnd _ | .settleTimeEnd _ | .leakCheckTimeEnd _ | .coolWaitExpiry _
  | .controlStep _ | .ventTimeEnd _ | .resumeDelayExpiry _ | .holdSecondElapsed _ | .holdTotalExpiry _
  | .fallbackExpiry _ | .startTimeEnd | .unloadedTimeEnd | .lockoutTimeEnd | .creditReturn | .receivedByte _ _ => true

end Sys2Proof
end

