-- ==== Sys2Proof/Safety.lean ====
section
/-! DEFINITION. What the statements about the machine are said in: the parts that a kind of command leaves alone, the
answers to requests, the values of the configuration payloads, and the relations that the rules call always true. -/

namespace Sys2Proof.Machine

/-! ### Frames and answers -/

/-- All that the events of a fill leave alone: the state with the tickets, the positions, the banks, the waiting set, the
compressor, the precool controller and the pending flags blanked. -/
def State.base (s : State) : State :=
  { s with
    tickets := Vector.replicate 32 none
    positions := Vector.replicate 4 (.atRestart false false)
    banks := Vector.replicate 6 .atRestart
    waiting := .empty
    compressor := .atRestart false
    precool := .atRestart false
    pendingFlags := 0 }

/-- R179: the state after a request has been answered: the frame that spells it is taken, and its reply has been sent. -/
def State.answered (s : State) (c : Instr) (h : Header) (code : Byte) (r : Result) (payload : List Byte) : State :=
  { s.takeFrame c with reply := some ⟨h.sender, h.tag, code, r, payload⟩ }

/-- 12.6.3: whether the catalogue marks a request code as one that terminals may send. -/
def terminalCode (code : Byte) : Bool := [0x20, 0x21, 0x22, 0x23, 0x24, 0x25, 0x31, 0x33, 0x36, 0x50].contains code.toNat

/-- 12.6.3: whether a request code is in the catalogue and marked as station computer only. -/
def stationCode (code : Byte) : Bool := (requestLength code).isSome && !terminalCode code

/-- R180: whether a sender may act on a position: the station computer on all, a terminal on those of its set. -/
def mayActOn (s : State) (h : Header) (p : Fin 4) : Prop :=
  h.sender = 0 ∨ ∃ i : Fin 4, i.val + 1 = h.sender.val ∧ (s.terminals.get i).has p = true

/-- R3: whether a ticket in the table holds a number. -/
def State.numberHeld (s : State) (n : Nat) : Prop := ∃ i t, s.tickets.get i = some t ∧ t.number = n

/-- The result of the first test that fails, of a list of tests with their results. -/
def firstFailing (tests : List (Bool × Result)) : Option Result := (tests.find? fun x => !x.1).map Prod.snd

/-! ### Status payloads -/

/-- R167: whether a record names a channel that is in use for a role. -/
def namesFor (s : State) (named : Option (Fin 32)) (r : Role) : Bool := named.any fun c => (s.chanCfg c).user == some r

/-- 12.6.10: a channel's value in two bytes from an offset of a payload, then its state; 0 and 255 for no channel. -/
def showsChannel (s : State) (b : List Byte) (k : Nat) (c : Option (Fin 32)) : Prop :=
  match c with
  | some i => u16 b k = BitVec.ofNat 16 (s.chan i).value ∧ u8 b (k + 2) = BitVec.ofNat 8 (s.chan i).state.code
  | none => u16 b k = 0 ∧ u8 b (k + 2) = 255

/-- 12.6: the time left on a timer, 0xFFFFFFFF while it is stopped. -/
def timerShown (t : Option Nat) : Word32 := BitVec.ofNat 32 (t.getD 4294967295)

/-- R66, R105, 12.6.10: the 79 bytes of READ_POSITION. The opening, the target and the counts are shown as they stand, also where
the last step left others (the model's reading, log entry 41). -/
def positionShown (s : State) (p : Fin 4) (b : List Byte) : Prop :=
  let q := s.pos p
  let r := q.ramp
  let l := q.link
  let f := q.factors
  let serving (named : Option (Fin 32)) (role : Role) : Option (Fin 32) := if namesFor s named role then named else none
  (u8 b 0 = BitVec.ofNat 8 q.state.code ∧ u8 b 1 = BitVec.ofNat 8 q.state.substateCode ∧
    u16 b 2 = BitVec.ofNat 16 (q.active.getD 0) ∧ u16 b 4 = BitVec.ofNat 16 (q.staged.getD 0) ∧
    u16 b 6 = BitVec.ofNat 16 q.valve ∧ u8 b 8 = (if q.state = .ending then 1 else 0) ∧
    u8 b 9 = BitVec.ofNat 8 ((q.drawBank.map Fin.val).getD 255) ∧
    u8 b 10 = BitVec.ofNat 8 (((s.grade p).map Grade.code).getD 255) ∧
    u8 b 11 = (if s.precool.holders.has p then 1 else if p ∈ s.precool.waitQueue then 2 else 0)) ∧
  (∀ i < 16, (u16 b 12).getLsbD i =
    [q.pInit.isSome, q.variant.isSome, r.profile.isSome, r.target.isSome, l.vehicleClass.isSome, l.volume.isSome,
     l.tag.isSome, l.tankPressure.isSome, l.tankTemperature.isSome, l.lastBit.isSome, l.expectedBit.isSome,
     l.lastCommand.isSome].getD i false) ∧
  (u16 b 14 = BitVec.ofNat 16 (q.pInit.getD 0) ∧ u8 b 16 = (if q.variant = some .pulseOnly then 1 else 0) ∧
    u8 b 17 = BitVec.ofNat 8 (q.leakTolerance.getD 0) ∧ u32 b 18 = BitVec.ofNat 32 q.fillTime) ∧
  showsChannel s b 22 (serving (s.cfg p).pDisp (.pDisp p)) ∧ showsChannel s b 25 (serving (s.cfg p).tGas (.tGas p)) ∧
  (u8 b 28 = (if (s.debouncers.holster.get p).level then 0 else 1) ∧
    u8 b 29 = (if (s.debouncers.coupling.get p).level then 0 else 1)) ∧
  (∀ i < 8, (u8 b 30).getLsbD i =
    [f.vehicleHalt, f.supervisor, f.bankLow, f.precool, f.sensor, f.meter].getD i false) ∧
  (u8 b 31 = BitVec.ofNat 8 q.state.releaseCode ∧ u8 b 32 = (if q.resumeTimer.isSome then 1 else 0) ∧
    u16 b 33 = BitVec.ofNat 16 (q.holdTime / 1000)) ∧
  (u8 b 35 = BitVec.ofNat 8 ((r.profile.map Fin.val).getD 0) ∧ u32 b 36 = BitVec.ofNat 32 r.time ∧
    u8 b 40 = (if r.taper then 1 else 0) ∧ u32 b 41 = BitVec.ofNat 32 (r.target.getD 0) ∧
    u32 b 45 = BitVec.ofInt 32 r.error ∧ u8 b 49 = BitVec.ofNat 8 r.starved ∧ u8 b 50 = BitVec.ofNat 8 r.lagging) ∧
  (u8 b 51 = BitVec.ofNat 8 l.state.code ∧
    u8 b 52 = BitVec.ofNat 8 ((l.vehicleClass.map NozzleClass.code).getD 0) ∧
    u16 b 53 = BitVec.ofNat 16 (l.volume.getD 0) ∧ tagAt b 55 = l.tag.getD (Vector.replicate 8 0) ∧
    u16 b 63 = BitVec.ofNat 16 (l.tankPressure.getD 0) ∧ u16 b 65 = BitVec.ofNat 16 (l.tankTemperature.getD 0) ∧
    u8 b 67 = (if l.lastBit = some true then 1 else 0) ∧ u8 b 68 = (if l.expectedBit = some true then 1 else 0) ∧
    u8 b 69 = BitVec.ofNat 8 ((l.lastCommand.map VehicleCommand.code).getD 0) ∧
    u16 b 70 = BitVec.ofNat 16 l.rejected ∧ u16 b 72 = BitVec.ofNat 16 l.repeated ∧
    u16 b 74 = BitVec.ofNat 16 l.ignored) ∧
  u8 b 76 = BitVec.ofNat 8 q.phaseFaults ∧ u16 b 77 = BitVec.ofNat 16 q.stray

/-- R136, 12.6.10: the 34 bytes of READ_BANK. -/
def bankShown (s : State) (a : Fin 6) (b : List Byte) : Prop :=
  let c := s.bankCfg a
  let x := s.bank a
  let named (i : Option (Fin 32)) : Byte := BitVec.ofNat 8 ((i.map Fin.val).getD 255)
  let reading (k : Nat) (i : Option (Fin 32)) (role : Role) (v : Nat) : Prop :=
    if namesFor s i role then
      u16 b k = BitVec.ofNat 16 v ∧ ∀ j ∈ i, u8 b (k + 2) = BitVec.ofNat 8 (s.chan j).state.code
    else u16 b k = 0 ∧ u8 b (k + 2) = 255
  (u8 b 0 = BitVec.ofNat 8 a.val ∧ u8 b 1 = (if c.inService then 1 else 0) ∧
    u8 b 2 = (if c.servesH70 then 1 else 0) + (if c.servesH35 then 2 else 0) ∧
    u16 b 3 = BitVec.ofNat 16 c.rated ∧ u16 b 5 = BitVec.ofNat 16 c.volume ∧
    u16 b 7 = BitVec.ofNat 16 c.refillTarget ∧ u16 b 9 = BitVec.ofNat 16 c.refillStart ∧
    u8 b 11 = named c.pChannel ∧ u8 b 12 = named c.tChannel) ∧
  reading 13 c.pChannel (.bankP a) x.p ∧ reading 16 c.tChannel (.bankT a) x.t ∧
  u32 b 19 = BitVec.ofNat 32 x.inventory ∧ u8 b 23 = (if x.isolated then 1 else 0) ∧
  (∀ i < 8, (u8 b 24).getLsbD i = decide (∃ p : Fin 4, p.val = i ∧ (s.pos p).drawBank = some a)) ∧
  u8 b 25 = (if s.compressor.activeBank = some a then 2 else if a ∈ s.compressor.queue then 1 else 0) ∧
  u32 b 26 = BitVec.ofNat 32 (s.usableInventory .h70) ∧ u32 b 30 = BitVec.ofNat 32 (s.usableInventory .h35)

/-- R152, 12.6.10: the 55 bytes of READ_COMPRESSOR. -/
def compressorShown (s : State) (b : List Byte) : Prop :=
  let c := s.compressor
  (u8 b 0 = BitVec.ofNat 8 c.state.code ∧ u8 b 1 = BitVec.ofNat 8 ((c.activeBank.map Fin.val).getD 255) ∧
    u32 b 2 = timerShown c.timer ∧ u8 b 6 = BitVec.ofNat 8 c.queue.length) ∧
  (∀ i < 6,
    u8 b (7 + 2 * i) = BitVec.ofNat 8 ((c.queue[i]?.map Fin.val).getD 0) ∧
    u8 b (8 + 2 * i) = c.queue[i]?.elim 0 fun x => if c.activeBank = some x then 2 else 1) ∧
  u8 b 19 = BitVec.ofNat 8 c.credits ∧ u8 b 20 = BitVec.ofNat 8 c.returns.length ∧
  (∀ i < 6, u32 b (21 + 4 * i) = BitVec.ofNat 32 (c.returns[i]?.getD 0)) ∧
  (u8 b 45 = (if c.creditWait then 1 else 0) ∧ u8 b 46 = BitVec.ofNat 8 c.supply.code ∧
    u8 b 47 = (if c.esdCause then 1 else 0) ∧ u8 b 48 = (if c.supply ≠ .clear ∨ c.esdCause = true then 1 else 0)) ∧
  showsChannel s b 49 (s.roleChannel .supply) ∧ showsChannel s b 52 (s.roleChannel .discharge)

/-- R166, 12.6.10: the 53 bytes of READ_PRECOOL. -/
def precoolShown (s : State) (b : List Byte) : Prop :=
  let c := s.precool
  (u8 b 0 = BitVec.ofNat 8 c.chiller.code ∧ u8 b 1 = (if c.faultLine then 1 else 0) ∧
    u8 b 2 = (if c.coolantCause then 1 else 0)) ∧
  showsChannel s b 3 (s.roleChannel .coolant) ∧
  (u8 b 6 = (if c.coolantSeen then 1 else 0) ∧ u8 b 7 = BitVec.ofNat 8 c.offered.code ∧
    u16 b 8 = BitVec.ofNat 16 (s.site.limitG3 - s.site.approach) ∧ u8 b 10 = BitVec.ofNat 8 s.site.slotCount ∧
    (∀ i < 8, (u8 b 11).getLsbD i = decide (∃ p : Fin 4, p.val = i ∧ c.holders.has p = true)) ∧ u8 b 12 = BitVec.ofNat 8 c.waitQueue.length) ∧
  (∀ i < 4,
    u8 b (13 + 5 * i) = BitVec.ofNat 8 ((c.waitQueue[i]?.map Fin.val).getD 0) ∧
    u32 b (14 + 5 * i) = c.waitQueue[i]?.elim 0 fun p => timerShown (s.pos p).coolWaitTimer) ∧
  ∀ p : Fin 4,
    u8 b (33 + 5 * p.val) = BitVec.ofNat 8 (((s.grade p).map Grade.code).getD 255) ∧
    u32 b (34 + 5 * p.val) = timerShown (c.fallback.get p)

/-- R177, 12.6.10: the 22 bytes of READ_CHANNEL. -/
def channelShown (s : State) (i : Fin 32) (b : List Byte) : Prop :=
  let c := s.chanCfg i
  let x := s.chan i
  (u8 b 0 = BitVec.ofNat 8 i.val ∧ u8 b 1 = BitVec.ofNat 8 ((c.user.map Role.code).getD 0) ∧
    u8 b 2 = BitVec.ofNat 8 c.kind.code ∧ u8 b 3 = BitVec.ofNat 8 c.source ∧
    u16 b 4 = BitVec.ofNat 16 c.windowMin ∧ u16 b 6 = BitVec.ofNat 16 c.windowMax ∧
    u16 b 8 = BitVec.ofNat 16 c.grace) ∧
  u8 b 10 = BitVec.ofNat 8 x.state.code ∧ u16 b 11 = BitVec.ofNat 16 x.value ∧ u8 b 13 = (if x.taken then 1 else 0) ∧
  u32 b 14 = timerShown x.grace ∧ u16 b 18 = BitVec.ofNat 16 s.rejectedSamples ∧
  u8 b 20 = (if s.esdLatch then 1 else 0) ∧ u8 b 21 = (if s.esdLine then 1 else 0)

/-! ### Commissioning and authorization -/

/-- R182 test 4: the item that fails first for a position, 0 when the position passes. -/
def positionFault (s : State) (p : Fin 4) : Nat :=
  if (s.cfg p).inService = false then 0
  else if s.price (s.cfg p).nozzleClass = none then 1
  else if (namesFor s (s.cfg p).pDisp (.pDisp p) && namesFor s (s.cfg p).tGas (.tGas p)) = false then 2
  else if s.pulseWeights.get p = 0 then 3
  else 0

/-- R182 test 5: whether a bank passes. -/
def bankPasses (s : State) (b : Fin 6) : Bool :=
  !(s.bankCfg b).inService || (namesFor s (s.bankCfg b).pChannel (.bankP b) && namesFor s (s.bankCfg b).tChannel (.bankT b))

/-- R29: the hold of an authorization against an account, from the given amount, the mass as the stock check left it and
the current price. -/
def holdOf (amount mass : Option Nat) (price : Nat) (a : Account) : Nat :=
  let requested :=
    match amount, mass, a.perFillMax with
    | some x, _, _ => x
    | none, some m, _ => min 4294967295 ((m * price + 50000) / 100000)
    | none, none, some x => x
    | none, none, none => a.available
  min (min requested a.available) (a.perFillMax.getD requested)

/-- R25: the status of an account after a change that leaves it with a debt or without one. -/
def statusByDebt (written : AccountStatus) (debt : Bool) : AccountStatus :=
  if written = .active ∧ debt = true then .overdrawn
  else if written = .overdrawn ∧ debt = false then .active
  else written

/-- R25 (2): the pending flags after such a change; ACCOUNT_OVERDRAWN is bit 25. -/
def flagsByDebt (flags : BitVec 27) (written : AccountStatus) (debt : Bool) : BitVec 27 :=
  if written = .active ∧ debt = true then flags ||| 0x2000000#27 else flags

/-! ### The choice of a bank for a position -/

/-- R128 (3), R134 (3): the P channel of a bank has taken a value since restart and is not FAILED. -/
def pressureKnown (s : State) (b : Fin 6) : Prop :=
  ∃ i, (s.bankCfg b).pChannel = some i ∧ (s.chan i).taken = true ∧ (s.chan i).state ≠ .failed

/-- R121, R127 (1), R128 (2): a bank serves a class. -/
def servesClass (s : State) (b : Fin 6) (k : NozzleClass) : Prop :=
  match k with
  | .h70 => (s.bankCfg b).servesH70 = true
  | .h35 => (s.bankCfg b).servesH35 = true

/-- R128 (1) to (5): a bank is eligible for a position that leaves a bank or none. -/
def bankFits (s : State) (p : Fin 4) (leaving : Option (Fin 6)) (b : Fin 6) : Prop :=
  ((s.bankCfg b).inService = true ∧ (s.bank b).isolated = false) ∧ servesClass s b (s.cfg p).nozzleClass ∧
  pressureKnown s b ∧ s.pDisp p + s.site.openDiff ≤ (s.bank b).p ∧ leaving ≠ some b

/-- R129 (1): a bank is listed before another: by rated pressure, then by index. -/
def listedBefore (s : State) (a b : Fin 6) : Prop :=
  (s.bankCfg a).rated < (s.bankCfg b).rated ∨ (s.bankCfg a).rated = (s.bankCfg b).rated ∧ a < b

/-- R129 (1) to (3), (5): the answer to a position that asks for a bank: the first listed one that is not ACTIVE, the ACTIVE one
when the list holds no other, and none when the list is empty. -/
def selectionAnswer (s : State) (p : Fin 4) (leaving : Option (Fin 6)) (found : Option (Fin 6)) : Prop :=
  match found with
  | none => ∀ b, ¬bankFits s p leaving b
  | some b =>
    bankFits s p leaving b ∧
    (s.compressor.activeBank = some b → ∀ a, bankFits s p leaving a → a = b) ∧
    (s.compressor.activeBank ≠ some b →
      ∀ a, bankFits s p leaving a → a ≠ b → s.compressor.activeBank ≠ some a → listedBefore s b a)

/-- R127 (1) to (4): the usable inventory of a class: the sum over the banks in service, READY and serving the class of the
inventory less the floor inventory, a negative difference counting as 0. -/
def usableSum (s : State) (k : NozzleClass) : Nat :=
  let floor : Nat := if k = .h70 then s.site.floorH70 else s.site.floorH35
  ((List.finRange 6).map fun b =>
    let c := s.bankCfg b
    let x := s.bank b
    if c.inService = true ∧ x.isolated = false ∧ (if k = .h70 then c.servesH70 else c.servesH35) = true then
      ((x.inventory : Int) - (c.volume * floor * 100000 / (4124 * (x.t + floor * 177 / 1000)) : Nat)).toNat
    else 0).sum

/-! ### The refill queue and the choice of a bank to refill -/

/-- R141: a bank that a choice may take, leaving out the bank that is being drawn. -/
def mayRefill (s : State) (leave : Option (Fin 6)) (b : Fin 6) : Prop :=
  s.compressor.activeBank ≠ some b ∧ (∀ p, (s.pos p).drawBank ≠ some b) ∧ leave ≠ some b

/-- R141: the choice: the first bank in queue order that it may take, or none. -/
def refillChoice (s : State) (leave : Option (Fin 6)) (found : Option (Fin 6)) : Prop :=
  match found with
  | none => ∀ b ∈ s.compressor.queue, ¬mayRefill s leave b
  | some b =>
    ∃ before after, s.compressor.queue = before ++ b :: after ∧ mayRefill s leave b ∧
      ∀ x ∈ before, ¬mayRefill s leave x

/-- R141: a chosen bank becomes ACTIVE in RUNNING. -/
def refilling (s : State) (b : Fin 6) : State :=
  { s with compressor := { s.compressor with state := .running, activeBank := some b, timer := none } }

/-- R141, R144 (1), R145 (2): the next bank becomes ACTIVE, or the compressor enters UNLOADED for 30 s. -/
def nextRefill (s t : State) (leave : Option (Fin 6)) : Prop :=
  (∀ b, refillChoice s leave (some b) → t = refilling s b) ∧
  (refillChoice s leave none →
    t = { s with compressor := { s.compressor with state := .unloaded, activeBank := none, timer := some 30000 } })

/-- R139 (2), R144 (2), R145: an event that may make a bank choosable: a start test in STOPPED, a choice in UNLOADED, and nothing
in the other compressor states. -/
def bankMayBeTaken (s t : State) : Prop :=
  (s.compressor.state = .stopped → t = s.compressorStartTest) ∧
  (s.compressor.state = .unloaded →
    (∀ b, refillChoice s none (some b) → t = refilling s b) ∧ (refillChoice s none none → t = s)) ∧
  (s.compressor.state ≠ .stopped → s.compressor.state ≠ .unloaded → t = s)

/-- R139 (1), (2): a bank joins the refill queue after the banks of its rated pressure or above, and the test or the choice
follows. -/
def bankQueued (s t : State) (b : Fin 6) : Prop :=
  ∃ before after, s.compressor.queue = before ++ after ∧
    (∀ x ∈ before, (s.bankCfg b).rated ≤ (s.bankCfg x).rated) ∧
    (∀ x ∈ after.head?, (s.bankCfg x).rated < (s.bankCfg b).rated) ∧
    bankMayBeTaken { s with compressor := { s.compressor with queue := before ++ b :: after } } t

/-- R140, R141: a bank leaves the refill queue; when it was ACTIVE, the next bank is chosen. -/
def bankDequeued (s t : State) (b : Fin 6) : Prop :=
  let left : Compressor := { s.compressor with queue := s.compressor.queue.erase b }
  (s.compressor.activeBank ≠ some b → t = { s with compressor := left }) ∧
  (s.compressor.activeBank = some b → nextRefill { s with compressor := { left with activeBank := none } } t none)

/-- R134: a bank asks to be added to the refill queue. -/
def asksForRefill (s : State) (b : Fin 6) : Prop :=
  s.commissioned = true ∧ (s.bankCfg b).inService = true ∧ (s.bank b).isolated = false ∧ pressureKnown s b ∧
  (s.bank b).p < (s.bankCfg b).refillStart ∧ s.compressor.activeBank ≠ some b ∧ b ∉ s.compressor.queue

/-- R134, R139: the queue entry test of a bank, from one state to the next. -/
def queueEntryMade (s t : State) (b : Fin 6) : Prop :=
  (asksForRefill s b → bankQueued s t b) ∧ (¬asksForRefill s b → t = s)

/-- R145 (1), (2): a draw is selected on a bank: an ACTIVE one is QUEUED again in its place, and the next bank is chosen without
it. -/
def drawSuspends (s t : State) (b : Fin 6) : Prop :=
  (s.compressor.activeBank ≠ some b → t = s) ∧
  (s.compressor.activeBank = some b →
    nextRefill { s with compressor := { s.compressor with activeBank := none } } t (some b))

/-- R130 (1), (3), R145: a position leaves its draw set; the report of an emptied set acts when the bank is in the queue. -/
def drawLeaves (s t : State) (p : Fin 4) : Prop :=
  let left : State := { s with positions := setAt s.positions p { s.pos p with drawBank := none } }
  ((s.pos p).drawBank = none → t = left) ∧
  ∀ b, (s.pos p).drawBank = some b →
    let emptied : Prop := b ∈ s.compressor.queue ∧ ∀ o, o ≠ p → (s.pos o).drawBank ≠ some b
    (emptied → bankMayBeTaken left t) ∧ (¬emptied → t = left)

/-! ### Profile lookup -/

/-- R69: the ambient that a lookup reads. -/
def ambientRead (s : State) (a : Nat) : Prop :=
  ((∀ i, (s.chanCfg i).user ≠ some .ambient) → a = s.site.worstAmbient) ∧
  ∀ i, (s.chanCfg i).user = some .ambient → (∀ j, j < i → (s.chanCfg j).user ≠ some .ambient) →
    a = if (s.chan i).state = .failed then s.site.worstAmbient else (s.chan i).value

/-- R54 (1), R70: what a lookup takes: the first entry in index order that is in use and matches, or none. -/
def firstMatch (s : State) (fits : FillProfile → Prop) (found : Option (Fin 16 × FillProfile)) : Prop :=
  match found with
  | none => ∀ i f, s.profiles.get i = some f → ¬fits f
  | some (i, f) =>
    s.profiles.get i = some f ∧ fits f ∧ ∀ j, j < i → ∀ g, s.profiles.get j = some g → ¬fits g

/-- R70 (1) to (5): an entry matches a profile lookup of a position, for a grade, a comm mode and the ambient. -/
def profileMatches (s : State) (p : Fin 4) (grade : Option Grade) (mode : CommMode) (ambient : Nat) (f : FillProfile) : Prop :=
  f.nozzleClass = (s.cfg p).nozzleClass ∧ grade = some f.grade ∧ (f.ambientLow ≤ ambient ∧ ambient ≤ f.ambientHigh) ∧
  match mode with
  | .noncomm => f.comm = none
  | .comm =>
    ∃ k v, f.comm = some k ∧ (s.pos p).link.volume = some v ∧ k.volumeLow ≤ v ∧ v ≤ k.volumeHigh

/-- R54 (1): an entry matches the variant lookup of a position. -/
def variantMatches (s : State) (p : Fin 4) (ambient : Nat) (f : FillProfile) : Prop :=
  f.nozzleClass = (s.cfg p).nozzleClass ∧ f.grade = (if (s.cfg p).cooling then .g1 else .g0) ∧
  f.ambientLow ≤ ambient ∧ ambient ≤ f.ambientHigh

/-! ### The ends and the holds of a fill -/

/-- R162: no grant is due: the chiller is not READY, the slots are taken, or nothing waits. -/
def noGrantDue (s : State) : Prop := s.slotFree = false ∨ s.precool.waitQueue = []

/-- R130, R145: the state after a position has left its draw set and an emptied set has been reported. -/
def State.drawReported (s : State) (p : Fin 4) : State := (s.leaveBank p).reportLeft (s.pos p).drawBank

/-- R60 (2), (4), (5), R106: what entry into ENDING makes of a position. -/
def endedPosition (q : Position) (ventMs : Nat) : Position :=
  { q with
    state := .ending
    valve := 0
    drawBank := none
    factors := .empty
    resumeTimer := none
    coolWaitTimer := none
    substateTimer := some ventMs
    ramp := { q.ramp with stepTimer := none } }

/-- R113 (1) to (3), (5): what entry into HELD makes of a position, with its active factors. -/
def heldPosition (q : Position) (factors : FactorSet) : Position :=
  { q with
    state := .held .factorWait
    valve := 0
    drawBank := none
    substateTimer := none
    coolWaitTimer := none
    resumeTimer := none
    factors := factors
    ramp := { q.ramp with stepTimer := none } }

/-- R12 (1), R60, R106, R130, R163 (1): a state in which the fill of a position has ended with a reason, before the grants that a
released slot calls for. -/
def fillEnded (s : State) (p : Fin 4) (reason : EndReason) : State :=
  { s with
    positions := setAt s.positions p (endedPosition (s.pos p) (s.site.ventTime * 1000))
    tickets := (s.modActive p fun k => { k with endReason := some reason }).tickets
    waiting := s.waiting.put p false
    compressor := (s.drawReported p).compressor
    pendingFlags := (s.drawReported p).pendingFlags
    precool :=
      { s.precool with
        holders := s.precool.holders.put p false
        waitQueue := s.precool.waitQueue.erase p
        fallback := setAt s.precool.fallback p none } }

/-- The ACTIVE ticket of a position, which is no other position's, is changed from one state to the next. -/
def ticketBecomes (s t : State) (p : Fin 4) (f : Ticket → Ticket) : Prop :=
  ∀ n i k, (s.pos p).active = some n → s.ticketSlot n = some i → s.tickets.get i = some k →
    (∀ q, q ≠ p → (s.pos q).active ≠ some n) → t.tickets.get i = some (f k)

/-- R12 (1), R60, R163: the fill of a position ends with a reason, and grants are made (R162, `slotGranted`), from one state to the
next. A position that does not wait in COOL_WAIT is touched only when it is the one whose fill ends; when nothing waits for a
slot, nothing else changes. -/
def fillEnds (s t : State) (p : Fin 4) (reason : EndReason) : Prop :=
  t = (fillEnded s p reason).makeGrants ∧
  t.pos p = endedPosition (s.pos p) (s.site.ventTime * 1000) ∧
  (∀ q, q ≠ p → (s.pos q).state ≠ .starting .coolWait → t.pos q = s.pos q) ∧
  t.base = s.base ∧ t.banks = s.banks ∧ t.waiting.has p = false ∧ t.precool.fallback.get p = none ∧
  (s.precool.waitQueue.Nodup → t.precool.holders.has p = false ∧ p ∉ t.precool.waitQueue) ∧
  ticketBecomes s t p (fun k => { k with endReason := some reason }) ∧
  (s.precool.waitQueue = [] → t = fillEnded s p reason)

/-- R113: the fill of a position holds with its active factors, from one state to the next; nothing else changes. -/
def fillHolds (s t : State) (p : Fin 4) (factors : FactorSet) : Prop :=
  t = { s with
    positions := setAt s.positions p (heldPosition (s.pos p) factors)
    compressor := (s.drawReported p).compressor
    precool := { s.precool with fallback := setAt s.precool.fallback p none }
    pendingFlags := (s.drawReported p).pendingFlags ||| (EventFlag.held p).word }

/-! ### Hold factors -/

/-- R106, R112: the end reason that a factor gives at a position whose disposition for it is END. VEHICLE_HALT and SUPERVISOR
always hold. -/
def endingReason (c : PositionConfig) (f : Factor) : Option EndReason :=
  match f with
  | .vehicleHalt | .supervisor => none
  | .bankLow => if c.bankLow = .endFill then some .bankLow else none
  | .precool => if c.precool = .endFill then some .precool else none
  | .sensor => if c.sensor = .endFill then some .sensor else none
  | .meter => if c.meter = .endFill then some .meter else none

/-- R112: a factor becomes active at a position, from one state to the next. One that is active already changes nothing; in
STARTING it joins the set; in FUELLING and HELD it ends the fill or holds it, by its disposition; outside a fill it is not
taken. -/
def factorActivates (s t : State) (p : Fin 4) (f : Factor) : Prop :=
  let q := s.pos p
  let joined : FactorSet := q.factors.put f true
  ((q.factors.has f = true ∨ q.state.filling = false) → t = s) ∧
  (q.factors.has f = false →
    (∀ sub, q.state = .starting sub → t = { s with positions := setAt s.positions p { q with factors := joined } }) ∧
    (∀ r, (q.state = .fuelling ∨ q.state.isHeld = true) → endingReason (s.cfg p) f = some r → fillEnds s t p r) ∧
    (q.state = .fuelling → endingReason (s.cfg p) f = none → fillHolds s t p joined) ∧
    (q.state.isHeld = true → endingReason (s.cfg p) f = none →
      t = { s with
        positions :=
          setAt s.positions p { q with factors := joined, state := .held .factorWait, resumeTimer := none } }))

/-- R112, R115: what the clearing of a factor makes of a position: the last one to clear in FACTOR_WAIT starts the resume delay
or, in clear mode MANUAL, the wait for a demand. -/
def clearedPosition (c : PositionConfig) (q : Position) (f : Factor) : Position :=
  let left : FactorSet := q.factors.put f false
  if q.factors.has f = true ∧ q.state = .held .factorWait ∧ left = .empty then
    if c.clearMode = .manual then { q with factors := left, state := .held .demandWait, resumeTimer := none }
    else { q with factors := left, state := .held .delay, resumeTimer := some (c.resumeDelay * 1000) }
  else { q with factors := left }

/-- R112, R115: a factor clears at a position, from one state to the next; nothing else changes. -/
def factorClears (s t : State) (p : Fin 4) (f : Factor) : Prop :=
  t = { s with positions := setAt s.positions p (clearedPosition (s.cfg p) (s.pos p) f) }

/-- R110 (1): SENSOR follows the channels of a position: it is active while P_disp is HELD or T_gas is FAILED. -/
def sensorFollows (s t : State) (p : Fin 4) : Prop :=
  let doubt : Prop :=
    (∃ i, (s.cfg p).pDisp = some i ∧ (s.chan i).state = .held) ∨ ∃ i, (s.cfg p).tGas = some i ∧ (s.chan i).state = .failed
  (doubt → factorActivates s t p .sensor) ∧ (¬doubt → factorClears s t p .sensor)

/-- R11, R109 (1), R165 (1), (2): a T_gas value is taken for a position. The peak of a FUELLING ticket follows it. In FUELLING,
at a grade with an outlet limit, the fallback timer starts above the limit, unless it runs, and stops at or below it. A value
that is not above the limit clears PRECOOL. -/
def gasTemperatureActs (s t : State) (p : Fin 4) (v : Nat) : Prop :=
  let limit : Option Nat :=
    match s.grade p with
    | some .g1 => some s.site.limitG1
    | some .g2 => some s.site.limitG2
    | some .g3 => some s.site.limitG3
    | some .g0 | none => none
  let peaked : State :=
    if (s.pos p).state.busy then s.modActive p fun k => { k with peakTGas := some (max v (k.peakTGas.getD v)) } else s
  let running := s.precool.fallback.get p
  let timer : Option Nat :=
    match limit with
    | some l =>
      if (s.pos p).state = .fuelling then
        if l < v then some (running.getD (s.site.fallbackWindow * 1000)) else none
      else running
    | none => running
  let supervised : State := { peaked with precool := { s.precool with fallback := setAt s.precool.fallback p timer } }
  (∀ l, limit = some l → v ≤ l → factorClears supervised t p .precool) ∧
  ((∀ l, limit = some l → l < v) → t = supervised)

/-! ### Banks -/

/-- R126: the inventory of a bank at a pressure and a temperature, 0 unless both its channels have taken a value. -/
def inventoryAt (s : State) (b : Fin 6) (p t : Nat) : Nat :=
  if ((s.bankCfg b).pChannel.map s.chan).any Channel.taken ∧ ((s.bankCfg b).tChannel.map s.chan).any Channel.taken then
    (s.bankCfg b).volume * p * 100000 / (4124 * (t + p * 177 / 1000))
  else 0

/-- R135 (2), (3): each waiting position for which a bank is eligible leaves the waiting set and clears BANK_LOW; the other
positions stand. -/
def waitingReported (s t : State) : Prop :=
  ∀ p,
    let reported : Prop := s.waiting.has p = true ∧ ∃ a, s.eligible p none a = true
    (reported → t.waiting.has p = false ∧ t.pos p = clearedPosition (s.cfg p) (s.pos p) .bankLow) ∧
    (¬reported → t.waiting.has p = s.waiting.has p ∧ t.pos p = s.pos p)

/-- R52, R131 (3), (4), R132 (3): a position that draws on a bank when the bank is isolated, from one state to the next. With an
eligible bank it draws on that, and in FUELLING both consecutive counts become 0; the one position of a draw set draws on the bank
that R129 selects, and suspends its refill when it is ACTIVE (R145). With none the pulse ends into SETTLE, and in FUELLING BANK_LOW
ends or holds the fill by its disposition; its end releases a slot that is granted on (R163). -/
def positionDisplaced (s t : State) (p : Fin 4) (b : Fin 6) : Prop :=
  let q := s.pos p
  let isolated : State := { s with banks := setAt s.banks b { s.bank b with isolated := true } }
  let drawing : Prop := q.state = .fuelling ∨ q.state = .starting .pulse
  let moved (a : Fin 6) : Position :=
    if q.state = .fuelling then { q with drawBank := some a, ramp := { q.ramp with starved := 0, lagging := 0 } }
    else { q with drawBank := some a }
  let noneLeft : Prop := ∀ a, isolated.eligible p none a = false
  let alone : Prop := s.compressor.activeBank ≠ some b ∧ ∀ o, o ≠ p → (s.pos o).drawBank ≠ some b
  let left : State :=
    { isolated with
      positions := setAt s.positions p { q with drawBank := none }
      compressor := { s.compressor with queue := s.compressor.queue.erase b } }
  (drawing → ¬noneLeft → ∃ a, isolated.eligible p none a = true ∧ t.pos p = moved a) ∧
  (∀ a, drawing → alone → isolated.selectedBank p none = some a →
    t.pos p = moved a ∧ t.compressor = (left.suspendForDraw a).compressor) ∧
  (drawing → alone → noneLeft → s.precool.waitQueue = [] → t.compressor = left.compressor) ∧
  (q.state = .starting .pulse → noneLeft →
    t.pos p = { q with state := .starting .settle, valve := 0, drawBank := none, substateTimer := some 2000 }) ∧
  (q.state = .fuelling → q.factors.bankLow = false → noneLeft →
    ((s.cfg p).bankLow = .endFill →
      t.pos p = endedPosition q (s.site.ventTime * 1000) ∧
      (ticketBecomes s t p fun k => { k with endReason := some .bankLow }) ∧
      (alone → ∃ m, fillEnds left m p .bankLow ∧
        t = { m with banks := t.banks, pendingFlags := m.pendingFlags ||| 0x10000#27 })) ∧
    ((s.cfg p).bankLow = .holdFill →
      t.pos p = heldPosition q { q.factors with bankLow := true } ∧ t.waiting.has p = true ∧
      t.flagPending (.held p) = true))

/-- R132, R140 (2): a READY bank is isolated, from one state to the next: it leaves the refill queue, and every position leaves its
draw set and is displaced; a position that neither draws on it nor waits in COOL_WAIT stands. When no position draws on it, nothing
else changes but what its removal from the queue does. -/
def bankIsolates (s t : State) (b : Fin 6) : Prop :=
  (t.bank b).isolated = true ∧ t.flagPending .bankIsolated = true ∧
  (s.compressor.queue.Nodup → b ∉ t.compressor.queue ∧ t.compressor.activeBank ≠ some b) ∧
  t.compressor.queue = s.compressor.queue.erase b ∧
  ((∀ p, (s.pos p).drawBank ≠ some b) →
    ∃ m, bankDequeued s m b ∧ t = { m with banks := t.banks, pendingFlags := s.pendingFlags ||| 0x10000#27 }) ∧
  (∀ p, (t.pos p).drawBank ≠ some b) ∧ (∀ p, (s.pos p).drawBank = some b → positionDisplaced s t p b) ∧
  ∀ p, (s.pos p).drawBank ≠ some b → (s.pos p).state ≠ .starting .coolWait → t.pos p = s.pos p

/-! ### The loss of cooling -/

/-- R56, R74, R157 (2): what becomes of a position whose cooling slot is released by a fault or by CHILLER_OFF. In STARTING it
takes grade G0 and cool-wait expired yes. In FUELLING and HELD it takes grade G0, its fallback timer stops, and it is looked up
again at G0: with a profile its ramp is rebased and PRECOOL clears; with none PRECOOL becomes active and ends or holds the fill by
its disposition. -/
def slotLost (s t : State) (p : Fin 4) : Prop :=
  let q := s.pos p
  let running : Prop := q.state = .fuelling ∨ q.state.isHeld = true
  let mode : CommMode := if q.link.state = .stream then .comm else .noncomm
  let found := s.lookupProfile p (some .g0) mode
  let joined : FactorSet := { q.factors with precool := true }
  t.precool.holders.has p = false ∧
  (q.state.filling = false → t.pos p = q ∧ t.grade p = s.grade p) ∧
  (∀ sub, q.state = .starting sub → t.pos p = { q with coolWaitExpired := true } ∧ t.grade p = some .g0) ∧
  (running → t.grade p = some .g0 ∧ t.precool.fallback.get p = none) ∧
  (∀ i f, running → found = some (i, f) →
    t.pos p =
      clearedPosition (s.cfg p)
        { q with
          ramp :=
            { q.ramp with
              profile := some i, base := 10 * s.pDisp p, time := 0, rate := f.rampRate, taper := false, target := none
              starved := 0, lagging := 0 } } .precool ∧
    ticketBecomes s t p fun k => { k with profile := some i, grade := some .g0, commMode := some mode }) ∧
  (running → found = none →
    (q.factors.precool = true → t.pos p = q ∧ ticketBecomes s t p fun k => k) ∧
    (q.factors.precool = false → (s.cfg p).precool = .endFill →
      t.pos p = endedPosition q (s.site.ventTime * 1000) ∧
      ticketBecomes s t p fun k => { k with endReason := some .precool }) ∧
    (q.factors.precool = false → (s.cfg p).precool = .holdFill →
      (q.state = .fuelling → t.pos p = heldPosition q joined ∧ t.flagPending (.held p) = true) ∧
      (q.state.isHeld = true → t.pos p = { q with factors := joined, state := .held .factorWait, resumeTimer := none }) ∧
      ticketBecomes s t p fun k => k))

/-- R157: entry into FAULT, from a state that shows the cause already. Every slot is released, and each former holder loses its
cooling; the wait queue and the other positions stand. -/
def chillerFaults (s t : State) : Prop :=
  t.base = s.base ∧ t.banks = s.banks ∧ t.precool.chiller = .fault ∧ t.precool.offered = .g0 ∧
  t.precool.holders = .empty ∧ t.flagPending .precoolFault = true ∧ t.precool.faultLine = s.precool.faultLine ∧
  t.precool.coolantCause = s.precool.coolantCause ∧ t.precool.coolantSeen = s.precool.coolantSeen ∧
  ((∀ p ∈ s.precool.waitQueue, s.precool.holders.has p = false) → t.precool.waitQueue = s.precool.waitQueue) ∧
  (∀ p, s.precool.holders.has p = true → slotLost s t p) ∧
  ∀ p, s.precool.holders.has p = false → t.pos p = s.pos p ∧ t.grade p = s.grade p

/-! ### From the settle time to FUELLING -/

/-- R57: the start lookup of a position whose wait for a cooling slot is over, from one state to the next, with the grants that
follow it (R162). -/
def startLookupActs (s t : State) (p : Fin 4) : Prop :=
  let q := s.pos p
  let mode : CommMode := if q.link.state = .stream then .comm else .noncomm
  let found := s.lookupProfile p (s.grade p) mode
  (found = none →
    fillEnds s t p (if s.grade p = some .g0 ∧ q.coolWaitExpired = true then .noCooling else .noProfile)) ∧
  ∀ i f, found = some (i, f) →
    (f.endPressure ≤ q.pInit.getD 0 → fillEnds s t p .startFull) ∧
    (q.pInit.getD 0 < f.endPressure →
      let based : Position :=
        { q with
          valve := 0
          ramp :=
            { q.ramp with
              profile := some i, base := 10 * q.pInit.getD 0, time := 0, rate := f.rampRate, taper := false
              target := none, starved := 0, lagging := 0 } }
      let recorded : State :=
        { s.modActive p fun k => { k with profile := some i, grade := s.grade p, commMode := some mode } with
          positions := setAt s.positions p based }
      let ending := [Factor.bankLow, .precool, .sensor, .meter].findSome? fun x =>
        if q.factors.has x then endingReason (s.cfg p) x else none
      (∀ r, ending = some r → fillEnds recorded t p r) ∧
      (ending = none → q.factors ≠ .empty → ∃ u, fillHolds recorded u p q.factors ∧ t = u.makeGrants) ∧
      (∀ b, q.factors = .empty → s.selectedBank p none = some b →
        t = State.makeGrants { recorded with
          positions := setAt s.positions p
            { based with
              state := .fuelling, drawBank := some b, substateTimer := none, coolWaitTimer := none
              ramp := { based.ramp with stepTimer := some 250 } }
          compressor := (s.suspendForDraw b).compressor }) ∧
      (q.factors = .empty → s.selectedBank p none = none → (s.cfg p).bankLow = .endFill →
        fillEnds recorded t p .bankLow) ∧
      (q.factors = .empty → s.selectedBank p none = none → (s.cfg p).bankLow = .holdFill →
        ∃ u, fillHolds recorded u p { FactorSet.empty with bankLow := true } ∧
          t = State.makeGrants { u with waiting := s.waiting.put p true }))

/-- R56: COOL_WAIT, from one state to the next. A position that needs no cooling, holds a slot, or has waited in vain passes it
without waiting and makes its start lookup; another one waits for the cool-wait time. -/
def coolWaitActs (s t : State) (p : Fin 4) : Prop :=
  let q := s.pos p
  let entered : Position := { q with state := .starting .coolWait, substateTimer := none }
  let passes : Prop := (s.cfg p).cooling = false ∨ s.precool.holders.has p = true ∨ q.coolWaitExpired = true
  (passes → startLookupActs { s with positions := setAt s.positions p entered } t p) ∧
  (¬passes →
    t = State.makeGrants { s with
      positions := setAt s.positions p { entered with coolWaitTimer := some (s.site.coolWaitTime * 1000) } })

/-- R56 (4), R162: the grants of one event, from the state in which the grant to the head of the wait queue is due to the state
after the last of them. The head leaves the queue and becomes a holder at the offered grade, and is told at once: in COOL_WAIT
its timer stops and, unless VEHICLE_HALT holds it (R58), it makes its start lookup; in another state it keeps the grade. The
grants go on from there. -/
def slotGranted (s t : State) (p : Fin 4) (rest : List (Fin 4)) : Prop :=
  let granted : State :=
    { s with
      precool :=
        { s.precool with
          waitQueue := rest
          holders := s.precool.holders.put p true
          grades := setAt s.precool.grades p (some s.precool.offered) } }
  let told : State := { granted with positions := setAt s.positions p { s.pos p with coolWaitTimer := none } }
  ((s.pos p).state ≠ .starting .coolWait → t = granted.makeGrants) ∧
  ((s.pos p).state = .starting .coolWait →
    ((s.pos p).factors.vehicleHalt = true → t = told.makeGrants) ∧
    ((s.pos p).factors.vehicleHalt = false → startLookupActs told t p))

/-- R55, R101: the vehicle checks, from one state to the next. A link in LISTEN is LOST whatever they decide; a check that fails
ends the fill, else the position goes on to COOL_WAIT. -/
def vehicleChecksAct (s t : State) (p : Fin 4) : Prop :=
  let q := s.pos p
  let link : LinkContext :=
    if q.link.state = .listen then { q.link with state := .lost, freshness := none, lastCommand := none } else q.link
  let checked : State := { s with positions := setAt s.positions p { q with link := link } }
  let expected := (s.activeTicket p).bind Ticket.expectedTag
  let verdict : Option EndReason :=
    if expected.isSome = true ∧ q.link.state = .stream ∧ q.link.tag ≠ expected then some .tagMismatch
    else if expected.isSome = true ∧ q.link.state ≠ .stream then some .tagUnverified
    else if q.link.state = .stream ∧ q.link.vehicleClass ≠ some (s.cfg p).nozzleClass then some .classMismatch
    else none
  (∀ r, verdict = some r → fillEnds checked t p r) ∧ (verdict = none → coolWaitActs checked t p)

/-- R75, R98, R100: what a fill does when its link has left STREAM, which `s` shows already. A fill under VEHICLE_HALT ends with
LINK_LOST. One in FUELLING or HELD is looked up again with comm mode NONCOMM, and ends with LINK_LOST when no profile is found;
with a profile its ramp is rebased and PRECOOL clears. One in STARTING goes on. -/
def linkLossActs (s t : State) (p : Fin 4) : Prop :=
  let q := s.pos p
  let running := q.state = .fuelling ∨ q.state.isHeld = true
  let found := s.lookupProfile p (s.grade p) .noncomm
  (q.state.filling = false → t = s) ∧
  (q.state.isStarting = true → q.factors.vehicleHalt = false → t = s) ∧
  (q.state.filling = true → q.factors.vehicleHalt = true → fillEnds s t p .linkLost) ∧
  (running → q.factors.vehicleHalt = false → found = none → fillEnds s t p .linkLost) ∧
  ∀ i f, running → q.factors.vehicleHalt = false → found = some (i, f) → noGrantDue s →
    let based : Position :=
      { q with
        ramp :=
          { q.ramp with
            profile := some i, base := 10 * s.pDisp p, time := 0, rate := f.rampRate, taper := false, target := none
            starved := 0, lagging := 0 } }
    factorClears
      { s.modActive p fun k => { k with profile := some i, grade := s.grade p, commMode := some .noncomm } with
        positions := setAt s.positions p based } t p .precool

/-! ### Timers -/

/-- The time left on the timer whose expiry a command is; absent for a command that is no expiry, and while the timer is
stopped. -/
def State.timeLeft (s : State) (c : Instr) : Option Nat :=
  match c with
  | .frameGapTimeout => s.gapLeft
  | .authWindowExpiry n => s.windowLeft n.toNat
  | .graceTimerExpiry c => (s.chan c).grace
  | .debounceExpiry line => (s.debouncers.at line).timer
  | .freshnessExpiry p => s.freshnessLeft p
  | .pulseTimeEnd p => s.substateLeft p .pulse
  | .settleTimeEnd p => s.substateLeft p .settle
  | .leakCheckTimeEnd p => s.substateLeft p .leakCheck
  | .coolWaitExpiry p => s.coolWaitLeft p
  | .controlStep p => s.stepLeft p
  | .ventTimeEnd p => s.ventLeft p
  | .resumeDelayExpiry p => s.delayLeft p
  | .holdSecondElapsed p => s.holdSecondLeft p
  | .holdTotalExpiry p => s.holdTotalLeft p
  | .fallbackExpiry p => s.precool.fallback.get p
  | .startTimeEnd => s.compressorLeft .starting
  | .unloadedTimeEnd => s.compressorLeft .unloaded
  | .lockoutTimeEnd => s.compressorLeft .lockout
  | .creditReturn => s.compressor.returns.head?
  | _ => none

/-- Whether a command is the expiry of a timer. -/
def isExpiry (c : Instr) : Bool :=
  match c with
  | .frameGapTimeout | .authWindowExpiry _ | .graceTimerExpiry _ | .debounceExpiry _ | .freshnessExpiry _
  | .pulseTimeEnd _ | .settleTimeEnd _ | .leakCheckTimeEnd _ | .coolWaitExpiry _ | .controlStep _ | .ventTimeEnd _
  | .resumeDelayExpiry _ | .holdSecondElapsed _ | .holdTotalExpiry _ | .fallbackExpiry _ | .startTimeEnd
  | .unloadedTimeEnd | .lockoutTimeEnd | .creditReturn => true
  | _ => false

/-! ### The values of the configuration payloads -/

/-- Whether a channel byte of a position or a bank names a channel or none (12.6.8). -/
def namesChannel (b : Byte) : Prop := b.toNat ≤ 31 ∨ b.toNat = 255

/-- The channel that such a byte names. -/
def channelNamed (b : Byte) : Option (Fin 32) := if h : b.toNat < 32 then some ⟨b.toNat, h⟩ else none

/-- R44, R69, R123, R138, R153, R181: the values of the site fields. -/
def siteInRange (f : SiteLayout) : Prop :=
  30 ≤ f.authWindow.toNat ∧ f.authWindow.toNat ≤ 600 ∧
  1 ≤ f.minAuthAmount.toNat ∧ f.minAuthAmount.toNat ≤ 1000000 ∧
  1 ≤ f.pulseOpening.toNat ∧ f.pulseOpening.toNat ≤ 1000 ∧
  500 ≤ f.pulseTime.toNat ∧ f.pulseTime.toNat ≤ 3000 ∧
  1 ≤ f.ventTime.toNat ∧ f.ventTime.toNat ≤ 10 ∧
  60 ≤ f.coolWaitTime.toNat ∧ f.coolWaitTime.toNat ≤ 300 ∧
  1 ≤ f.leakTolerance.toNat ∧ f.leakTolerance.toNat ≤ 200 ∧
  2000 ≤ f.worstAmbient.toNat ∧ f.worstAmbient.toNat ≤ 3730 ∧
  1 ≤ f.maxFillH70.toNat ∧ f.maxFillH70.toNat ≤ 60 ∧
  1 ≤ f.maxFillH35.toNat ∧ f.maxFillH35.toNat ≤ 60 ∧
  50 ≤ f.openDiff.toNat ∧ f.openDiff.toNat ≤ 2000 ∧
  f.floorH70.toNat ≤ 9500 ∧ f.floorH35.toNat ≤ 9500 ∧
  f.supplyMin.toNat ≤ 9000 ∧ 10 ≤ f.supplyHyst.toNat ∧ f.supplyHyst.toNat ≤ 1000 ∧
  3000 ≤ f.dischargeLimit.toNat ∧ f.dischargeLimit.toNat ≤ 3700 ∧
  2000 ≤ f.limitG1.toNat ∧ f.limitG1.toNat < f.limitG2.toNat ∧ f.limitG2.toNat < f.limitG3.toNat ∧
  f.limitG3.toNat ≤ 3730 ∧ f.approach.toNat ≤ 500 ∧
  1 ≤ f.slotCount.toNat ∧ f.slotCount.toNat ≤ 4 ∧ 5 ≤ f.fallbackWindow.toNat ∧ f.fallbackWindow.toNat ≤ 60

/-- R43, 12.6.8: the values of the position fields. -/
def positionInRange (f : PositionLayout) : Prop :=
  f.position.toNat ≤ 3 ∧ f.inService.toNat ≤ 1 ∧ (f.nozzleClass.toNat = 1 ∨ f.nozzleClass.toNat = 2) ∧
  f.cooling.toNat ≤ 1 ∧ f.authMode.toNat ≤ 1 ∧ namesChannel f.pDisp ∧ namesChannel f.tGas ∧
  (f.pDisp = f.tGas → f.pDisp.toNat = 255) ∧ f.clearMode.toNat ≤ 2 ∧
  1 ≤ f.resumeDelay.toNat ∧ f.resumeDelay.toNat ≤ 60 ∧ 10 ≤ f.maxHold.toNat ∧ f.maxHold.toNat ≤ 600 ∧
  f.holsterDebounce.toNat ≤ 3 ∧ f.couplingDebounce.toNat ≤ 3

/-- R67, 12.6.8: the values of the profile fields with in use yes. -/
def profileInRange (f : ProfileLayout) : Prop :=
  (f.nozzleClass.toNat = 1 ∨ f.nozzleClass.toNat = 2) ∧ f.grade.toNat ≤ 3 ∧ f.commMode.toNat ≤ 1 ∧
  2000 ≤ f.ambientLow.toNat ∧ f.ambientLow.toNat ≤ f.ambientHigh.toNat ∧ f.ambientHigh.toNat ≤ 3730 ∧
  10 ≤ f.rampRate.toNat ∧ f.rampRate.toNat ≤ 1000 ∧ 1 ≤ f.endPressure.toNat ∧
  f.endPressure.toNat ≤ (if f.nozzleClass.toNat = 1 then 8750 else 4375) ∧
  800 ≤ f.taperSoc.toNat ∧ f.taperSoc.toNat ≤ 990 ∧ f.variant.toNat ≤ 1 ∧
  1 ≤ f.leakTolerance.toNat ∧ f.leakTolerance.toNat ≤ 200 ∧
  100 ≤ f.switchDiff.toNat ∧ f.switchDiff.toNat ≤ 2000 ∧ 1 ≤ f.gain.toNat ∧
  (f.commMode.toNat = 0 →
    1 ≤ f.volumeLow.toNat ∧ f.volumeLow.toNat ≤ f.volumeHigh.toNat ∧ f.volumeHigh.toNat ≤ 2500 ∧
    2000 ≤ f.tankLimit.toNat ∧ f.tankLimit.toNat ≤ 3580 ∧ 900 ≤ f.endSoc.toNat ∧ f.endSoc.toNat ≤ 1000)

/-- R121, 12.6.8: the values of the bank fields. -/
def bankInRange (f : BankLayout) : Prop :=
  f.bank.toNat ≤ 5 ∧ f.inService.toNat ≤ 1 ∧ 1 ≤ f.serves.toNat ∧ f.serves.toNat ≤ 3 ∧
  100 ≤ f.rated.toNat ∧ f.rated.toNat ≤ 9500 ∧ 50 ≤ f.volume.toNat ∧ f.volume.toNat ≤ 20000 ∧
  1 ≤ f.refillTarget.toNat ∧ f.refillTarget.toNat ≤ f.rated.toNat ∧ f.refillStart.toNat < f.refillTarget.toNat ∧
  namesChannel f.pChannel ∧ namesChannel f.tChannel ∧ (f.pChannel = f.tChannel → f.pChannel.toNat = 255)

/-- R167, 12.6.8: the values of the channel fields, in the unit range of the kind (1.6). -/
def channelInRange (f : ChannelLayout) : Prop :=
  f.channel.toNat ≤ 31 ∧ f.user.toNat ≤ 24 ∧ f.kind.toNat ≤ 1 ∧
  (if f.kind.toNat = 0 then 0 else 2000) ≤ f.windowMin.toNat ∧ f.windowMin.toNat ≤ f.windowMax.toNat ∧
  f.windowMax.toNat ≤ (if f.kind.toNat = 0 then 10000 else 3730) ∧ 500 ≤ f.grace.toNat ∧ f.grace.toNat ≤ 10000

/-- R32 test 2, 12.6.8: the values of the account fields. -/
def accountInRange (f : AccountLayout) : Prop :=
  f.number.toNat ≠ 0 ∧ f.kind.toNat ≤ 1 ∧ f.status.toNat ≤ 1 ∧ 1 ≤ f.permission.toNat ∧ f.permission.toNat ≤ 3 ∧
  (f.presence.getLsbD 0 = true → 1 ≤ f.perFillMax.toNat) ∧
  (f.presence.getLsbD 1 = true → ∀ i, 0x20 ≤ (f.tag.get i).toNat ∧ (f.tag.get i).toNat ≤ 0x7E) ∧
  (f.kind.toNat = 0 → f.money.toNat ≤ 2147483647)

/-- R32, R33: the per-fill maximum that the fields give. -/
def perFillGiven (f : AccountLayout) : Option Nat := if f.presence.getLsbD 0 then some f.perFillMax.toNat else none

/-- R23, R32, R33: the tag that the fields give; eight spaces is absent. -/
def tagGiven (f : AccountLayout) : Option Tag :=
  if f.presence.getLsbD 1 ∧ f.tag ≠ Vector.replicate 8 0x20 then some f.tag else none

/-- R32: the money fields that the fields open an account with. -/
def openingGiven (f : AccountLayout) : Money :=
  if f.kind.toNat = 0 then .prepaid f.money.toNat else .credit f.money.toNat 0

/-- R32: the status that the fields write. -/
def statusGiven (f : AccountLayout) : AccountStatus := if f.status.toNat = 0 then .active else .blocked

/-! ### The relations that every step keeps -/

/-- R147: the free credits and the return times are six together; the return times stand in order, none later than 600 s. -/
def creditsKept (s : State) : Prop :=
  s.compressor.credits + s.compressor.returns.length = 6 ∧ s.compressor.returns.Pairwise (· ≤ ·) ∧
  ∀ x ∈ s.compressor.returns, x ≤ 600000

/-- R46, R47, R106: the valves, draws and factors of the positions by their states. -/
def drawsKept (s : State) : Prop :=
  s.site.pulseOpening ≤ 1000 ∧
  ∀ p,
    (if (s.pos p).state = .fuelling ∨ (s.pos p).state = .starting .pulse then
      (s.pos p).drawBank.isSome = true ∧ (s.pos p).valve ≤ 1000
     else (s.pos p).drawBank = none ∧ (s.pos p).valve = 0) ∧
    (((s.pos p).state = .fuelling ∨ (s.pos p).state = .held .delay ∨ (s.pos p).state = .held .demandWait) →
      (s.pos p).factors = .empty) ∧
    (s.commissioned = false → (s.pos p).state = .closed)

/-- R137, R139, R141, R148, R151: the refill queue, the ACTIVE bank and the motor. -/
def refillKept (s : State) : Prop :=
  s.compressor.queue.Nodup ∧
  (∀ b ∈ s.compressor.queue, (s.bankCfg b).inService = true ∧ (s.bank b).isolated = false) ∧
  s.compressor.queue.Pairwise (fun a b => (s.bankCfg b).rated ≤ (s.bankCfg a).rated) ∧
  (s.compressor.state = .running ↔ s.compressor.activeBank.isSome = true) ∧
  (∀ b ∈ s.compressor.activeBank, b ∈ s.compressor.queue ∧ ∀ p, (s.pos p).drawBank ≠ some b) ∧
  (s.commissioned = false → s.compressor.queue = []) ∧
  (s.compressor.state.motorOn = true → s.compressor.supply = .clear ∧ s.compressor.esdCause = false) ∧
  s.compressor.esdCause = s.esdLatch

/-- R56, R161 to R163: the holders and the waiters of the cooling slots. -/
def slotsKept (s : State) : Prop :=
  s.precool.holders.size ≤ s.site.slotCount ∧ s.precool.waitQueue.Nodup ∧
  (∀ p ∈ s.precool.waitQueue,
    (s.pos p).state.isStarting = true ∧ (s.cfg p).cooling = true ∧ s.precool.holders.has p = false ∧
    s.grade p = none ∧ (s.pos p).coolWaitExpired = false ∧
    ((s.pos p).state = .starting .coolWait → (s.pos p).coolWaitTimer.isSome = true)) ∧
  (∀ p, s.precool.holders.has p = true → (s.pos p).state.filling = true) ∧
  (s.commissioned = false → s.precool.holders = .empty ∧ s.precool.waitQueue = []) ∧
  noGrantDue s

/-- R3 to R5, R8, R13: a ticket in the table, as the slots of its position and the position's state have it. -/
def ticketPlaced (s : State) (k : Ticket) : Prop :=
  (1 ≤ k.number ∧ k.number ≤ 65535) ∧
  (k.attachment = .active ↔ (s.pos k.position).active = some k.number) ∧
  (k.attachment = .staged ↔ (s.pos k.position).staged = some k.number) ∧
  (k.state = .fuelling ↔ k.attachment = .active ∧ (s.pos k.position).state.busy = true) ∧
  (k.attachment = .detached → k.state = .ended) ∧
  (k.attachment = .staged → k.state = .opened ∨ k.state = .authorized) ∧
  (k.attachment = .active → k.state = .ended → (s.pos k.position).state = .ended) ∧
  (k.window.isSome = true → k.attachment = .active ∧ k.state = .authorized)

/-- R4, R5, R20, R47: the slots of a position refer to tickets of the position; a fill has one; a decommissioned site has none. -/
def slotsRefer (s : State) (p : Fin 4) : Prop :=
  (∀ n ∈ (s.pos p).active, (s.ticket n).any (fun k => decide (k.position = p)) = true) ∧
  (∀ n ∈ (s.pos p).staged, (s.ticket n).any (fun k => decide (k.position = p)) = true) ∧
  ((s.pos p).state.busy = true → (s.pos p).active.isSome = true) ∧
  (s.commissioned = false → (s.pos p).state = .closed ∧ (s.pos p).active = none ∧ (s.pos p).staged = none)

/-- R106, R117: the hold accumulator of a fill has not passed the maximum hold total, and its ticket shows the same figure in
whole seconds. -/
def holdTimeKept (s : State) : Prop :=
  (∀ p, (s.pos p).state.busy = true → (s.pos p).holdTime ≤ (s.cfg p).maxHold * 1000) ∧
  ∀ i, ∀ k ∈ s.tickets.get i, k.state = .fuelling → k.holdUsed = (s.pos k.position).holdTime / 1000

/-- R3: no two tickets in the table have one number. -/
def numbersDistinct (s : State) : Prop :=
  ∀ i j, i ≠ j → ∀ k ∈ s.tickets.get i, ∀ l ∈ s.tickets.get j, k.number ≠ l.number

/-- R3 to R5, R8, R13, R20, R106: the tickets, the slots of the positions, and the hold time of the fills. -/
def ticketsKept (s : State) : Prop :=
  numbersDistinct s ∧ (∀ i, ∀ k ∈ s.tickets.get i, ticketPlaced s k) ∧ (∀ p, slotsRefer s p) ∧ holdTimeKept s

/-- R26: the sum of the holds of the tickets in the table that name an account. -/
def State.holdsOf (s : State) (n : Nat) : Nat :=
  ((List.finRange 32).map fun i =>
    ((s.tickets.get i).filter fun k => k.account == some n).elim 0 fun k => k.hold.getD 0).sum

/-- R12, R26, R29, R89: the money of a ticket. -/
def ticketFunded (s : State) (k : Ticket) : Prop :=
  (k.state = .opened → k.account = none ∧ k.mass = 0) ∧ k.account.isSome = k.hold.isSome ∧
  (∀ x ∈ k.hold, 1 ≤ x) ∧ (∀ n ∈ k.account, (s.account n).isSome = true) ∧
  k.amount = min 4294967295 ((k.mass / 1000 * k.price.getD 0 + 50000) / 100000)

/-- R25, R26: the held total and the status of an account. -/
def accountBalanced (s : State) (a : Account) : Prop :=
  a.held = s.holdsOf a.number ∧ (a.status = .overdrawn → a.inDebt = true) ∧ (a.status = .active → a.inDebt = false)

/-- R12, R22, R25, R26, R29: the money of the tickets and the accounts. -/
def ledgerKept (s : State) : Prop :=
  1 ≤ s.site.minAuthAmount ∧
  (∀ i j, i ≠ j → ∀ a ∈ s.accounts.get i, ∀ b ∈ s.accounts.get j, a.number ≠ b.number) ∧
  numbersDistinct s ∧ (∀ i, ∀ k ∈ s.tickets.get i, ticketFunded s k) ∧
  ∀ i, ∀ a ∈ s.accounts.get i, accountBalanced s a

/-! ### The bytes of a request frame -/

/-- 12.6.1: the bytes of a request frame after its start byte. -/
def frameBytes (f : RawFrame) : List Byte := requestBytes f ++ bytes16 f.crc

/-- Bytes received one after another, each with a good stop bit. -/
def receiveAll (bytes : List Byte) (s : State) : Host.Outcome State Fault Refusal :=
  match bytes with
  | [] => .next s
  | b :: rest =>
    match exec (.receivedByte b true) s with
    | .next t => receiveAll rest t
    | .fault r => .fault r
    | .refused r => .refused r

end Sys2Proof.Machine
end

