-- ==== Sys2Proof/Certificates/Slice0/Obligations.lean ====
section
/-! DEFINITION. The statements for the provers. Each docstring names the rules of spec/ that its statement rests on. -/

open Sys2Proof Sys2Proof.Machine

/-! ### The queue, the passing of time, and the site link -/

/-- Every step runs the command at the front of the queue, on the state with the rest of the queue. -/
def Obligations.StepRunsFrontCommand : Prop :=
  ∀ (c : Instr) (rest : List Instr) (s : State),
    s.pending = c :: rest → step s = exec c { s with pending := rest }

/-- No command touches the queue of the commands that wait. R179 (2): with no command given, the frame at the head of the input
buffer is taken and removed, its request is carried out, and a reply that echoes its sender, tag and code is sent. That a step on
an empty queue takes the frame at once, before any event that is due, is the model's choice (log entry 1). 12.6.1, 12.6.2: the
bytes of a reply frame are 0x5A, the address, the tag and the code of the request, the code of the result, the payload length, the
payload, and the CRC-16 of all but the first byte. 12.6: the CRC-16 starts at 0xFFFF and takes each byte in with polynomial
0x1021, the high bit first. -/
def Obligations.QueueStandsAndWaitingFrameIsTaken : Prop :=
  (∀ (c : Instr) (s t : State), exec c s = .next t → t.pending = s.pending) ∧
  (∀ (s : State) (f : Frame) (rest : List Frame),
      s.pending = [] → s.inputBuffer = f :: rest →
        ∃ (t : State) (r : Result) (payload : List Byte),
          step s = .next t ∧ t.inputBuffer = rest ∧ t.reply = some ⟨f.sender, f.tag, f.code, r, payload⟩) ∧
  (∀ r : Reply,
      let b := r.frame
      let n := r.payload.length
      b.length = n + 9 ∧ u8 b 0 = 0x5A ∧ u8 b 1 = BitVec.ofNat 8 r.sender.val ∧ u8 b 2 = r.tag ∧ u8 b 3 = r.code ∧
      [Result.ok, .okReduced, .refusedState, .notFound, .tableFull, .badValue, .locked, .notPermitted, .notCommissioned,
        .insufficient, .noStock, .unknownRequest][(u8 b 4).toNat]? = some r.result ∧
      u16 b 5 = BitVec.ofNat 16 n ∧ (b.drop 7).take n = r.payload ∧
      u16 b (n + 7) = crc16 ((b.drop 1).take (n + 6))) ∧
  crc16 [] = 0xFFFF ∧
  ∀ (bytes : List Byte) (v : Byte),
    crc16 (bytes ++ [v]) =
      (List.range 8).foldl (fun c _ => if c.getLsbD 15 then (c <<< 1) ^^^ 0x1021 else c <<< 1)
        (crc16 bytes ^^^ (v.setWidth 16 <<< 8))

/-- Time that passes in two parts is time that passes at once. The expiry of a running timer acts at the end of the time
that the timer has left; the expiry of a stopped timer does nothing. HOLD_SECOND_ELAPSED is left out of the second clause: its
timer is the hold accumulator itself, which goes on to its next second. That an expiry carries the time up to it is the model's
choice (log entry 2). R85: the fill time of a position counts the milliseconds that pass in STARTING, FUELLING and HELD, and
stands in the other states; no passing of time changes nothing. -/
def Obligations.ExpiryActsWhenItsTimeIsUp : Prop :=
  (∀ (s : State) (a b : Nat), (s.elapse a).elapse b = s.elapse (a + b)) ∧
  (∀ (c : Instr) (s : State) (d : Nat),
    (∀ p, c ≠ .holdSecondElapsed p) → s.timeLeft c = some d →
      (s.elapse d).timeLeft c = some 0 ∧ exec c s = exec c (s.elapse d)) ∧
  (∀ (c : Instr) (s : State), isExpiry c = true → s.timeLeft c = none → exec c s = .next s) ∧
  (∀ s : State, s.elapse 0 = s) ∧
  ∀ (s : State) (d : Nat) (p : Fin 4), 0 < d →
    ((s.elapse d).pos p).fillTime =
      if (s.pos p).state.isStarting = true ∨ (s.pos p).state = .fuelling ∨ (s.pos p).state.isHeld = true then
        min 4294967295 ((s.pos p).fillTime + d)
      else (s.pos p).fillTime

/-- A request and the frame that spells it determine each other, in both directions, with the payload length that the
catalogue gives. -/
def Obligations.RequestsAndFramesAgree : Prop :=
  (∀ (c : Instr) (h : Header) (code : Byte) (payload : List Byte),
      c.wellFormed = true → encode c = some (h, code, payload) →
        requestOf h.sender h.tag code payload = c ∧ ∀ n, requestLength code = some n → payload.length = n) ∧
    ∀ (sender : Fin 5) (tag code : Byte) (payload : List Byte) (n : Nat),
      requestLength code = some n → payload.length = n →
        encode (requestOf sender tag code payload) = some (⟨sender, tag⟩, code, payload)

/-- R178: the bytes of a request frame, received one by one after the start byte, do what the whole frame does. That the table's
two rows are two grains of one event is the model's reading (log entry 26). -/
def Obligations.BytesSpellTheFrame : Prop :=
  ∀ (f : RawFrame) (s : State) (inRun : Bool),
    f.payload.length ≤ 512 → s.receiver = .hunting inRun →
      receiveAll (0xA5 :: frameBytes f) s = exec (.requestFrame f) s

/-- R178, R179 (1): what one received byte does, and what a gap that is too long does, also when a byte or a frame comes before its
timeout; a complete frame is appended to the buffer, lost to an overrun, or discarded, and a length above 512 abandons the frame.
The model's choices: a byte 0xA5 with a bad stop bit is dropped as part of a run (log entry 17), a gap is too long at 6 ms (log
entry 18), the receiver hunts with no run begun after a frame or an abandoned one, and the length field is tested at the byte that
completes it (log entry 26), a run is counted at its first byte (log entry 36), an overrun raises the buffer-overrun count alone
(log entry 38), and a complete frame drops a partial one that is within its gap without a count (log entry 40). -/
def Obligations.ReceiverAssemblesAndChecksFrames : Prop :=
  ((∀ (s : State) (inRun : Bool), s.receiver = .hunting inRun →
        exec (.receivedByte 0xA5 true) s = .next { s with receiver := .assembling [] 6 } ∧
          ∀ (v : Byte) (ok : Bool), ¬(v = 0xA5 ∧ ok = true) →
            exec (.receivedByte v ok) s =
              .next { s with
                receiver := .hunting true
                discardedFrames := if inRun then s.discardedFrames else min 65535 (s.discardedFrames + 1) }) ∧
      (∀ (s : State) (bytes : List Byte) (gap : Nat), s.receiver = .assembling bytes gap →
        let abandoned : State :=
          { s with receiver := .hunting false, discardedFrames := min 65535 (s.discardedFrames + 1) }
        (∀ v : Byte, 0 < gap → exec (.receivedByte v false) s = .next abandoned) ∧
        (∀ v : Byte, 0 < gap → bytes.length < 4 →
          exec (.receivedByte v true) s = .next { s with receiver := .assembling (bytes ++ [v]) 6 }) ∧
        (∀ v : Byte, 0 < gap → bytes.length = 4 →
          exec (.receivedByte v true) s =
            .next (if 512 < (u16 (bytes ++ [v]) 3).toNat then abandoned
              else { s with receiver := .assembling (bytes ++ [v]) 6 })) ∧
        (gap = 0 →
          (∀ (v : Byte) (ok : Bool), exec (.receivedByte v ok) s = exec (.receivedByte v ok) abandoned) ∧
          ∀ f : RawFrame, exec (.requestFrame f) s = exec (.requestFrame f) abandoned) ∧
        exec .frameGapTimeout s =
          .next { s.elapse gap with
            receiver := .hunting false
            discardedFrames := min 65535 (s.discardedFrames + 1) }) ∧
      ∀ (s : State) (inRun : Bool), s.receiver = .hunting inRun → exec .frameGapTimeout s = .next s) ∧
  (∀ (f : RawFrame) (s : State), (∀ bytes, s.receiver ≠ .assembling bytes 0) →
      (∀ good : f.address.toNat < 5,
          f.payload.length ≤ 512 → crc16 (requestBytes f) = f.crc →
          (∀ n, requestLength f.code = some n → f.payload.length = n) →
            exec (.requestFrame f) s =
              .next (if s.inputBuffer.length < 2 then
                  { s with
                    receiver := .hunting false
                    inputBuffer := s.inputBuffer ++ [⟨⟨f.address.toNat, good⟩, f.tag, f.code, f.payload⟩] }
                else { s with receiver := .hunting false, bufferOverruns := min 65535 (s.bufferOverruns + 1) })) ∧
        ((512 < f.payload.length ∨ 5 ≤ f.address.toNat ∨ crc16 (requestBytes f) ≠ f.crc ∨
            (∃ n, requestLength f.code = some n ∧ f.payload.length ≠ n)) →
          exec (.requestFrame f) s =
            .next { s with receiver := .hunting false, discardedFrames := min 65535 (s.discardedFrames + 1) }))

/-- R180 (1), R179 (4): every request that the catalogue marks as station computer only is refused with NOT_PERMITTED from a
terminal, and changes nothing. R179 (3): a code outside the catalogue is answered UNKNOWN_REQUEST with an empty payload, and
changes nothing. -/
def Obligations.TerminalsAndUnknownCodesAreRefused : Prop :=
  (∀ (c : Instr) (h : Header) (code : Byte) (payload : List Byte) (s : State),
      c.wellFormed = true → encode c = some (h, code, payload) → stationCode code = true → h.sender ≠ 0 →
        exec c s = .next (s.answered c h code .notPermitted [])) ∧
    ∀ (h : Header) (code : Byte) (s : State), requestLength code = none →
      exec (.unknownRequest h code) s = .next (s.answered (.unknownRequest h code) h code .unknownRequest [])

/-! ### Configuration -/

/-- R181: WRITE_SITE from the station computer replaces the whole site record when every field lies within its values, else
BAD_VALUE; while the site is commissioned, REFUSED_STATE. Nothing else changes. -/
def Obligations.WriteSiteReplacesTheRecord : Prop :=
  ∀ (h : Header) (f : SiteLayout) (s : State), h.sender = 0 →
    (s.commissioned = true →
      exec (.writeSite h f) s = .next (s.answered (.writeSite h f) h 0x10 .refusedState [])) ∧
    (s.commissioned = false → ¬siteInRange f →
      exec (.writeSite h f) s = .next (s.answered (.writeSite h f) h 0x10 .badValue [])) ∧
    (s.commissioned = false → siteInRange f →
      ∃ r : SiteRecord,
        exec (.writeSite h f) s = .next ({ s with site := r }.answered (.writeSite h f) h 0x10 .ok []) ∧
        r.authWindow = f.authWindow.toNat ∧ r.minAuthAmount = f.minAuthAmount.toNat ∧
        r.pulseOpening = f.pulseOpening.toNat ∧ r.pulseTime = f.pulseTime.toNat ∧ r.ventTime = f.ventTime.toNat ∧
        r.coolWaitTime = f.coolWaitTime.toNat ∧ r.leakTolerance = f.leakTolerance.toNat ∧
        r.worstAmbient = f.worstAmbient.toNat ∧ r.maxFillH70 = f.maxFillH70.toNat ∧
        r.maxFillH35 = f.maxFillH35.toNat ∧ r.openDiff = f.openDiff.toNat ∧ r.floorH70 = f.floorH70.toNat ∧
        r.floorH35 = f.floorH35.toNat ∧ r.supplyMin = f.supplyMin.toNat ∧ r.supplyHyst = f.supplyHyst.toNat ∧
        r.dischargeLimit = f.dischargeLimit.toNat ∧ r.limitG1 = f.limitG1.toNat ∧ r.limitG2 = f.limitG2.toNat ∧
        r.limitG3 = f.limitG3.toNat ∧ r.approach = f.approach.toNat ∧ r.slotCount = f.slotCount.toNat ∧
        r.fallbackWindow = f.fallbackWindow.toNat ∧ ∀ i < 27, r.eventMask.getLsbD i = f.eventMask.getLsbD i)

/-- R43: WRITE_POSITION from the station computer replaces the record of one position when every field lies within its
values, else BAD_VALUE; while the site is commissioned, REFUSED_STATE. Nothing else changes. -/
def Obligations.WritePositionReplacesTheRecord : Prop :=
  ∀ (h : Header) (f : PositionLayout) (s : State), h.sender = 0 →
    (s.commissioned = true →
      exec (.writePosition h f) s = .next (s.answered (.writePosition h f) h 0x11 .refusedState [])) ∧
    (s.commissioned = false → ¬positionInRange f →
      exec (.writePosition h f) s = .next (s.answered (.writePosition h f) h 0x11 .badValue [])) ∧
    (s.commissioned = false → positionInRange f →
      ∃ (p : Fin 4) (c : PositionConfig), p.val = f.position.toNat ∧
        exec (.writePosition h f) s =
          .next ({ s with positionConfig := setAt s.positionConfig p c }.answered (.writePosition h f) h 0x11 .ok []) ∧
        c.inService = decide (f.inService.toNat = 1) ∧
        c.nozzleClass = (if f.nozzleClass.toNat = 1 then .h70 else .h35) ∧
        c.cooling = decide (f.cooling.toNat = 1) ∧
        c.authMode = (if f.authMode.toNat = 0 then .autonomous else .supervised) ∧
        c.pDisp = channelNamed f.pDisp ∧ c.tGas = channelNamed f.tGas ∧
        c.bankLow = (if f.dispositions.getLsbD 0 then .endFill else .holdFill) ∧
        c.precool = (if f.dispositions.getLsbD 1 then .endFill else .holdFill) ∧
        c.sensor = (if f.dispositions.getLsbD 2 then .endFill else .holdFill) ∧
        c.meter = (if f.dispositions.getLsbD 3 then .endFill else .holdFill) ∧
        c.clearMode =
          (if f.clearMode.toNat = 0 then .manual else if f.clearMode.toNat = 1 then .timed else .timedDemand) ∧
        c.resumeDelay = f.resumeDelay.toNat ∧ c.maxHold = f.maxHold.toNat ∧
        c.holsterDebounce = [20, 80, 160, 320].getD f.holsterDebounce.toNat 0 ∧
        c.couplingDebounce = [20, 80, 160, 320].getD f.couplingDebounce.toNat 0)

/-- R68: WRITE_PROFILE from the station computer empties an entry, or writes it when every field of its comm mode lies
within its values, and answers with the entry as stored; else BAD_VALUE, or REFUSED_STATE while commissioned. An in-use
byte other than 0 and 1 gives BAD_VALUE (the model's choice, log entry 27). -/
def Obligations.WriteProfileReplacesTheEntry : Prop :=
  ∀ (h : Header) (f : ProfileLayout) (s : State), h.sender = 0 →
    (s.commissioned = true →
      exec (.writeProfile h f) s = .next (s.answered (.writeProfile h f) h 0x12 .refusedState [])) ∧
    (s.commissioned = false →
      (16 ≤ f.index.toNat ∨ 2 ≤ f.inUse.toNat ∨ (f.inUse.toNat = 1 ∧ ¬profileInRange f)) →
      exec (.writeProfile h f) s = .next (s.answered (.writeProfile h f) h 0x12 .badValue [])) ∧
    (s.commissioned = false → f.inUse.toNat = 0 → ∀ i : Fin 16, i.val = f.index.toNat →
      exec (.writeProfile h f) s =
        .next ({ s with profiles := setAt s.profiles i none }.answered (.writeProfile h f) h 0x12 .ok
          (f.index :: List.replicate 28 0))) ∧
    (s.commissioned = false → f.inUse.toNat = 1 → profileInRange f → ∀ i : Fin 16, i.val = f.index.toNat →
      ∃ x : FillProfile,
        exec (.writeProfile h f) s =
          .next ({ s with profiles := setAt s.profiles i (some x) }.answered (.writeProfile h f) h 0x12 .ok
            (if f.commMode.toNat = 0 then { f with reserved := 0 }.bytes
             else { f with reserved := 0, volumeLow := 0, volumeHigh := 0, tankLimit := 0, endSoc := 0 }.bytes)) ∧
        x.nozzleClass = (if f.nozzleClass.toNat = 1 then .h70 else .h35) ∧ x.grade.code = f.grade.toNat ∧
        x.comm =
          (if f.commMode.toNat = 0 then
            some ⟨f.volumeLow.toNat, f.volumeHigh.toNat, f.tankLimit.toNat, f.endSoc.toNat⟩
           else none) ∧
        x.ambientLow = f.ambientLow.toNat ∧ x.ambientHigh = f.ambientHigh.toNat ∧ x.rampRate = f.rampRate.toNat ∧
        x.endPressure = f.endPressure.toNat ∧ x.taperSoc = f.taperSoc.toNat ∧
        x.variant = (if f.variant.toNat = 0 then .pulseCheck else .pulseOnly) ∧
        x.leakTolerance = f.leakTolerance.toNat ∧ x.switchDiff = f.switchDiff.toNat ∧ x.gain = f.gain.toNat)

/-- R122, R126: WRITE_BANK from the station computer replaces the configuration of one bank when every field lies within
its values, takes P and T from the named channels when one is changed, recomputes the inventory and answers with the
record as stored; else BAD_VALUE, or REFUSED_STATE while commissioned. -/
def Obligations.WriteBankReplacesTheConfiguration : Prop :=
  ∀ (h : Header) (f : BankLayout) (s : State), h.sender = 0 →
    (s.commissioned = true →
      exec (.writeBank h f) s = .next (s.answered (.writeBank h f) h 0x13 .refusedState [])) ∧
    (s.commissioned = false → ¬bankInRange f →
      exec (.writeBank h f) s = .next (s.answered (.writeBank h f) h 0x13 .badValue [])) ∧
    (s.commissioned = false → bankInRange f → ∀ b : Fin 6, b.val = f.bank.toNat →
      ∃ (c : BankConfig) (x : Bank),
        exec (.writeBank h f) s =
          .next ({ s with bankConfig := setAt s.bankConfig b c, banks := setAt s.banks b x }.answered
            (.writeBank h f) h 0x13 .ok f.bytes) ∧
        c.inService = decide (f.inService.toNat = 1) ∧ c.servesH70 = f.serves.getLsbD 0 ∧
        c.servesH35 = f.serves.getLsbD 1 ∧ c.rated = f.rated.toNat ∧ c.volume = f.volume.toNat ∧
        c.refillTarget = f.refillTarget.toNat ∧ c.refillStart = f.refillStart.toNat ∧
        c.pChannel = channelNamed f.pChannel ∧ c.tChannel = channelNamed f.tChannel ∧
        x.isolated = (s.bank b).isolated ∧
        (if c.pChannel = (s.bankCfg b).pChannel ∧ c.tChannel = (s.bankCfg b).tChannel then
          x.p = (s.bank b).p ∧ x.t = (s.bank b).t
         else
          x.p = ((c.pChannel.map s.chan).filter Channel.taken).elim 0 Channel.value ∧
          x.t = ((c.tChannel.map s.chan).filter Channel.taken).elim 0 Channel.value) ∧
        x.inventory =
          (if (c.pChannel.map s.chan).any Channel.taken ∧ (c.tChannel.map s.chan).any Channel.taken then
            c.volume * x.p * 100000 / (4124 * (x.t + x.p * 177 / 1000))
           else 0))

/-- R168: WRITE_CHANNEL from the station computer replaces the configuration of one channel, whose runtime fields return to
their restart values; a bank that the channel served or serves takes 0 for that reading and recomputes its inventory, and the
other banks stand. A field outside its values, a kind that is not the role's, or a role or source already in use gives BAD_VALUE. -/
def Obligations.WriteChannelReplacesTheConfiguration : Prop :=
  ∀ (h : Header) (f : ChannelLayout) (s : State), h.sender = 0 →
    (s.commissioned = true →
      exec (.writeChannel h f) s = .next (s.answered (.writeChannel h f) h 0x14 .refusedState [])) ∧
    (s.commissioned = false → ¬channelInRange f →
      exec (.writeChannel h f) s = .next (s.answered (.writeChannel h f) h 0x14 .badValue [])) ∧
    (s.commissioned = false → channelInRange f → ∀ i : Fin 32, i.val = f.channel.toNat →
      (f.user.toNat ≠ 0 ∧
        (f.kind.toNat ≠ (if f.user.toNat ≤ 4 ∨ (9 ≤ f.user.toNat ∧ f.user.toNat ≤ 14) ∨ f.user.toNat = 21 then 0 else 1) ∨
          ∃ j r, j ≠ i ∧ (s.chanCfg j).user = some r ∧
            (r.code = f.user.toNat ∨ (s.chanCfg j).source = f.source.toNat)) →
        exec (.writeChannel h f) s = .next (s.answered (.writeChannel h f) h 0x14 .badValue [])) ∧
      (f.user.toNat = 0 ∨
        (f.kind.toNat = (if f.user.toNat ≤ 4 ∨ (9 ≤ f.user.toNat ∧ f.user.toNat ≤ 14) ∨ f.user.toNat = 21 then 0 else 1) ∧
          ∀ j r, j ≠ i → (s.chanCfg j).user = some r →
            r.code ≠ f.user.toNat ∧ (s.chanCfg j).source ≠ f.source.toNat) →
        ∃ (c : ChannelConfig) (banks : Vector Bank 6),
          exec (.writeChannel h f) s =
            .next ({ s with
                channelConfig := setAt s.channelConfig i c
                channels := setAt s.channels i ⟨.failed, 0, false, none⟩
                banks := banks }.answered (.writeChannel h f) h 0x14 .ok f.bytes) ∧
          (c.user.map Role.code).getD 0 = f.user.toNat ∧ c.kind.code = f.kind.toNat ∧ c.source = f.source.toNat ∧
          c.windowMin = f.windowMin.toNat ∧ c.windowMax = f.windowMax.toNat ∧ c.grace = f.grace.toNat ∧
          ∀ b : Fin 6,
            let servesP := (s.chanCfg i).user = some (.bankP b) ∨ c.user = some (.bankP b)
            let servesT := (s.chanCfg i).user = some (.bankT b) ∨ c.user = some (.bankT b)
            let takenAfter (named : Option (Fin 32)) : Prop := ∃ j, named = some j ∧ j ≠ i ∧ (s.chan j).taken = true
            let x := banks.get b
            x.isolated = (s.bank b).isolated ∧
            x.p = (if servesP then 0 else (s.bank b).p) ∧ x.t = (if servesT then 0 else (s.bank b).t) ∧
            (¬servesP → ¬servesT → x.inventory = (s.bank b).inventory) ∧
            ((servesP ∨ servesT) → takenAfter (s.bankCfg b).pChannel → takenAfter (s.bankCfg b).tChannel →
              x.inventory = (s.bankCfg b).volume * x.p * 100000 / (4124 * (x.t + x.p * 177 / 1000))) ∧
            ((servesP ∨ servesT) → (¬takenAfter (s.bankCfg b).pChannel ∨ ¬takenAfter (s.bankCfg b).tChannel) →
              x.inventory = 0)))

/-- R180 (3): WRITE_TERMINAL from the station computer replaces the permission set of one terminal while the site is
decommissioned; another address gives BAD_VALUE. -/
def Obligations.WriteTerminalReplacesTheSet : Prop :=
  ∀ (h : Header) (address positions : Byte) (s : State), h.sender = 0 →
    (s.commissioned = true →
      exec (.writeTerminal h address positions) s =
        .next (s.answered (.writeTerminal h address positions) h 0x15 .refusedState [])) ∧
    (s.commissioned = false → (address.toNat = 0 ∨ 5 ≤ address.toNat) →
      exec (.writeTerminal h address positions) s =
        .next (s.answered (.writeTerminal h address positions) h 0x15 .badValue [])) ∧
    (s.commissioned = false → ∀ i : Fin 4, i.val + 1 = address.toNat →
      ∃ set : PosSet,
        exec (.writeTerminal h address positions) s =
          .next ({ s with terminals := setAt s.terminals i set }.answered (.writeTerminal h address positions) h 0x15
            .ok []) ∧
        ∀ p, set.has p = positions.getLsbD p.val)

/-- R185: SET_CLOCK from the station computer sets the clock, answers with its previous value and touches no timer. The clock counts
the seconds that pass at the part, modulo 2^32. A tick passes the rest of the running second, at every block, and so advances the
clock by 1, from 4,294,967,295 to 0, and the next second is a whole one. That a tick carries its time is the model's choice (log
entries 2 and 9). -/
def Obligations.ClockIsSetAndTicks : Prop :=
  (∀ (h : Header) (value : Word32) (s : State), h.sender = 0 →
      exec (.setClock h value) s =
        .next ({ s with clock := value }.answered (.setClock h value) h 0x19 .ok (bytes32 s.clock))) ∧
    (∀ (s : State) (d : Nat),
      1000 * (s.elapse d).clock.toNat + (s.elapse d).clockPhase.val =
        (1000 * s.clock.toNat + s.clockPhase.val + d) % 4294967296000) ∧
    ∀ s : State,
      exec .siteClockTick s = .next (s.elapse (1000 - s.clockPhase.val)) ∧
      (s.elapse (1000 - s.clockPhase.val)).clock.toNat =
        (if s.clock.toNat = 4294967295 then 0 else s.clock.toNat + 1) ∧
      (s.elapse (1000 - s.clockPhase.val)).clockPhase.val = 0

/-! ### Restart, commissioning and the factory clear -/

/-- R185, R186, R187 (4): restart keeps every retained record and puts every block to its restart values, with the levels on the
field lines; the site clock has counted the seconds with main power off; the only pending flag is RESTART. R19: a FUELLING
ticket ends with POWER_FAIL and its amount recomputed, an OPEN or AUTHORIZED one with RESTART and no mass, an ENDED one keeps
its fields; every ticket is DETACHED, no window runs, every slot of every position is empty, and holds and the number counter
are kept. -/
def Obligations.RestartKeepsMemoryAndEndsTickets : Prop :=
  (∀ (off : Word32) (lines : FieldLines) (s : State),
      ∃ (tickets : Vector (Option Ticket) 32) (positions : Vector Position 4) (debouncers : Debouncers),
        exec (.restart ⟨off, lines⟩) s =
          .next { s with
            clock := s.clock + off
            tickets := tickets
            commissioned := false
            positions := positions
            banks := Vector.replicate 6 ⟨0, 0, 0, false⟩
            waiting := .empty
            compressor :=
              { state := .stopped, activeBank := none, queue := [], timer := none, credits := 6, returns := []
                creditWait := false, supply := .noValue, esdCause := lines.esd }
            precool :=
              { chiller := .off, faultLine := lines.chillerFault, coolantCause := false, coolantSeen := false
                offered := .g0, holders := .empty, waitQueue := [], grades := Vector.replicate 4 none
                fallback := Vector.replicate 4 none }
            tradeLockOpen := !lines.metrology
            channels := Vector.replicate 32 ⟨.failed, 0, false, none⟩
            rejectedSamples := 0
            debouncers := debouncers
            esdLatch := lines.esd
            esdLine := lines.esd
            pendingFlags := 0x4000000#27
            receiver := .hunting false
            inputBuffer := []
            discardedFrames := 0
            bufferOverruns := 0
            reply := none } ∧
        (∀ i, (tickets.get i).isSome = (s.tickets.get i).isSome) ∧
        (∀ p, positions.get p = .atRestart (lines.meterA.get p) (lines.meterB.get p)) ∧
        (∀ p, debouncers.holster.get p = ⟨lines.holster.get p, lines.holster.get p, none⟩ ∧
          debouncers.coupling.get p = ⟨lines.coupling.get p, lines.coupling.get p, none⟩) ∧
        debouncers.metrology = ⟨lines.metrology, lines.metrology, none⟩ ∧
        debouncers.chillerFault = ⟨lines.chillerFault, lines.chillerFault, none⟩) ∧
  (∀ (off : Word32) (lines : FieldLines) (s : State), ∃ t, exec (.restart ⟨off, lines⟩) s = .next t ∧
      t.ticketCounter = s.ticketCounter ∧ t.accounts = s.accounts ∧ t.flagPending .restart = true ∧
      (∀ p, (t.pos p).active = none ∧ (t.pos p).staged = none) ∧
      ∀ i, match s.tickets.get i with
        | none => t.tickets.get i = none
        | some k =>
          t.tickets.get i =
            match k.state with
            | .ended => some { k with attachment := .detached, window := none }
            | .fuelling =>
              some { k with
                state := .ended
                endReason := some .powerFail
                amount := min 4294967295 ((k.mass / 1000 * k.price.getD 0 + 50000) / 100000)
                endTime := some (s.clock + off)
                attachment := .detached
                window := none }
            | .opened | .authorized =>
              some { k with
                state := .ended
                endReason := some .restart
                mass := 0
                amount := 0
                endTime := some (s.clock + off)
                attachment := .detached
                window := none })

/-- R182: the tests of COMMISSION from the station computer, in their order, with the two payload bytes that name the first
failing item; a refusal changes nothing. R47 (1), R134, R142, R154, R158 (1), R160: accepted, it commissions the site. Each
in-service position is IDLE or CALLING by its holster; each bank that wants a refill is queued; a chiller in OFF is switched on,
and the offered grade is recomputed in every chiller state; a STOPPED compressor makes its start test. That a READY chiller whose
last coolant value meets no outlet limit offers G0 is the model's choice (log entry 19). Premise of the second clause: nothing
holds or waits for a slot and nothing is queued, as in every decommissioned site. -/
def Obligations.CommissionTestsAndStartsTheBlocks : Prop :=
  (∀ (h : Header) (s : State), h.sender = 0 →
      (s.commissioned = true → exec (.commission h) s = .next (s.answered (.commission h) h 0x16 .refusedState [])) ∧
      (s.commissioned = false → s.tradeLockOpen = true →
        exec (.commission h) s = .next (s.answered (.commission h) h 0x16 .locked [])) ∧
      (s.commissioned = false → s.tradeLockOpen = false →
        (∀ p : Fin 4, positionFault s p ≠ 0 → (∀ q, q < p → positionFault s q = 0) →
          exec (.commission h) s =
            .next (s.answered (.commission h) h 0x16 .refusedState
              [BitVec.ofNat 8 (positionFault s p), BitVec.ofNat 8 p.val])) ∧
        ∀ b : Fin 6, (∀ p, positionFault s p = 0) → bankPasses s b = false → (∀ c, c < b → bankPasses s c = true) →
          exec (.commission h) s =
            .next (s.answered (.commission h) h 0x16 .refusedState [4, BitVec.ofNat 8 b.val]))) ∧
  (∀ (h : Header) (s : State), h.sender = 0 → s.commissioned = false → s.tradeLockOpen = false →
      (∀ p, positionFault s p = 0) → (∀ b, bankPasses s b = true) →
      s.precool.holders = .empty → s.precool.waitQueue = [] → s.compressor.queue = [] → s.compressor.activeBank = none →
      ∃ t, exec (.commission h) s = .next t ∧
        t.base = ({ s with commissioned := true }.answered (.commission h) h 0x16 .ok []).base ∧
        t.tickets = s.tickets ∧ t.banks = s.banks ∧ t.waiting = s.waiting ∧
        (∀ p, t.pos p = if (s.cfg p).inService then
            { s.pos p with
              state := if (s.debouncers.holster.get p).level then .idle else .calling
              link := (t.pos p).link }
          else s.pos p) ∧
        (∀ p, (t.pos p).link =
          if (s.cfg p).inService ∧ (s.debouncers.holster.get p).level = false ∧
            (s.debouncers.coupling.get p).level = true ∧ (s.pos p).link.state = .off
          then { LinkContext.off with state := .listen } else (s.pos p).link) ∧
        (∀ b, b ∈ t.compressor.queue ↔
          (s.bankCfg b).inService = true ∧ (s.bank b).isolated = false ∧
          (∃ c, (s.bankCfg b).pChannel = some c ∧ (s.chan c).taken = true ∧ (s.chan c).state ≠ .failed) ∧
          (s.bank b).p < (s.bankCfg b).refillStart) ∧
        (t.precool.chiller =
          if s.precool.chiller ≠ .off then s.precool.chiller
          else if s.precool.faultLine = true ∨ s.precool.coolantCause = true then .fault
          else if s.precool.coolantSeen = true ∧ ∃ v, s.coolantValue = some v ∧ v ≤ s.site.limitG3 - s.site.approach then
            .ready
          else .pulldown) ∧
        (t.precool.chiller ≠ .ready → t.precool.offered = .g0) ∧
        (∀ v, t.precool.chiller = .ready → s.coolantValue = some v → t.precool.offered =
          if v + s.site.approach ≤ s.site.limitG1 then .g1
          else if v + s.site.approach ≤ s.site.limitG2 then .g2
          else if v + s.site.approach ≤ s.site.limitG3 then .g3 else .g0) ∧
        (s.compressor.state = .stopped →
          (t.compressor.state = .starting ↔
            (∃ b ∈ t.compressor.queue, ∀ p, (s.pos p).drawBank ≠ some b) ∧ 0 < s.compressor.credits ∧
            s.compressor.supply = .clear ∧ s.compressor.esdCause = false)))

/-- R20, R47 (2), R137, R159 (2), R183: DECOMMISSION from the station computer is refused outside a commissioned site and
during a fill; accepted, it ends the waiting tickets, detaches all, closes the positions, stops the compressor and turns
the chiller OFF, and keeps the rest. -/
def Obligations.DecommissionClosesTheSite : Prop :=
  ∀ (h : Header) (s : State), h.sender = 0 →
    (s.commissioned = false →
      exec (.decommission h) s = .next (s.answered (.decommission h) h 0x17 .notCommissioned [])) ∧
    (s.commissioned = true → (∃ p, (s.pos p).state.busy = true) →
      exec (.decommission h) s = .next (s.answered (.decommission h) h 0x17 .refusedState [])) ∧
    (s.commissioned = true → (∀ p, (s.pos p).state.busy = false) →
      ∃ (tickets : Vector (Option Ticket) 32) (positions : Vector Position 4),
        exec (.decommission h) s =
          .next ({ s with
              commissioned := false
              tickets := tickets
              positions := positions
              waiting := .empty
              compressor :=
                { s.compressor with
                  state :=
                    if s.compressor.state = CompressorState.suspended ∨ s.compressor.state = CompressorState.lockout then s.compressor.state
                    else .stopped
                  activeBank := none
                  queue := []
                  timer := if s.compressor.state = CompressorState.lockout then s.compressor.timer else none
                  creditWait := false }
              precool :=
                { s.precool with
                  chiller := .off, offered := .g0, holders := .empty, waitQueue := []
                  grades := Vector.replicate 4 none, fallback := Vector.replicate 4 none } }.answered
            (.decommission h) h 0x17 .ok []) ∧
        (∀ p, positions.get p =
          { Position.atRestart (s.pos p).meterA (s.pos p).meterB with stray := (s.pos p).stray }) ∧
        ∀ i, tickets.get i = (s.tickets.get i).map fun k =>
          if k.state = .opened ∨ k.state = .authorized then
            { k with
              state := .ended
              endReason := some .decommissioned
              mass := 0
              amount := 0
              endTime := some s.clock
              attachment := .detached
              window := none }
          else { k with attachment := .detached, window := none })

/-- R184: FACTORY_CLEAR from the station computer is refused while the site is commissioned, then while the trade lock is
CLOSED; accepted, it empties the retained records, gives the configuration the defaults of R43, R44, R69, R122, R123, R138, R153,
R167 and R181, and keeps the metrology event counter, the site clock and the pending flags. -/
def Obligations.FactoryClearEmptiesTheRecords : Prop :=
  ∀ (h : Header) (s : State), h.sender = 0 →
    (s.commissioned = true →
      exec (.factoryClear h) s = .next (s.answered (.factoryClear h) h 0x18 .refusedState [])) ∧
    (s.commissioned = false → s.tradeLockOpen = false →
      exec (.factoryClear h) s = .next (s.answered (.factoryClear h) h 0x18 .locked [])) ∧
    (s.commissioned = false → s.tradeLockOpen = true →
      ∃ banks : Vector Bank 6,
        exec (.factoryClear h) s =
          .next ({ s with
              tickets := Vector.replicate 32 none
              ticketCounter := 0
              accounts := Vector.replicate 64 none
              priceH70 := none
              priceH35 := none
              pulseWeights := Vector.replicate 4 0
              site :=
                { authWindow := 120, minAuthAmount := 500, pulseOpening := 200, pulseTime := 1000, ventTime := 3
                  coolWaitTime := 120, leakTolerance := 50, worstAmbient := 3232, maxFillH70 := 5, maxFillH35 := 20
                  openDiff := 300, floorH70 := 7000, floorH35 := 3800, supplyMin := 200, supplyHyst := 50
                  dischargeLimit := 3630, limitG1 := 2331, limitG2 := 2532, limitG3 := 2732, approach := 50
                  slotCount := 2, fallbackWindow := 10, eventMask := 0x7FFFFFF }
              positionConfig := Vector.replicate 4
                { inService := false, nozzleClass := .h70, cooling := false, authMode := .autonomous, pDisp := none
                  tGas := none, bankLow := .holdFill, precool := .holdFill, sensor := .holdFill, meter := .holdFill
                  clearMode := .manual, resumeDelay := 5, maxHold := 180, holsterDebounce := 160
                  couplingDebounce := 80 }
              profiles := Vector.replicate 16 none
              bankConfig := Vector.replicate 6
                { inService := false, servesH70 := true, servesH35 := true, rated := 9500, volume := 50
                  refillTarget := 9000, refillStart := 8000, pChannel := none, tChannel := none }
              channelConfig := Vector.replicate 32
                { user := none, kind := .pressure, source := 0, windowMin := 0, windowMax := 10000, grace := 2000 }
              terminals := Vector.replicate 4 .empty
              channels := Vector.replicate 32 ⟨.failed, 0, false, none⟩
              rejectedSamples := 0
              banks := banks }.answered (.factoryClear h) h 0x18 .ok []) ∧
        ∀ b, banks.get b = ⟨0, 0, 0, (s.bank b).isolated⟩)

/-! ### Tickets -/

/-- R3, R6: OPEN_TICKET is tested in order; accepted, it issues the first number after the counter that no ticket holds, and
puts an OPEN ticket with every optional field absent into the lowest free slot and into the ACTIVE or STAGED slot of the
position. -/
def Obligations.OpenTicketCreatesATicket : Prop :=
  ∀ (h : Header) (x : Byte) (s : State),
    (4 ≤ x.toNat → exec (.openTicket h x) s = .next (s.answered (.openTicket h x) h 0x20 .badValue [])) ∧
    ∀ p : Fin 4, p.val = x.toNat →
      (¬mayActOn s h p →
        exec (.openTicket h x) s = .next (s.answered (.openTicket h x) h 0x20 .notPermitted [])) ∧
      (mayActOn s h p → s.commissioned = false →
        exec (.openTicket h x) s = .next (s.answered (.openTicket h x) h 0x20 .notCommissioned [])) ∧
      (mayActOn s h p → s.commissioned = true → ((s.cfg p).inService = false ∨ (s.pos p).staged.isSome = true) →
        exec (.openTicket h x) s = .next (s.answered (.openTicket h x) h 0x20 .refusedState [])) ∧
      (mayActOn s h p → s.commissioned = true → (s.cfg p).inService = true → (s.pos p).staged = none →
        (∀ i, (s.tickets.get i).isSome = true) →
        exec (.openTicket h x) s = .next (s.answered (.openTicket h x) h 0x20 .tableFull [])) ∧
      (mayActOn s h p → s.commissioned = true → (s.cfg p).inService = true → (s.pos p).staged = none →
        ∀ i, s.tickets.get i = none → (∀ j, j < i → (s.tickets.get j).isSome = true) →
          ∃ n k : Nat, k ≤ 32 ∧ n = (s.ticketCounter + k) % 65535 + 1 ∧ ¬s.numberHeld n ∧
            (∀ j, j < k → s.numberHeld ((s.ticketCounter + j) % 65535 + 1)) ∧
            exec (.openTicket h x) s =
              .next ({ s with
                  tickets := setAt s.tickets i (some
                    { number := n, state := .opened, position := p
                      attachment := if (s.pos p).active = none then .active else .staged
                      opener := h.sender, nozzleClass := (s.cfg p).nozzleClass, authorizer := none, account := none
                      presetMass := none, presetAmount := none, hold := none, reduced := false, price := none
                      expectedTag := none, metrologyCount := none, profile := none, grade := none, commMode := none
                      mass := 0, amount := 0, pInit := none, finalPressure := none, lastSoc := none
                      peakTGas := none, startTime := none, endTime := none, holdUsed := 0, endReason := none
                      window := none })
                  ticketCounter := n
                  positions := setAt s.positions p
                    (if (s.pos p).active = none then { s.pos p with active := some n }
                     else { s.pos p with staged := some n }) }.answered (.openTicket h x) h 0x20 .ok
                (bytes16 (BitVec.ofNat 16 n))))

/-- R7, R27, R28, R29: the tests of AUTHORIZE in their order; the first that fails gives the result, and nothing else
changes. R126, R127: the usable inventory that the stock check reads, and READ_BANK shows, is the sum over the banks in service,
READY and serving the class of the inventory less the floor inventory, a negative difference counting as 0. -/
def Obligations.AuthorizeTestsInOrder : Prop :=
  (∀ (s : State) (k : NozzleClass), s.usableInventory k = usableSum s k) ∧
  ∀ (h : Header) (f : AuthorizeLayout) (s : State),
    let account : Option Nat := if f.presence.getLsbD 0 then some f.account.toNat else none
    let mass : Option Nat := if f.presence.getLsbD 1 then some f.presetMass.toNat else none
    let amount : Option Nat := if f.presence.getLsbD 2 then some f.presetAmount.toNat else none
    (s.ticket f.ticket.toNat = none →
      exec (.authorize h f) s = .next (s.answered (.authorize h f) h 0x21 .notFound [])) ∧
    ∀ k, s.ticket f.ticket.toNat = some k →
      (¬mayActOn s h k.position →
        exec (.authorize h f) s = .next (s.answered (.authorize h f) h 0x21 .notPermitted [])) ∧
      ∀ r, mayActOn s h k.position →
        firstFailing
          [(decide (k.state = .opened), .refusedState), (!s.esdLatch, .refusedState),
           (decide ((s.cfg k.position).authMode = .autonomous) || h.sender == 0, .notPermitted),
           (!s.tradeLockOpen, .locked),
           (mass.all (fun m => decide (1 ≤ m) && decide (m ≤ 4294967)) && amount.all (fun a => decide (1 ≤ a)), .badValue),
           (decide ((s.cfg k.position).authMode = .supervised) || account.isSome, .badValue),
           (account.all fun n => (s.account n).isSome, .notFound),
           (account.all fun n => (s.account n).any fun a => decide (a.status = .active), .refusedState),
           (account.all fun n => (s.account n).any fun a => a.permits k.nozzleClass, .notPermitted),
           (mass.isNone || decide (500 ≤ s.usableInventory k.nozzleClass), .noStock),
           (account.all fun n => (s.account n).any fun a =>
              decide (s.site.minAuthAmount ≤
                holdOf amount (mass.map fun m => min m (s.usableInventory k.nozzleClass))
                  ((s.price k.nozzleClass).getD 0) a), .insufficient)] = some r →
        exec (.authorize h f) s = .next (s.answered (.authorize h f) h 0x21 r [])

/-- R7, R8, R28 (3), R29, R30: an AUTHORIZE that passes every test raises the held total of the named account by the hold
and writes the authorization into the ticket; an ACTIVE ticket gets a full window and its position makes its start test.
The reply is OK_REDUCED when the stock check cut the preset mass, else OK. -/
def Obligations.AuthorizeCarriesOut : Prop :=
  ∀ (h : Header) (f : AuthorizeLayout) (s : State) (i : Fin 32) (k : Ticket),
    let c : Instr := .authorize h f
    let account : Option Nat := if f.presence.getLsbD 0 then some f.account.toNat else none
    let given : Option Nat := if f.presence.getLsbD 1 then some f.presetMass.toNat else none
    let amount : Option Nat := if f.presence.getLsbD 2 then some f.presetAmount.toNat else none
    let usable := s.usableInventory k.nozzleClass
    let mass := given.map fun m => min m usable
    let price := (s.price k.nozzleClass).getD 0
    let authorized (hold : Option Nat) (tag : Option Tag) : Ticket :=
      { k with
        state := .authorized
        authorizer := some (s.cfg k.position).authMode
        account := account
        presetMass := mass
        presetAmount := if account.isSome then hold else amount
        hold := hold
        reduced := given.any fun m => decide (usable < m)
        price := s.price k.nozzleClass
        expectedTag := tag
        metrologyCount := some s.metrologyCount
        window := if k.attachment = .active then some (s.site.authWindow * 1000) else none }
    let result : Result := if given.any fun m => decide (usable < m) then .okReduced else .ok
    let told (t : State) : State := if k.attachment = .active then t.startTest k.position else t
    s.ticketSlot f.ticket.toNat = some i → s.tickets.get i = some k → mayActOn s h k.position → k.state = .opened →
    s.esdLatch = false → ((s.cfg k.position).authMode = .autonomous ∨ h.sender = 0) → s.tradeLockOpen = false →
    (∀ m, given = some m → 1 ≤ m ∧ m ≤ 4294967 ∧ 500 ≤ usable) → (∀ a, amount = some a → 1 ≤ a) →
    (account = none → (s.cfg k.position).authMode = .supervised →
      exec c s =
        .next { told { s.takeFrame c with tickets := setAt s.tickets i (some (authorized none none)) } with
          reply := some ⟨h.sender, h.tag, 0x21, result, []⟩ }) ∧
    ∀ (n : Nat) (j : Fin 64) (a : Account),
      account = some n → s.accountSlot n = some j → s.accounts.get j = some a → a.status = .active →
      a.permits k.nozzleClass = true → s.site.minAuthAmount ≤ holdOf amount mass price a →
        exec c s =
          .next { told { s.takeFrame c with
                    accounts := setAt s.accounts j (some { a with held := a.held + holdOf amount mass price a })
                    tickets := setAt s.tickets i (some (authorized (some (holdOf amount mass price a)) a.tag)) } with
            reply := some ⟨h.sender, h.tag, 0x21, result, []⟩ }

/-- R9: when the window of a ticket ends, the ticket is ENDED with AUTH_EXPIRED, no mass and the clock as its end time, and
DETACHED; the STAGED ticket is promoted, AUTH_EXPIRED is raised and the position makes its start test. R8, R13: promotion
empties the STAGED slot into the ACTIVE slot; the promoted ticket keeps its state and its fields but for its attachment, and an
AUTHORIZED one gets a full window. Nothing else changes. -/
def Obligations.WindowExpiryEndsTheTicketAndPromotes : Prop :=
  (∀ (n : Word16) (s : State) (d : Nat) (i : Fin 32) (k : Ticket),
      s.windowLeft n.toNat = some d → (s.elapse d).ticketSlot n.toNat = some i → (s.elapse d).tickets.get i = some k →
        exec (.authWindowExpiry n) s =
          .next (((({ s.elapse d with
              tickets := setAt (s.elapse d).tickets i (some
                { k with
                  state := .ended, endReason := some .authExpired, mass := 0, amount := 0, endTime := some (s.elapse d).clock
                  attachment := .detached, window := none }) }).promote k.position).raise
            (.authExpired k.position)).startTest k.position)) ∧
  (∀ (p : Fin 4) (s : State),
      ((s.pos p).staged = none →
        s.promote p = { s with positions := setAt s.positions p { s.pos p with active := none } }) ∧
      ∀ (n : Nat) (i : Fin 32) (k : Ticket),
        (s.pos p).staged = some n → s.ticketSlot n = some i → s.tickets.get i = some k →
          s.promote p =
            { s with
              positions := setAt s.positions p { s.pos p with active := some n, staged := none }
              tickets := setAt s.tickets i (some
                { k with
                  attachment := .active
                  window := if k.state = .authorized then some (s.site.authWindow * 1000) else none }) })

/-- R14: CANCEL_TICKET is refused for a ticket that is FUELLING or ENDED; accepted, it releases the hold, frees the table
slot, vacates the position's slot, and promotes the STAGED ticket when the ticket was ACTIVE. -/
def Obligations.CancelTicketRetiresIt : Prop :=
  ∀ (h : Header) (n : Word16) (s : State),
    let c : Instr := .cancelTicket h n
    (s.ticket n.toNat = none → exec c s = .next (s.answered c h 0x22 .notFound [])) ∧
    ∀ (i : Fin 32) (k : Ticket), s.ticketSlot n.toNat = some i → s.tickets.get i = some k →
      (¬mayActOn s h k.position → exec c s = .next (s.answered c h 0x22 .notPermitted [])) ∧
      (mayActOn s h k.position → (k.state = .fuelling ∨ k.state = .ended) →
        exec c s = .next (s.answered c h 0x22 .refusedState [])) ∧
      (mayActOn s h k.position → (k.state = .opened ∨ k.state = .authorized) →
        ∃ accounts : Vector (Option Account) 64,
          (k.account = none → accounts = s.accounts) ∧
          (∀ m j a, k.account = some m → s.accountSlot m = some j → s.accounts.get j = some a →
            accounts = setAt s.accounts j (some { a with held := a.held - k.hold.getD 0 })) ∧
          let t : State := { s.takeFrame c with accounts := accounts, tickets := setAt s.tickets i none }
          exec c s =
            .next { (match k.attachment with
                | .active => (t.promote k.position).startTest k.position
                | .staged =>
                  { t with positions := setAt s.positions k.position { s.pos k.position with staged := none } }
                | .detached => t) with
              reply := some ⟨h.sender, h.tag, 0x22, .ok, []⟩ })

/-- R15, R16, R25, R31: SETTLE_TICKET is refused for a ticket that is not ENDED; accepted, it lowers the held total by the
hold, charges the amount, lets the account's status follow its debt, frees the table slot and vacates the ACTIVE slot of a
ticket that is still ACTIVE. A ticket without an account moves no money. -/
def Obligations.SettleTicketChargesAndRetires : Prop :=
  ∀ (h : Header) (n : Word16) (s : State),
    let c : Instr := .settleTicket h n
    (s.ticket n.toNat = none → exec c s = .next (s.answered c h 0x23 .notFound [])) ∧
    ∀ (i : Fin 32) (k : Ticket), s.ticketSlot n.toNat = some i → s.tickets.get i = some k →
      let positions : Vector Position 4 :=
        if k.attachment = .active then setAt s.positions k.position { s.pos k.position with active := none }
        else s.positions
      (¬mayActOn s h k.position → exec c s = .next (s.answered c h 0x23 .notPermitted [])) ∧
      (mayActOn s h k.position → k.state ≠ .ended → exec c s = .next (s.answered c h 0x23 .refusedState [])) ∧
      (mayActOn s h k.position → k.state = .ended → k.account = none →
        exec c s =
          .next ({ s with tickets := setAt s.tickets i none, positions := positions }.answered c h 0x23 .ok [])) ∧
      (mayActOn s h k.position → k.state = .ended → ∀ m j a, k.account = some m → s.accountSlot m = some j →
        s.accounts.get j = some a →
        ∃ (b : Account) (flags : BitVec 27),
          exec c s =
            .next ({ s with
                tickets := setAt s.tickets i none
                positions := positions
                accounts := setAt s.accounts j (some b)
                pendingFlags := flags }.answered c h 0x23 .ok []) ∧
          b = { a with held := a.held - k.hold.getD 0, money := b.money, status := b.status } ∧
          b.money =
            (match a.money with
            | .prepaid balance => .prepaid (max (-2147483648) (balance - k.amount))
            | .credit limit spent => .credit limit (min 4294967295 (spent + k.amount))) ∧
          b.status = statusByDebt a.status b.inDebt ∧ flags = flagsByDebt s.pendingFlags a.status b.inDebt)

/-- R17, R18: READ_TICKET answers with the 76 bytes of the record, NOT_FOUND or NOT_PERMITTED, and LIST_TICKETS with the
count and then the numbers, in slot order, of the tickets in the filter that the sender may act on; neither changes anything. An
empty filter selects all four states. 12.6.4: the places of the fields in a ticket record, with an absent field sent as 0, and
the presence bits. That byte 43 is 0 for an absent grade is the model's choice (log entry 39). -/
def Obligations.TicketsAreReadAndListed : Prop :=
  ((∀ (h : Header) (n : Word16) (s : State),
        (s.ticket n.toNat = none → exec (.readTicket h n) s = .next (s.answered (.readTicket h n) h 0x24 .notFound [])) ∧
        ∀ k, s.ticket n.toNat = some k →
          (¬mayActOn s h k.position →
            exec (.readTicket h n) s = .next (s.answered (.readTicket h n) h 0x24 .notPermitted [])) ∧
          (mayActOn s h k.position →
            exec (.readTicket h n) s = .next (s.answered (.readTicket h n) h 0x24 .ok k.record) ∧
            k.record.length = 76)) ∧
      ∀ (h : Header) (filter : Byte) (s : State), ∃ numbers : List Nat,
        exec (.listTickets h filter) s =
          .next (s.answered (.listTickets h filter) h 0x25 .ok
            (BitVec.ofNat 8 numbers.length :: numbers.flatMap fun n => bytes16 (BitVec.ofNat 16 n))) ∧
        numbers.length ≤ 32 ∧
        ∃ slots : List (Fin 32), slots.Pairwise (· < ·) ∧
          slots.map (fun i => ((s.tickets.get i).map Ticket.number).getD 0) = numbers ∧
          ∀ i, i ∈ slots ↔ ∃ k, s.tickets.get i = some k ∧ mayActOn s h k.position ∧
            ((∀ b < 4, filter.getLsbD b = false) ∨ filter.getLsbD k.state.code = true)) ∧
  (∀ k : Ticket,
      u16 k.record 0 = BitVec.ofNat 16 k.number ∧ u8 k.record 2 = BitVec.ofNat 8 k.state.code ∧
      u8 k.record 3 = BitVec.ofNat 8 k.position.val ∧ u8 k.record 4 = BitVec.ofNat 8 k.attachment.code ∧
      u8 k.record 5 = BitVec.ofNat 8 k.opener.val ∧ u8 k.record 6 = BitVec.ofNat 8 k.nozzleClass.code ∧
      u8 k.record 7 = (if k.authorizer = some .supervised then 1 else 0) ∧
      u8 k.record 8 = (if k.reduced then 1 else 0) ∧
      (∀ i < 18, (u8 k.record 9 ++ u16 k.record 10).getLsbD i =
        [k.authorizer.isSome, k.account.isSome, k.presetMass.isSome, k.presetAmount.isSome, k.hold.isSome,
         k.price.isSome, k.expectedTag.isSome, k.metrologyCount.isSome, k.profile.isSome, k.grade.isSome,
         k.commMode.isSome, k.pInit.isSome, k.finalPressure.isSome, k.lastSoc.isSome, k.peakTGas.isSome,
         k.startTime.isSome, k.endTime.isSome, k.endReason.isSome].getD i false) ∧
      u32 k.record 12 = BitVec.ofNat 32 (k.account.getD 0) ∧ u32 k.record 16 = BitVec.ofNat 32 (k.presetMass.getD 0) ∧
      u32 k.record 20 = BitVec.ofNat 32 (k.presetAmount.getD 0) ∧ u32 k.record 24 = BitVec.ofNat 32 (k.hold.getD 0) ∧
      u32 k.record 28 = BitVec.ofNat 32 (k.price.getD 0) ∧
      tagAt k.record 32 = k.expectedTag.getD (Vector.replicate 8 0) ∧
      u16 k.record 40 = BitVec.ofNat 16 (k.metrologyCount.getD 0) ∧
      u8 k.record 42 = BitVec.ofNat 8 ((k.profile.map Fin.val).getD 0) ∧
      u8 k.record 43 = BitVec.ofNat 8 ((k.grade.map Grade.code).getD 0) ∧
      u8 k.record 44 = (if k.commMode = some .noncomm then 1 else 0) ∧
      u8 k.record 45 = BitVec.ofNat 8 ((k.endReason.map EndReason.code).getD 0) ∧
      u32 k.record 46 = BitVec.ofNat 32 k.mass ∧ u32 k.record 50 = BitVec.ofNat 32 (k.mass / 1000) ∧
      u32 k.record 54 = BitVec.ofNat 32 k.amount ∧ u16 k.record 58 = BitVec.ofNat 16 (k.pInit.getD 0) ∧
      u16 k.record 60 = BitVec.ofNat 16 (k.finalPressure.getD 0) ∧
      u16 k.record 62 = BitVec.ofNat 16 (k.lastSoc.getD 0) ∧ u16 k.record 64 = BitVec.ofNat 16 (k.peakTGas.getD 0) ∧
      u32 k.record 66 = k.startTime.getD 0 ∧ u32 k.record 70 = k.endTime.getD 0 ∧
      u16 k.record 74 = BitVec.ofNat 16 k.holdUsed)


/-! ### Accounts, prices and metrology -/

/-- R32: WRITE_ACCOUNT from the station computer for a number that is not in the table creates the account in a free entry (the
lowest one, which is the model's choice, log entry 35), or is refused with BAD_VALUE or TABLE_FULL and changes nothing. R25,
R33: for a number in the table it changes the account in place. The balance of a PREPAID account and the spent of a CREDIT
account stand; a change of kind is refused with REFUSED_STATE unless nothing is held, owed or owned; ACTIVE written over
OVERDRAWN leaves the status to the debt; the held total stands. -/
def Obligations.WriteAccountCreatesOrChanges : Prop :=
  (∀ (h : Header) (f : AccountLayout) (s : State), h.sender = 0 →
      (¬accountInRange f → exec (.writeAccount h f) s = .next (s.answered (.writeAccount h f) h 0x30 .badValue [])) ∧
      (accountInRange f → s.account f.number.toNat = none →
        ((∀ i, (s.accounts.get i).isSome = true) →
          exec (.writeAccount h f) s = .next (s.answered (.writeAccount h f) h 0x30 .tableFull [])) ∧
        ∀ i, s.accounts.get i = none → (∀ j, j < i → (s.accounts.get j).isSome = true) →
          ∃ a : Account,
            a =
              { number := f.number.toNat, status := statusGiven f, money := openingGiven f, held := 0
                permitsH70 := f.permission.getLsbD 0, permitsH35 := f.permission.getLsbD 1
                perFillMax := perFillGiven f, tag := tagGiven f } ∧
            exec (.writeAccount h f) s =
              .next ({ s with accounts := setAt s.accounts i (some a) }.answered (.writeAccount h f) h 0x30 .ok a.record))) ∧
  (∀ (h : Header) (f : AccountLayout) (s : State) (j : Fin 64) (a : Account),
      h.sender = 0 → accountInRange f → s.accountSlot f.number.toNat = some j → s.accounts.get j = some a →
      let money : Option Money :=
        match a.money with
        | .prepaid balance =>
          if f.kind.toNat = 0 then some (.prepaid balance)
          else if a.held = 0 ∧ balance = 0 then some (.credit f.money.toNat 0) else none
        | .credit _ spent =>
          if f.kind.toNat = 1 then some (.credit f.money.toNat spent)
          else if a.held = 0 ∧ spent = 0 then some (.prepaid f.money.toNat) else none
      let written : AccountStatus :=
        if a.status = .overdrawn ∧ statusGiven f = .active then .overdrawn else statusGiven f
      (money = none →
        exec (.writeAccount h f) s = .next (s.answered (.writeAccount h f) h 0x30 .refusedState [])) ∧
      ∀ m, money = some m → ∃ b : Account,
        b =
          { a with
            money := m, status := statusByDebt written b.inDebt
            permitsH70 := f.permission.getLsbD 0, permitsH35 := f.permission.getLsbD 1
            perFillMax := perFillGiven f, tag := tagGiven f } ∧
        exec (.writeAccount h f) s =
          .next ({ s with
              accounts := setAt s.accounts j (some b)
              pendingFlags := flagsByDebt s.pendingFlags written b.inDebt }.answered (.writeAccount h f) h 0x30 .ok
            b.record))

/-- R25, R34: CREDIT_ACCOUNT, from every sender, raises a PREPAID balance up to 2,147,483,647 or lowers a CREDIT spent down
to 0, lets the status follow the debt, keeps the held total, and answers with the new balance or spent and the new
available money; an amount of 0 gives BAD_VALUE, an unknown number NOT_FOUND. That the amount is tested before the number is the
model's reading (log entry 33). -/
def Obligations.CreditAccountPaysIn : Prop :=
  ∀ (h : Header) (number amount : Word32) (s : State),
    let c : Instr := .creditAccount h number amount
    (amount.toNat = 0 → exec c s = .next (s.answered c h 0x31 .badValue [])) ∧
    (amount.toNat ≠ 0 → s.account number.toNat = none → exec c s = .next (s.answered c h 0x31 .notFound [])) ∧
    (amount.toNat ≠ 0 → ∀ j a, s.accountSlot number.toNat = some j → s.accounts.get j = some a →
      ∃ (b : Account) (paid : List Byte),
        (match a.money with
          | .prepaid balance =>
            b.money = .prepaid (min 2147483647 (balance + amount.toNat)) ∧
            paid = bytes32 (BitVec.ofInt 32 (min 2147483647 (balance + amount.toNat)))
          | .credit limit spent =>
            b.money = .credit limit (spent - amount.toNat) ∧
            paid = bytes32 (BitVec.ofNat 32 (spent - amount.toNat))) ∧
        b = { a with money := b.money, status := statusByDebt a.status b.inDebt } ∧
        exec c s =
          .next ({ s with
              accounts := setAt s.accounts j (some b)
              pendingFlags := flagsByDebt s.pendingFlags a.status b.inDebt }.answered c h 0x31 .ok
            (paid ++ bytes32 (BitVec.ofNat 32 b.available))))

/-- R35: CLOSE_ACCOUNT retires an account. The tests are, in order, the sender, the account and a held total of 0; accepted,
the entry becomes free and the reply carries the record as it stood. -/
def Obligations.CloseAccountRetires : Prop :=
  ∀ (h : Header) (number : Word32) (s : State),
    let c : Instr := .closeAccount h number
    (h.sender ≠ 0 → exec c s = .next (s.answered c h 0x32 .notPermitted [])) ∧
    (h.sender = 0 → s.account number.toNat = none → exec c s = .next (s.answered c h 0x32 .notFound [])) ∧
    ∀ j a, h.sender = 0 → s.accountSlot number.toNat = some j → s.accounts.get j = some a →
      (a.held ≠ 0 → exec c s = .next (s.answered c h 0x32 .refusedState [])) ∧
      (a.held = 0 →
        exec c s = .next ({ s with accounts := setAt s.accounts j none }.answered c h 0x32 .ok a.record))

/-- R24: the available money of an account: the balance, or the limit less spent, less the held total, and 0 for a negative
result; an account in debt has available 0. -/
def Obligations.AvailableMoneyByKind : Prop :=
  ∀ a : Account,
    (∀ balance, a.money = .prepaid balance → (a.available : Int) = max 0 (balance - a.held)) ∧
    (∀ limit spent : Nat, a.money = .credit limit spent →
      (a.available : Int) = max 0 ((limit : Int) - spent - a.held)) ∧
    (a.inDebt = true ↔
      (∃ balance, a.money = .prepaid balance ∧ balance < 0) ∨ ∃ limit spent, a.money = .credit limit spent ∧ limit < spent) ∧
    (a.inDebt = true → a.available = 0)

/-- R36, 12.6.5: READ_ACCOUNT, from every sender, answers with the 36 bytes of the record and changes nothing; an account
that is not in the table gives NOT_FOUND. -/
def Obligations.ReadAccountShowsTheRecord : Prop :=
  (∀ (h : Header) (number : Word32) (s : State),
      (s.account number.toNat = none →
        exec (.readAccount h number) s = .next (s.answered (.readAccount h number) h 0x33 .notFound [])) ∧
      ∀ a, s.account number.toNat = some a →
        exec (.readAccount h number) s = .next (s.answered (.readAccount h number) h 0x33 .ok a.record)) ∧
    ∀ a : Account,
      a.record.length = 36 ∧ u32 a.record 0 = BitVec.ofNat 32 a.number ∧
      u8 a.record 5 = BitVec.ofNat 8 a.status.code ∧
      (u8 a.record 6).getLsbD 0 = a.permitsH70 ∧ (u8 a.record 6).getLsbD 1 = a.permitsH35 ∧
      (u8 a.record 7).getLsbD 0 = a.perFillMax.isSome ∧ (u8 a.record 7).getLsbD 1 = a.tag.isSome ∧
      (match a.money with
        | .prepaid balance =>
          u8 a.record 4 = 0 ∧ u32 a.record 8 = BitVec.ofInt 32 balance ∧ u32 a.record 12 = 0
        | .credit limit spent =>
          u8 a.record 4 = 1 ∧ u32 a.record 8 = BitVec.ofNat 32 limit ∧ u32 a.record 12 = BitVec.ofNat 32 spent) ∧
      u32 a.record 16 = BitVec.ofNat 32 a.held ∧ u32 a.record 20 = BitVec.ofNat 32 (a.perFillMax.getD 0) ∧
      tagAt a.record 24 = a.tag.getD (Vector.replicate 8 0) ∧ u32 a.record 32 = BitVec.ofNat 32 a.available

/-- R37: SET_PRICE tests the sender, the class and the value in order; accepted, the price of the class becomes the value and the
reply carries the previous price, or that it was absent. R39: WRITE_METROLOGY tests the sender, the trade lock, the fields and
the position's state in order; accepted, it sets one pulse weight. READ_METROLOGY, from every sender, shows the four weights, the
metrology event counter and the trade lock and changes nothing. -/
def Obligations.PricesAndMetrologyAreWrittenAndRead : Prop :=
  (∀ (h : Header) (k : Byte) (value : Word32) (s : State),
      let c : Instr := .setPrice h k value
      (h.sender ≠ 0 → exec c s = .next (s.answered c h 0x34 .notPermitted [])) ∧
      (h.sender = 0 → (k.toNat = 0 ∨ 3 ≤ k.toNat ∨ value.toNat = 0 ∨ 10000000 < value.toNat) →
        exec c s = .next (s.answered c h 0x34 .badValue [])) ∧
      (h.sender = 0 → 1 ≤ value.toNat → value.toNat ≤ 10000000 →
        (k.toNat = 1 →
          exec c s =
            .next ({ s with priceH70 := some value.toNat }.answered c h 0x34 .ok
              ((if s.priceH70 = none then 0 else 1) :: bytes32 (BitVec.ofNat 32 (s.priceH70.getD 0))))) ∧
        (k.toNat = 2 →
          exec c s =
            .next ({ s with priceH35 := some value.toNat }.answered c h 0x34 .ok
              ((if s.priceH35 = none then 0 else 1) :: bytes32 (BitVec.ofNat 32 (s.priceH35.getD 0))))))) ∧
  ((∀ (h : Header) (x : Byte) (w : Word16) (s : State),
        let c : Instr := .writeMetrology h x w
        (h.sender ≠ 0 → exec c s = .next (s.answered c h 0x35 .notPermitted [])) ∧
        (h.sender = 0 → s.tradeLockOpen = false → exec c s = .next (s.answered c h 0x35 .locked [])) ∧
        (h.sender = 0 → s.tradeLockOpen = true → (4 ≤ x.toNat ∨ w.toNat < 10 ∨ 10000 < w.toNat) →
          exec c s = .next (s.answered c h 0x35 .badValue [])) ∧
        (h.sender = 0 → s.tradeLockOpen = true → 10 ≤ w.toNat → w.toNat ≤ 10000 → ∀ p : Fin 4, p.val = x.toNat →
          ((s.pos p).state.busy = true → exec c s = .next (s.answered c h 0x35 .refusedState [])) ∧
          ((s.pos p).state.busy = false →
            exec c s =
              .next ({ s with pulseWeights := setAt s.pulseWeights p w.toNat }.answered c h 0x35 .ok [])))) ∧
      ∀ (h : Header) (s : State), ∃ payload : List Byte,
        exec (.readMetrology h) s = .next (s.answered (.readMetrology h) h 0x36 .ok payload) ∧ payload.length = 11 ∧
        (∀ p : Fin 4, u16 payload (2 * p.val) = BitVec.ofNat 16 (s.pulseWeights.get p)) ∧
        u16 payload 8 = BitVec.ofNat 16 s.metrologyCount ∧ u8 payload 10 = (if s.tradeLockOpen then 1 else 0))


/-! ### Operating requests -/

/-- R107, R112, R113, R118: HOLD_POSITION from the station computer makes SUPERVISOR active at a fill in STARTING, FUELLING or
HELD; it changes nothing where SUPERVISOR is active, and is refused in the other states. Premise: no grant is due. R60, R120:
STOP_POSITION from the station computer ends a fill in STARTING, FUELLING or HELD with SUPERVISOR_STOP, and is refused in the other
states. -/
def Obligations.HoldAndStopPositionByState : Prop :=
  (∀ (h : Header) (x : Byte) (s : State), h.sender = 0 →
      let c : Instr := .holdPosition h x
      (4 ≤ x.toNat → exec c s = .next (s.answered c h 0x40 .badValue [])) ∧
      ∀ p : Fin 4, p.val = x.toNat → noGrantDue s →
        ((s.pos p).state.filling = false → exec c s = .next (s.answered c h 0x40 .refusedState [])) ∧
        ((s.pos p).state.filling = true → (s.pos p).factors.supervisor = true →
          exec c s = .next (s.answered c h 0x40 .ok [])) ∧
        (∀ sub, (s.pos p).state = .starting sub → (s.pos p).factors.supervisor = false →
          exec c s =
            .next ({ s with
                positions := setAt s.positions p
                  { s.pos p with factors := { (s.pos p).factors with supervisor := true } } }.answered c h 0x40 .ok [])) ∧
        (∀ r, (s.pos p).state = .held r → (s.pos p).factors.supervisor = false →
          exec c s =
            .next ({ s with
                positions := setAt s.positions p
                  { s.pos p with
                    factors := { (s.pos p).factors with supervisor := true }
                    state := .held .factorWait
                    resumeTimer := none } }.answered c h 0x40 .ok [])) ∧
        ((s.pos p).state = .fuelling → (s.pos p).factors.supervisor = false →
          ∃ t, exec c s = .next (t.answered c h 0x40 .ok []) ∧
            fillHolds s t p { (s.pos p).factors with supervisor := true })) ∧
  (∀ (h : Header) (x : Byte) (s : State), h.sender = 0 →
      let c : Instr := .stopPosition h x
      (4 ≤ x.toNat → exec c s = .next (s.answered c h 0x42 .badValue [])) ∧
      ∀ p : Fin 4, p.val = x.toNat →
        ((s.pos p).state.filling = false → exec c s = .next (s.answered c h 0x42 .refusedState [])) ∧
        ((s.pos p).state.filling = true →
          ∃ t, exec c s = .next { t with reply := some ⟨h.sender, h.tag, 0x42, .ok, []⟩ } ∧
            fillEnds (s.takeFrame c) t p .supervisorStop))

/-- R115, R119: RESUME_POSITION from the station computer clears SUPERVISOR and METER with the phase-fault count, in
STARTING, or in FACTOR_WAIT with no other factor active, where a MANUAL position resumes and the others start their delay;
it is the demand in DEMAND_WAIT; it is refused in every other case. -/
def Obligations.ResumePositionByState : Prop :=
  ∀ (h : Header) (x : Byte) (s : State), h.sender = 0 →
    let c : Instr := .resumePosition h x
    (4 ≤ x.toNat → exec c s = .next (s.answered c h 0x41 .badValue [])) ∧
    ∀ p : Fin 4, p.val = x.toNat →
      let f := (s.pos p).factors
      let clearable := f.supervisor = true ∨ f.meter = true
      let others := f.vehicleHalt = true ∨ f.bankLow = true ∨ f.precool = true ∨ f.sensor = true
      let cleared : Position :=
        { s.pos p with factors := { f with supervisor := false, meter := false }, phaseFaults := 0 }
      (∀ sub, (s.pos p).state = .starting sub → clearable →
        exec c s = .next ({ s with positions := setAt s.positions p cleared }.answered c h 0x41 .ok [])) ∧
      ((s.pos p).state = .held .factorWait → clearable → ¬others →
        ((s.cfg p).clearMode = .manual →
          exec c s =
            .next { ({ s.takeFrame c with positions := setAt s.positions p cleared } : State).resume p with
              reply := some ⟨h.sender, h.tag, 0x41, .ok, []⟩ }) ∧
        ((s.cfg p).clearMode ≠ .manual →
          exec c s =
            .next ({ s with
                positions := setAt s.positions p
                  { cleared with
                    state := .held .delay
                    resumeTimer := some ((s.cfg p).resumeDelay * 1000) } }.answered c h 0x41 .ok []))) ∧
      ((s.pos p).state = .held .demandWait →
        exec c s =
          .next { ({ s.takeFrame c with
                positions := setAt s.positions p { s.pos p with phaseFaults := 0 } } : State).resume p with
            reply := some ⟨h.sender, h.tag, 0x41, .ok, []⟩ }) ∧
      (((∃ sub, (s.pos p).state = .starting sub) ∧ ¬clearable ∨
          (s.pos p).state = .held .factorWait ∧ (¬clearable ∨ others) ∨
          (s.pos p).state = .held .delay ∨ (s.pos p).state.filling = false ∨ (s.pos p).state = .fuelling) →
        exec c s = .next (s.answered c h 0x41 .refusedState []))

/-- R82, R108, R112, R116, R117: a resume selects a bank and returns the position to FUELLING with a rebased ramp, valve 0 and
the profile, rate and taper kept; with no eligible bank BANK_LOW becomes active, and the position stays HELD in FACTOR_WAIT or
ends with BANK_LOW by the disposition. A resume that falls together with the end of the maximum hold total stops the accumulator
short of it, and the ticket shows the same figure; that it is short by 1 ms is the model's choice (log entry 25). Premises: the
position is HELD with no active factor, and no grant is due. -/
def Obligations.ResumeReturnsToFuelling : Prop :=
  ∀ (s : State) (p : Fin 4) (r : Release),
    (s.pos p).state = .held r → (s.pos p).factors = .empty → noGrantDue s →
      (∀ b, s.selectedBank p none = some b →
        let total := (s.cfg p).maxHold * 1000
        let held := if total ≤ (s.pos p).holdTime then total - 1 else (s.pos p).holdTime
        (s.resume p).pos p =
          { s.pos p with
            state := .fuelling
            valve := 0
            drawBank := some b
            resumeTimer := none
            holdTime := held
            ramp :=
              { (s.pos p).ramp with
                base := 10 * s.pDisp p, time := 0, target := none, starved := 0, lagging := 0
                stepTimer := some 250 } } ∧
        (∀ q, q ≠ p → (s.resume p).pos q = s.pos q) ∧
        s.resume p =
          { s with
            positions := (s.resume p).positions
            compressor := (s.suspendForDraw b).compressor
            tickets :=
              if total ≤ (s.pos p).holdTime then (s.modActive p fun k => { k with holdUsed := held / 1000 }).tickets
              else s.tickets }) ∧
      (s.selectedBank p none = none → (s.cfg p).bankLow = .holdFill →
        s.resume p =
          { s with
            positions := setAt s.positions p
              { s.pos p with
                state := .held .factorWait
                resumeTimer := none
                factors := { FactorSet.empty with bankLow := true } }
            waiting := s.waiting.put p true }) ∧
      (s.selectedBank p none = none → (s.cfg p).bankLow = .endFill → fillEnds s (s.resume p) p .bankLow)

/-- R146: SUSPEND_REFILL from the station computer suspends a compressor that is STOPPED, STARTING, RUNNING or UNLOADED with
its queue kept, changes nothing in SUSPENDED and is refused in LOCKOUT; RESUME_REFILL is refused outside SUSPENDED, where
the compressor enters STOPPED and makes its start test. -/
def Obligations.RefillIsSuspendedAndResumed : Prop :=
  ∀ (h : Header) (s : State), h.sender = 0 →
    let c : Instr := .suspendRefill h
    let d : Instr := .resumeRefill h
    ((s.compressor.state = .stopped ∨ s.compressor.state = .starting ∨ s.compressor.state = .running ∨
        s.compressor.state = .unloaded) →
      exec c s =
        .next ({ s with
            compressor :=
              { s.compressor with state := .suspended, activeBank := none, timer := none, creditWait := false } }.answered
          c h 0x43 .ok [])) ∧
    (s.compressor.state = .suspended → exec c s = .next (s.answered c h 0x43 .ok [])) ∧
    (s.compressor.state = .lockout → exec c s = .next (s.answered c h 0x43 .refusedState [])) ∧
    (s.compressor.state ≠ .suspended → exec d s = .next (s.answered d h 0x44 .refusedState [])) ∧
    (s.compressor.state = .suspended →
      exec d s =
        .next { ({ s.takeFrame d with
              compressor := { s.compressor with state := .stopped, timer := none } } : State).compressorStartTest with
          reply := some ⟨h.sender, h.tag, 0x44, .ok, []⟩ })

/-- R142, R147 (1): the start test of a STOPPED compressor. With a choosable bank, a CLEAR supply and no ESD cause on a
commissioned site it spends a credit and enters STARTING, or waits for a credit and raises NO_START_CREDIT once; when it
fails otherwise it records only that nothing waits for a credit. In another state no test is made. That a CLEAR cause which
outlived its channel lets the compressor start is the model's reading (log entry 42). -/
def Obligations.CompressorStartTest : Prop :=
  ∀ s : State,
    let ready := s.commissioned = true ∧
      (∃ b ∈ s.compressor.queue, s.compressor.activeBank ≠ some b ∧ ∀ p, (s.pos p).drawBank ≠ some b) ∧
      s.compressor.supply = .clear ∧ s.compressor.esdCause = false
    (s.compressor.state ≠ .stopped → s.compressorStartTest = s) ∧
    (s.compressor.state = .stopped → ¬ready →
      s.compressorStartTest = { s with compressor := { s.compressor with creditWait := false } }) ∧
    (s.compressor.state = .stopped → ready → 0 < s.compressor.credits →
      s.compressorStartTest =
        { s with
          compressor :=
            { s.compressor with
              state := .starting
              credits := s.compressor.credits - 1
              returns := s.compressor.returns ++ [600000]
              timer := some 5000
              creditWait := false } }) ∧
    (s.compressor.state = .stopped → ready → s.compressor.credits = 0 →
      s.compressorStartTest =
        { s with
          compressor := { s.compressor with creditWait := true }
          pendingFlags :=
            if s.compressor.creditWait then s.pendingFlags else s.pendingFlags ||| 0x40000#27 })

/-- R52, R129 to R133: ISOLATE_BANK from the station computer isolates a READY bank: it leaves the refill queue, every position
leaves its draw set, and BANK_ISOLATED is raised; with an eligible bank such a position draws on that, its counts at 0 in
FUELLING; with none a pulse ends into SETTLE, and in FUELLING BANK_LOW holds or ends the fill by its disposition; a bank that is
ISOLATED is answered OK and nothing changes. A bank index above 5 gives BAD_VALUE. Premise: the refill queue holds each bank at
most once. R133 to R135: RETURN_BANK is refused unless the bank is ISOLATED, both its channels are OK and its pressure and
temperature are in their limits; accepted, the bank is READY and queued when it wants a refill, and each waiting position for
which a bank is eligible clears BANK_LOW. R139 to R141, R144: at the addition a STOPPED compressor makes its start test and an
UNLOADED one its choice; at the isolation of the ACTIVE bank the next bank in queue order becomes ACTIVE, or the compressor is
UNLOADED. R130 (3), R145: what a draw selected on a bank does to its refill, and what the report of an emptied draw set does. -/
def Obligations.BanksAreIsolatedAndReturned : Prop :=
  ((∀ (s : State) (b : Fin 6), drawSuspends s (s.suspendForDraw b) b) ∧
    ∀ (s : State) (p : Fin 4), drawLeaves s (s.drawReported p) p) ∧
  (∀ (h : Header) (x : Byte) (s : State), h.sender = 0 →
      let c : Instr := .isolateBank h x
      (6 ≤ x.toNat → exec c s = .next (s.answered c h 0x45 .badValue [])) ∧
      ∀ b : Fin 6, b.val = x.toNat →
        ((s.bank b).isolated = true → exec c s = .next (s.answered c h 0x45 .ok [])) ∧
        ((s.bank b).isolated = false → s.compressor.queue.Nodup →
          ∃ t, exec c s = .next t ∧ t.base = (s.answered c h 0x45 .ok []).base ∧
            t.banks = setAt s.banks b { s.bank b with isolated := true } ∧
            b ∉ t.compressor.queue ∧ t.compressor.activeBank ≠ some b ∧
            bankIsolates (s.answered c h 0x45 .ok []) t b ∧
            ((∀ p, (s.pos p).drawBank ≠ some b) → t.positions = s.positions ∧ t.tickets = s.tickets ∧
              t.precool = s.precool ∧ t.waiting = s.waiting))) ∧
  (∀ (h : Header) (x : Byte) (s : State), h.sender = 0 →
      let c : Instr := .returnBank h x
      (6 ≤ x.toNat → exec c s = .next (s.answered c h 0x46 .badValue [])) ∧
      ∀ b : Fin 6, b.val = x.toNat →
        let good := (s.bank b).isolated = true ∧
          (∃ i, (s.bankCfg b).pChannel = some i ∧ (s.chan i).state = .ok) ∧
          (∃ i, (s.bankCfg b).tChannel = some i ∧ (s.chan i).state = .ok) ∧
          (s.bank b).p ≤ (s.bankCfg b).rated ∧ (s.bank b).t ≤ 3580
        (¬good → exec c s = .next (s.answered c h 0x46 .refusedState [])) ∧
        (good →
          ∃ t, exec c s = .next t ∧ t.base = (s.answered c h 0x46 .ok []).base ∧
            t.banks = setAt s.banks b { s.bank b with isolated := false } ∧ t.tickets = s.tickets ∧
            t.precool = s.precool ∧
            (s.compressor.activeBank ≠ some b →
              (b ∈ t.compressor.queue ↔ b ∈ s.compressor.queue ∨
                s.commissioned = true ∧ (s.bankCfg b).inService = true ∧ pressureKnown s b ∧
                  (s.bank b).p < (s.bankCfg b).refillStart)) ∧
            (∃ m, queueEntryMade
                { s.answered c h 0x46 .ok [] with banks := setAt s.banks b { s.bank b with isolated := false } } m b ∧
              t = { m with positions := t.positions, waiting := t.waiting }) ∧
            waitingReported { s with banks := setAt s.banks b { s.bank b with isolated := false } } t))

/-- R74, R157, R158 (2): CHILLER_ON from the station computer takes a chiller in OFF to FAULT when a cause is present, a chiller
in OFF or FAULT without a cause to PULLDOWN or READY by the last coolant value, and changes nothing in PULLDOWN and READY; in
FAULT with a cause it is refused. R159 (1): CHILLER_OFF is OK in every chiller state: the chiller is OFF, the offered grade G0,
no position holds or waits for a slot. At FAULT and at CHILLER_OFF a former holder takes grade G0: in STARTING with cool-wait
expired yes; in FUELLING and HELD its fallback timer stops and it is looked up again at G0, and with no profile PRECOOL holds or
ends the fill. R56: a waiter takes grade G0 and cool-wait expired yes, and one in COOL_WAIT makes its start lookup unless
VEHICLE_HALT holds it; how several waiters follow each other is left to the model's order (log entry 37). R56 (4), R162: while a
slot is free in READY the head of the wait queue is granted it at the offered grade and told at once, and the next grant follows;
with no grant due nothing changes. R158: an entry into READY makes these grants. -/
def Obligations.ChillerIsSwitchedOnAndOff : Prop :=
  (∀ s : State,
      (noGrantDue s → s.makeGrants = s) ∧
      ∀ p rest, s.precool.waitQueue = p :: rest → s.slotFree = true → slotGranted s s.makeGrants p rest) ∧
  (∀ (h : Header) (s : State), h.sender = 0 →
      let c : Instr := .chillerOn h
      let cause := s.precool.faultLine = true ∨ s.precool.coolantCause = true
      let cold := s.precool.coolantSeen = true ∧ ∃ v, s.coolantValue = some v ∧ v ≤ s.site.limitG3 - s.site.approach
      ((s.precool.chiller = .pulldown ∨ s.precool.chiller = .ready) →
        exec c s = .next (s.answered c h 0x47 .ok [])) ∧
      (s.precool.chiller = .fault → cause → exec c s = .next (s.answered c h 0x47 .refusedState [])) ∧
      (s.precool.chiller = .off → cause →
        ∃ t, exec c s = .next t ∧ chillerFaults (s.answered c h 0x47 .ok []) t) ∧
      ((s.precool.chiller = .off ∨ s.precool.chiller = .fault) → ¬cause → ¬cold →
        exec c s =
          .next ({ s with precool := { s.precool with chiller := .pulldown, offered := .g0 } }.answered c h 0x47 .ok [])) ∧
      ((s.precool.chiller = .off ∨ s.precool.chiller = .fault) → ¬cause → cold →
        ∃ t, exec c s = .next t ∧ t.base = (s.answered c h 0x47 .ok []).base ∧ t.precool.chiller = .ready ∧
          t.banks = s.banks ∧ (∀ p, (s.pos p).state ≠ .starting .coolWait → t.pos p = s.pos p) ∧
          ∀ v, s.coolantValue = some v →
            let offered : Grade :=
              if v + s.site.approach ≤ s.site.limitG1 then .g1
              else if v + s.site.approach ≤ s.site.limitG2 then .g2
              else if v + s.site.approach ≤ s.site.limitG3 then .g3 else .g0
            t.precool.offered = offered ∧
            t = { State.makeGrants { s.takeFrame c with
                    precool := { s.precool with chiller := .ready, offered := offered } } with
              reply := some ⟨h.sender, h.tag, 0x47, .ok, []⟩ })) ∧
  (∀ (h : Header) (s : State), h.sender = 0 →
      let c : Instr := .chillerOff h
      let withdrawn (p : Fin 4) : Position := { s.pos p with coolWaitExpired := true }
      ∃ t, exec c s = .next t ∧ t.base = (s.answered c h 0x48 .ok []).base ∧
        t.precool.chiller = .off ∧ t.precool.offered = .g0 ∧ t.precool.holders = .empty ∧ t.precool.waitQueue = [] ∧
        t.banks = s.banks ∧ t.precool.faultLine = s.precool.faultLine ∧
        t.precool.coolantCause = s.precool.coolantCause ∧ t.precool.coolantSeen = s.precool.coolantSeen ∧
        (∀ p, p ∈ s.precool.waitQueue → t.grade p = some .g0) ∧
        (∀ p, s.precool.holders.has p = true → p ∉ s.precool.waitQueue → slotLost (s.answered c h 0x48 .ok []) t p) ∧
        (∀ p, p ∈ s.precool.waitQueue → s.precool.holders.has p = false →
          (∀ sub, (s.pos p).state = .starting sub → sub ≠ .coolWait → t.pos p = withdrawn p) ∧
          ((s.pos p).state = .starting .coolWait → (s.pos p).factors.vehicleHalt = true →
            t.pos p = { withdrawn p with coolWaitTimer := none }) ∧
          ((s.pos p).state = .starting .coolWait → (s.pos p).factors.vehicleHalt = false →
            s.precool.waitQueue = [p] → s.precool.holders = .empty →
            startLookupActs
              { s.answered c h 0x48 .ok [] with
                positions := setAt s.positions p { withdrawn p with coolWaitTimer := none }
                precool :=
                  { s.precool with
                    chiller := .off, offered := .g0, waitQueue := []
                    grades := setAt s.precool.grades p (some .g0) } } t p)) ∧
        (∀ p, s.precool.holders.has p = false → p ∉ s.precool.waitQueue →
          t.pos p = s.pos p ∧ t.grade p = s.grade p))

/-- R64, R151 (1), R174: a change of the ESD line to active while the latch is clear sets the latch, ends every fill in
STARTING, FUELLING and HELD with reason ESD, which withdraws the waiters and releases the slots, sets the ESD cause and stops
the compressor, and raises ESD; the other positions, the other tickets and the chiller stand. That the compressor takes it first
is the model's choice (log entry 10). Every other change records the level alone. R151 (3), R175: CLEAR_ESD from the station
computer is refused while the line is active and changes nothing while the latch is clear; accepted, the latch and the ESD cause
clear, a STOPPED compressor makes its start test, and then each position makes its own, in ascending order (the order is the
model's choice, log entry 11). -/
def Obligations.EsdLatchIsSetAndCleared : Prop :=
  ((∀ (active : Bool) (s : State), (active = false ∨ s.esdLine = true ∨ s.esdLatch = true) →
        exec (.esdLineChange active) s = .next { s with esdLine := active }) ∧
      ∀ s : State, s.esdLine = false → s.esdLatch = false →
        ∃ t, exec (.esdLineChange true) s = .next t ∧
          t.base = { s with esdLine := true, esdLatch := true }.base ∧ t.banks = s.banks ∧
          t.flagPending .esd = true ∧ t.compressor.esdCause = true ∧
          t.compressor.credits = s.compressor.credits ∧ t.compressor.returns = s.compressor.returns ∧
          t.compressor.queue = s.compressor.queue ∧
          (s.compressor.state.motorOn = true → t.compressor.state = .stopped ∧ t.compressor.activeBank = none) ∧
          (s.compressor.state.motorOn = false → t.compressor.state = s.compressor.state) ∧
          (∀ p, (s.pos p).state.filling = true →
            t.pos p = endedPosition (s.pos p) (s.site.ventTime * 1000) ∧ t.waiting.has p = false ∧
            t.precool.holders.has p = false ∧ t.precool.fallback.get p = none ∧
            (s.precool.waitQueue.Nodup → p ∉ t.precool.waitQueue) ∧
            ∀ n i k, (s.pos p).active = some n → s.ticketSlot n = some i → s.tickets.get i = some k →
              t.tickets.get i = some { k with endReason := some .esd }) ∧
          (∀ p, (s.pos p).state.filling = false → t.pos p = s.pos p) ∧
          (∀ i, (∀ p n, (s.pos p).state.filling = true → (s.pos p).active = some n → s.ticketSlot n ≠ some i) →
            t.tickets.get i = s.tickets.get i) ∧
          t.precool.chiller = s.precool.chiller ∧ t.precool.offered = s.precool.offered ∧
          t.precool.grades = s.precool.grades) ∧
  (∀ (h : Header) (s : State), h.sender = 0 →
      let c : Instr := .clearEsd h
      (s.esdLatch = false → exec c s = .next (s.answered c h 0x49 .ok [])) ∧
      (s.esdLatch = true → s.esdLine = true → exec c s = .next (s.answered c h 0x49 .refusedState [])) ∧
      (s.esdLatch = true → s.esdLine = false →
        exec c s =
          .next { ((((({ s.takeFrame c with
                esdLatch := false
                compressor := { s.compressor with esdCause := false } } : State).compressorStartTest).startTest 0).startTest
                  1).startTest 2).startTest 3 with
            reply := some ⟨h.sender, h.tag, 0x49, .ok, []⟩ }))


/-! ### Status requests -/

/-- R66, R136, R152, R166, R177, R187: the status requests change nothing, but that READ_EVENTS clears the flags it returns.
Their payloads have the lengths of 12.6.7 and 12.6.10 and show the fields in the places given there. Every byte of
READ_POSITION, READ_BANK, READ_COMPRESSOR, READ_PRECOOL and READ_CHANNEL is given; that a named channel which does not serve the
role reads 255 and 0, and that READ_POSITION shows the standing opening, target and counts where R83 has those of the last step,
are the model's readings (log entries 20 and 41). READ_EVENTS: the whole payload, whose bits 27 to 31 of the two words are 0.
The attention line is active while
an enabled flag is pending. READ_POSITION is open to a terminal for the positions of its set; the others are the station
computer's. -/
def Obligations.StatusRequestsShowTheState : Prop :=
  (∀ (h : Header) (x : Byte) (s : State),
    let c : Instr := .readPosition h x
    (4 ≤ x.toNat → exec c s = .next (s.answered c h 0x50 .badValue [])) ∧
    ∀ p : Fin 4, p.val = x.toNat →
      (¬mayActOn s h p → exec c s = .next (s.answered c h 0x50 .notPermitted [])) ∧
      (mayActOn s h p → ∃ b : List Byte, exec c s = .next (s.answered c h 0x50 .ok b) ∧ b.length = 79 ∧
        positionShown s p b)) ∧
  (∀ (h : Header) (x : Byte) (s : State), h.sender = 0 →
    let c : Instr := .readBank h x
    (6 ≤ x.toNat → exec c s = .next (s.answered c h 0x51 .badValue [])) ∧
    ∀ a : Fin 6, a.val = x.toNat →
      ∃ b : List Byte, exec c s = .next (s.answered c h 0x51 .ok b) ∧ b.length = 34 ∧ bankShown s a b) ∧
  (∀ (h : Header) (s : State), h.sender = 0 → s.compressor.queue.length ≤ 6 → s.compressor.returns.length ≤ 6 →
    ∃ b : List Byte, exec (.readCompressor h) s = .next (s.answered (.readCompressor h) h 0x52 .ok b) ∧ b.length = 55 ∧
      compressorShown s b) ∧
  (∀ (h : Header) (s : State), h.sender = 0 → s.precool.waitQueue.length ≤ 4 →
    ∃ b : List Byte, exec (.readPrecool h) s = .next (s.answered (.readPrecool h) h 0x53 .ok b) ∧ b.length = 53 ∧
      precoolShown s b) ∧
  (∀ (h : Header) (x : Byte) (s : State), h.sender = 0 →
    let c : Instr := .readChannel h x
    (32 ≤ x.toNat → exec c s = .next (s.answered c h 0x54 .badValue [])) ∧
    ∀ i : Fin 32, i.val = x.toNat →
      ∃ b : List Byte, exec c s = .next (s.answered c h 0x54 .ok b) ∧ b.length = 22 ∧ channelShown s i b) ∧
  ∀ (h : Header) (s : State), h.sender = 0 →
    ∃ b : List Byte,
      exec (.readEvents h) s =
        .next ({ s with pendingFlags := 0 }.answered (.readEvents h) h 0x55 .ok b) ∧ b.length = 16 ∧
      (∀ i < 32, (u32 b 0).getLsbD i = (decide (i < 27) && s.pendingFlags.getLsbD i) ∧
        (u32 b 4).getLsbD i = (decide (i < 27) && s.site.eventMask.getLsbD i)) ∧
      u16 b 8 = BitVec.ofNat 16 s.discardedFrames ∧ u16 b 10 = BitVec.ofNat 16 s.bufferOverruns ∧ u32 b 12 = s.clock ∧
      (s.attention = true ↔ ∃ i < 27, s.pendingFlags.getLsbD i = true ∧ s.site.eventMask.getLsbD i = true)

/-! ### The field lines and the vehicle link -/

/-- R170, R171: a sample with no in-use channel for its source is counted and discarded. Its value, clamped to the range of the
channel's kind, is taken in window, makes an OK channel HELD out of window, and does nothing else. At the end of its grace time
a channel is FAILED and CHANNEL_FAILED is raised. R148, R150, R156: a supply value below the minimum stops the motor, one that
makes the cause CLEAR makes the start test, a discharge value above the limit locks the compressor out, a coolant value moves
the chiller, and at its entry into READY grants are made. R110 (2), R132, R148 (1): a FAILED P_disp channel ends the fill, a
FAILED bank P channel isolates the bank, a FAILED supply channel sets the cause, a FAILED discharge channel locks the compressor out. R155 (2), (3), R74, R157: a FAILED
coolant channel takes the chiller to FAULT, with what its holders lose, and a return to OK clears the cause. R110 (1): SENSOR
follows the P_disp and T_gas channels of a position. R11, R109 (1), R165 (1), (2): a T_gas value moves the peak of the ticket
and the fallback timer, and clears PRECOOL. R125, R126, R134, R135: a bank value gives a new inventory, isolates the bank above its
rating or above 3,580, ends or queues its refill, and is reported to the waiting positions. R139 to R141, R144: a bank that leaves
the queue while ACTIVE gives way to the next one in queue order, or to UNLOADED; at an addition a STOPPED compressor makes its
start test and an UNLOADED one its choice. That a channel in the role of a bank moves the bank whatever channel the bank's record
names is the model's reading (log entry 43). Premise of the clauses on positions: no grant is due. -/
def Obligations.SamplesAndGraceTimesMoveChannels : Prop :=
  (∀ (x : Byte) (w : Word16) (s : State),
    (∀ c, (s.chanCfg c).user.isSome = true → (s.chanCfg c).source ≠ x.toNat) →
      exec (.sampleArrival x w) s = .next { s with rejectedSamples := min 65535 (s.rejectedSamples + 1) }) ∧
  (∀ (x : Byte) (w : Word16) (s : State) (c : Fin 32) (r : Role),
    (s.chanCfg c).user = some r → (s.chanCfg c).source = x.toNat →
    (∀ d, d < c → ¬((s.chanCfg d).user.isSome = true ∧ (s.chanCfg d).source = x.toNat)) →
    let v : Nat :=
      match (s.chanCfg c).kind with
      | .pressure => max 0 (min 10000 w.toNat)
      | .temperature => max 2000 (min 3730 w.toNat)
    let inWindow := (s.chanCfg c).windowMin ≤ v ∧ v ≤ (s.chanCfg c).windowMax
    let taken : State := { s with channels := setAt s.channels c ⟨.ok, v, true, some (s.chanCfg c).grace⟩ }
    let held : State := { s with channels := setAt s.channels c { s.chan c with state := .held } }
    (inWindow → ∃ t, exec (.sampleArrival x w) s = .next t ∧ t.base = taken.base ∧ (r = .ambient → t = taken) ∧
      (∀ p, r = .pDisp p → noGrantDue s →
        ((s.chan c).state = .ok → t = taken) ∧ ((s.chan c).state ≠ .ok → sensorFollows taken t p)) ∧
      (∀ p, r = .tGas p → noGrantDue s → ∃ m : State,
        ((s.chan c).state = .ok → m = taken) ∧ ((s.chan c).state ≠ .ok → sensorFollows taken m p) ∧
        gasTemperatureActs m t p v) ∧
      (∀ b, r = .bankP b → (t.bank b).p = v ∧ (t.bank b).t = (s.bank b).t ∧ (∀ a, a ≠ b → t.bank a = s.bank a) ∧
        (t.bank b).inventory = inventoryAt taken b v (s.bank b).t ∧
        ((s.bankCfg b).rated < v →
          ((s.bank b).isolated = false → bankIsolates taken t b) ∧
          ((s.bank b).isolated = true → t.positions = s.positions ∧ (t.bank b).isolated = true)) ∧
        (v ≤ (s.bankCfg b).rated → (t.bank b).isolated = (s.bank b).isolated ∧ t.tickets = s.tickets ∧
          t.precool = s.precool ∧ waitingReported { taken with banks := t.banks } t ∧
          (∃ m n : State,
            (b ∈ s.compressor.queue → (s.bankCfg b).refillTarget ≤ v → bankDequeued { taken with banks := t.banks } m b) ∧
            ((b ∉ s.compressor.queue ∨ v < (s.bankCfg b).refillTarget) → m = { taken with banks := t.banks }) ∧
            queueEntryMade m n b ∧ t = { n with positions := t.positions, waiting := t.waiting }) ∧
          (b ∈ s.compressor.queue → s.compressor.queue.Nodup → (s.bankCfg b).refillTarget ≤ v →
            (s.bankCfg b).refillStart ≤ v → b ∉ t.compressor.queue ∧ t.compressor.activeBank ≠ some b) ∧
          (s.commissioned = true → (s.bankCfg b).inService = true → (s.bank b).isolated = false →
            (s.bankCfg b).pChannel = some c → v < (s.bankCfg b).refillStart → v < (s.bankCfg b).refillTarget →
            s.compressor.activeBank ≠ some b → b ∈ t.compressor.queue))) ∧
      (∀ b, r = .bankT b → (t.bank b).t = v ∧ (t.bank b).p = (s.bank b).p ∧ (∀ a, a ≠ b → t.bank a = s.bank a) ∧
        (t.bank b).inventory = inventoryAt taken b (s.bank b).p v ∧
        (3580 < v → (s.bank b).isolated = false → bankIsolates taken t b) ∧
        ((v ≤ 3580 ∨ (s.bank b).isolated = true) → t = { taken with banks := t.banks } ∧
          (t.bank b).isolated = (s.bank b).isolated)) ∧
      (r = .supply → t.compressor.supply =
        if v < s.site.supplyMin then .below
        else if s.compressor.supply = .below ∧ v < s.site.supplyMin + s.site.supplyHyst then .below
        else .clear) ∧
      (r = .supply → t.compressor.supply = s.compressor.supply → t = taken) ∧
      (r = .supply → s.compressor.supply ≠ .clear → t.compressor.supply = .clear →
        t = ({ taken with compressor := { s.compressor with supply := .clear } } : State).compressorStartTest) ∧
      (r = .supply → v < s.site.supplyMin → s.compressor.supply ≠ .below →
        t.compressor.supply = .below ∧ t.compressor.state.motorOn = false ∧ t.flagPending .supplyLow = true) ∧
      (r = .discharge → s.site.dischargeLimit < v → s.compressor.state ≠ .suspended → s.compressor.state ≠ .lockout →
        t.compressor.state = .lockout ∧ t.compressor.activeBank = none ∧ t.compressor.timer = some 300000 ∧
        t.flagPending .compressorLockout = true) ∧
      (r = .discharge → s.site.dischargeLimit < v → s.compressor.state = .lockout →
        t = { taken with compressor := { s.compressor with timer := some 300000 } }) ∧
      (r = .discharge → (v ≤ s.site.dischargeLimit ∨ s.compressor.state = .suspended) → t = taken) ∧
      (r = .coolant → t.precool.faultLine = s.precool.faultLine ∧
        t.precool.coolantCause = (if (s.chan c).state = .ok then s.precool.coolantCause else false)) ∧
      (r = .coolant → (s.precool.chiller = .off ∨ s.precool.chiller = .fault) →
        t = { taken with
          precool := { s.precool with coolantSeen := true, coolantCause := t.precool.coolantCause } }) ∧
      (r = .coolant → (s.precool.chiller = .pulldown ∨ s.precool.chiller = .ready) →
        t.precool.chiller = (if v ≤ s.site.limitG3 - s.site.approach then .ready else .pulldown) ∧
        t.precool.coolantSeen = true ∧
        t.precool.offered =
          (if s.site.limitG3 - s.site.approach < v then .g0
          else if v + s.site.approach ≤ s.site.limitG1 then .g1
          else if v + s.site.approach ≤ s.site.limitG2 then .g2
          else if v + s.site.approach ≤ s.site.limitG3 then .g3 else .g0) ∧
        let moved : State :=
          { taken with
            precool :=
              { s.precool with
                chiller := t.precool.chiller, offered := t.precool.offered, coolantSeen := true
                coolantCause := t.precool.coolantCause } }
        (s.precool.chiller = .pulldown → v ≤ s.site.limitG3 - s.site.approach → t = moved.makeGrants) ∧
        ((s.precool.chiller = .ready ∨ s.site.limitG3 - s.site.approach < v) → t = moved))) ∧
    (¬inWindow → (s.chan c).state = .ok → ∃ t, exec (.sampleArrival x w) s = .next t ∧ t.base = held.base ∧
      t.banks = s.banks ∧ ((∀ p, r ≠ .pDisp p ∧ r ≠ .tGas p) → t = held) ∧
      ∀ p, (r = .pDisp p ∨ r = .tGas p) → noGrantDue s → sensorFollows held t p) ∧
    (¬inWindow → (s.chan c).state ≠ .ok → exec (.sampleArrival x w) s = .next s)) ∧
  ∀ (c : Fin 32) (s : State) (d : Nat), (s.chan c).grace = some d →
    let u := s.elapse d
    let failed : State :=
      { u with
        channels := setAt u.channels c { u.chan c with state := .failed, grace := none }
        pendingFlags := u.pendingFlags ||| 0x400000#27 }
    ∃ t, exec (.graceTimerExpiry c) s = .next t ∧ t.base = failed.base ∧ t.flagPending .channelFailed = true ∧
      (∀ p, (s.chanCfg c).user = some (.pDisp p) → (s.pos p).state.filling = true → fillEnds failed t p .sensorFail) ∧
      (∀ p, (s.chanCfg c).user = some (.pDisp p) → (s.pos p).state.filling = false → noGrantDue u → t = failed) ∧
      (∀ p, (s.chanCfg c).user = some (.tGas p) → noGrantDue u → sensorFollows failed t p) ∧
      (∀ b, (s.chanCfg c).user = some (.bankP b) →
        ((s.bank b).isolated = true → t = failed) ∧ ((s.bank b).isolated = false → bankIsolates failed t b)) ∧
      (∀ b, (s.chanCfg c).user = some (.bankT b) → t = failed) ∧
      ((s.chanCfg c).user = some .supply → t.compressor.supply = .noValue ∧
        (s.compressor.supply = .noValue → t = failed) ∧
        (s.compressor.supply ≠ .noValue → t.compressor.state.motorOn = false ∧ t.flagPending .supplyLow = true)) ∧
      ((s.chanCfg c).user = some .discharge →
        ((s.compressor.state = .suspended ∨ s.compressor.state = .lockout) → t = failed) ∧
        (s.compressor.state ≠ .suspended → s.compressor.state ≠ .lockout →
          t = { failed with
            compressor :=
              { u.compressor with
                state := .lockout, activeBank := none, creditWait := false, timer := some 300000 }
            pendingFlags := failed.pendingFlags ||| 0x20000#27 })) ∧
      ((s.chanCfg c).user = some .coolant →
        let caused : State := { failed with precool := { u.precool with coolantCause := true } }
        ((s.precool.coolantCause = true ∨ s.precool.chiller = .fault) → t = caused) ∧
        (s.precool.coolantCause = false → s.precool.chiller ≠ .fault → chillerFaults caused t)) ∧
      (((s.chanCfg c).user = none ∨ (s.chanCfg c).user = some .ambient) → t = failed)

/-- R173: a raw change away from the debounced level starts the debounce timer of the line at its full time, and one back to it
stops the timer; at the end of its time the debounced level becomes the raw level, and the event acts. R40: the metrology switch
moves the trade lock, and its opening is counted; at its closing the positions make their start tests, in ascending order (the
order is the model's choice, log entry 12). R48, R94: a lifted nozzle takes an IDLE position to CALLING and a holstered one
back; at an ENDED position the ticket is DETACHED and the next one promoted. R49, R94: the coupling opens and closes the link,
makes the start test and ends a fill. R74, R155, R157: the chiller fault line takes the chiller to FAULT, and every holder loses
its slot: in FUELLING and HELD it is looked up again at G0, with PRECOOL when no profile matches; in STARTING it takes cool-wait
expired yes. -/
def Obligations.SwitchLinesAreDebouncedAndAct : Prop :=
  (∀ (line : SwitchLine) (level : Bool) (s : State),
      let x := s.debouncers.at line
      let time : Nat :=
        match line with
        | .holster p => (s.cfg p).holsterDebounce
        | .coupling p => (s.cfg p).couplingDebounce
        | .metrology | .chillerFault => 160
      ∃ d : Debouncers,
        exec (.switchRawChange line level) s = .next { s with debouncers := d } ∧
        (level = x.raw → d.at line = x) ∧
        (level ≠ x.raw → level = x.level → d.at line = ⟨x.level, level, none⟩) ∧
        (level ≠ x.raw → level ≠ x.level → d.at line = ⟨x.level, level, some time⟩) ∧
        ∀ l, l ≠ line → d.at l = s.debouncers.at l) ∧
  (∀ (line : SwitchLine) (s : State) (d : Nat), (s.debouncers.at line).timer = some d →
      let level := (s.debouncers.at line).raw
      let u : State := { s.elapse d with debouncers := (s.elapse d).debouncers.put line ⟨level, level, none⟩ }
      let c : Instr := .debounceExpiry line
      (line = .metrology → level = true →
        exec c s = .next
          ((((({ u with tradeLockOpen := false } : State).startTest 0).startTest 1).startTest 2).startTest 3)) ∧
      (line = .metrology → level = false →
        exec c s = .next
          { u with
            tradeLockOpen := true
            metrologyCount := min 65535 (u.metrologyCount + 1)
            pendingFlags := u.pendingFlags ||| 0x1000000#27 }) ∧
      (line = .chillerFault →
        (level = false → exec c s = .next { u with precool := { u.precool with faultLine := false } }) ∧
        (level = true → (u.precool.faultLine = true ∨ u.precool.chiller = .fault) →
          exec c s = .next { u with precool := { u.precool with faultLine := true } }) ∧
        (level = true → u.precool.faultLine = false → u.precool.chiller ≠ .fault →
          ∃ t, exec c s = .next t ∧
            chillerFaults { u with precool := { u.precool with faultLine := true } } t)) ∧
      ∀ p : Fin 4,
        (line = .holster p → level = false →
          ((u.pos p).state = .idle →
            exec c s = .next { u with
              positions := setAt u.positions p
                { u.pos p with
                  state := .calling
                  link := if (u.debouncers.coupling.get p).level = true ∧ (u.pos p).link.state = .off
                    then { LinkContext.off with state := .listen } else (u.pos p).link } }) ∧
          ((u.pos p).state ≠ .idle → exec c s = .next u)) ∧
        (line = .holster p → level = true →
          ((u.pos p).state = .calling →
            exec c s = .next { u with positions := setAt u.positions p { u.pos p with state := .idle } }) ∧
          ((u.pos p).state ≠ .calling → (u.pos p).state ≠ .ended → exec c s = .next u) ∧
          ((u.pos p).state = .ended → (u.pos p).active = none →
            exec c s = .next
              (({ u with positions := setAt u.positions p { u.pos p with state := .idle } } : State).promote p)) ∧
          (∀ n i k, (u.pos p).state = .ended → (u.pos p).active = some n → u.ticketSlot n = some i →
            u.tickets.get i = some k → k.state = .ended →
            exec c s = .next
              (({ u with
                  positions := setAt u.positions p { u.pos p with state := .idle, active := none }
                  tickets := setAt u.tickets i (some { k with attachment := .detached }) } : State).promote p))) ∧
        (line = .coupling p → level = true →
          let listening : State :=
            if (u.pos p).link.state = .off then
              { u with
                positions := setAt u.positions p { u.pos p with link := { LinkContext.off with state := .listen } } }
            else u
          (((u.pos p).state = .closed ∨ (u.pos p).state = .idle) → exec c s = .next u) ∧
          ((u.pos p).state = .calling → exec c s = .next (listening.startTest p)) ∧
          ((u.pos p).state ≠ .closed → (u.pos p).state ≠ .idle → (u.pos p).state ≠ .calling →
            exec c s = .next listening)) ∧
        (line = .coupling p → level = false →
          let off : State := { u with positions := setAt u.positions p { u.pos p with link := .off } }
          ((u.pos p).state.filling = true → ∃ t, exec c s = .next t ∧ fillEnds off t p .decoupled) ∧
          ((u.pos p).state.filling = false → noGrantDue u → exec c s = .next off)))

/-- R86, R63, R88, R89: a change of one meter line is a forward or a reverse quarter step by the order (0,0), (1,0), (1,1), (0,1);
four in one direction are a whole pulse, which moves the mass of the fill's ticket by the pulse weight and bills it anew, or
raises the stray count outside a fill. R87: a change of both lines is a phase fault, which counts in a fill and at 3 makes METER
active, in STARTING, FUELLING and HELD (R112). -/
def Obligations.MeterLinesCountPulses : Prop :=
  ∀ (p : Fin 4) (a b : Bool) (s : State),
    let q := s.pos p
    let c : Instr := .meterLineChange p a b
    let forward : Prop := [(false, false, true, false), (true, false, true, true), (true, true, false, true),
      (false, true, false, false)].contains (q.meterA, q.meterB, a, b) = true
    let reverse : Prop := [(true, false, false, false), (true, true, true, false), (false, true, true, true),
      (false, false, false, true)].contains (q.meterA, q.meterB, a, b) = true
    let w := s.pulseWeights.get p
    (a = q.meterA → b = q.meterB → exec c s = .next s) ∧
    (∀ step : Int, (forward ∧ step = 1 ∨ reverse ∧ step = -1) →
      let count := q.quarter + step
      let whole : Prop := count = 4 ∨ count = -4
      (¬whole →
        exec c s = .next { s with
          positions := setAt s.positions p { q with meterA := a, meterB := b, quarter := count } }) ∧
      (whole → q.state.busy = false →
        exec c s = .next { s with
          positions := setAt s.positions p
            { q with meterA := a, meterB := b, quarter := 0, stray := min 65535 (q.stray + 1) } }) ∧
      (∀ n i k, whole → q.state.busy = true → q.active = some n → s.ticketSlot n = some i →
        s.tickets.get i = some k →
        let mass := if step = 1 then min 4294967295 (k.mass + w) else k.mass - w
        exec c s = .next { s with
          positions := setAt s.positions p { q with meterA := a, meterB := b, quarter := 0 }
          tickets := setAt s.tickets i (some
            { k with
              mass := mass
              amount := min 4294967295 ((mass / 1000 * k.price.getD 0 + 50000) / 100000) }) })) ∧
    (a ≠ q.meterA → b ≠ q.meterB →
      let count := min 255 (q.phaseFaults + 1)
      let moved : Position := { q with meterA := a, meterB := b }
      let counted : State :=
        { s with positions := setAt s.positions p { moved with phaseFaults := count } }
      (q.state.busy = false → exec c s = .next { s with positions := setAt s.positions p moved }) ∧
      (q.state.busy = true → count ≠ 3 → exec c s = .next counted) ∧
      (q.state.busy = true → count = 3 → noGrantDue s →
        (q.state = .ending → exec c s = .next counted) ∧
        (∀ sub, q.state = .starting sub →
          exec c s = .next { s with
            positions := setAt s.positions p
              { moved with phaseFaults := count, factors := { q.factors with meter := true } } }) ∧
        (q.state = .fuelling → q.factors.meter = false → (s.cfg p).meter = .holdFill →
          ∃ t, exec c s = .next t ∧ fillHolds counted t p { q.factors with meter := true }) ∧
        (q.state = .fuelling → q.factors.meter = false → (s.cfg p).meter = .endFill →
          ∃ t, exec c s = .next t ∧ fillEnds counted t p .meter) ∧
        (q.state.filling = true → ∃ t, exec c s = .next t ∧ factorActivates counted t p .meter)))

/-- R91, R92 (1), (2), 12.6.6: the form of a vehicle frame and the fields that its bytes carry. -/
def Obligations.VehicleFrameLayout : Prop :=
  ∀ frame : Vector Byte 16,
    let b := frame.toArray.toList
    let bad := (b.map BitVec.toNat).sum % 256 ≠ 0 ∨ (u8 b 0).toNat / 4 % 4 = 0 ∨ (u8 b 0).toNat / 4 % 4 = 3 ∨
      (u8 b 0).toNat / 16 % 4 = 3 ∨
      ((u8 b 0).toNat % 2 = 0 ∧
        ((u16 b 5).toNat = 0 ∨ 2500 < (u16 b 5).toNat ∨
          ∃ i < 8, (u8 b (7 + i)).toNat < 0x20 ∨ 0x7E < (u8 b (7 + i)).toNat))
    (bad → parseVehicleFrame b = none) ∧
    (¬bad → parseVehicleFrame b =
      some
        { isData := decide ((u8 b 0).toNat % 2 = 1)
          bit := decide ((u8 b 0).toNat / 2 % 2 = 1)
          vehicleClass := if (u8 b 0).toNat / 4 % 4 = 1 then .h70 else .h35
          command :=
            if (u8 b 0).toNat / 16 % 4 = 0 then .run else if (u8 b 0).toNat / 16 % 4 = 1 then .halt else .abort
          pressure := (u16 b 1).toNat
          temperature := (u16 b 3).toNat
          volume := (u16 b 5).toNat
          tag := tagAt b 7 })

/-- R92 (3), R95, R96, R98: what a frame does to the link. In OFF nothing; a frame that fails its form, one in STALLED or LOST,
and a repeat are counted; an IDENT frame in LISTEN and a new DATA frame of the stored class in STREAM are taken, with the
freshness timer started; every other frame takes the link to STALLED. R99: where no fill is in progress a taken command is a
record only; in a fill ABORT ends it, HALT makes VEHICLE_HALT active, and RUN clears it: a position in STARTING then takes the
advance that waited (R58 (3); by the model's choice its variant lookup was made before, log entry 14), and one in HELD goes on to its release (R115). R97 (3), R98, R100: at the end of its freshness
time the link is LOST, with the last command absent and the stored data kept. A fill under VEHICLE_HALT ends with LINK_LOST;
R75: a fill in FUELLING or HELD without it is looked up again with comm mode NONCOMM, and ends with LINK_LOST when no profile is
found; the others go on. A violation in STREAM does the same to a fill (R98, R100). -/
def Obligations.VehicleFramesMoveTheLink : Prop :=
  (∀ (p : Fin 4) (frame : Vector Byte 16) (s : State),
      let c : Instr := .vehicleFrameArrival p frame
      let q := s.pos p
      let linked (l : LinkContext) : State := { s with positions := setAt s.positions p { q with link := l } }
      let taken (f : VehicleFrame) (l : LinkContext) : LinkContext :=
        { l with
          state := .stream
          tankPressure := some (max 0 (min 10000 f.pressure))
          tankTemperature := some (max 2000 (min 3730 f.temperature))
          lastBit := some f.bit
          expectedBit := some (!f.bit)
          lastCommand := some f.command
          freshness := some 1000 }
      let stalled : State :=
        { linked { q.link with state := .stalled, freshness := none, lastCommand := none } with
          pendingFlags := s.pendingFlags ||| (EventFlag.linkStalled p).word }
      (q.link.state = .off → exec c s = .next s) ∧
      (q.link.state ≠ .off → parseVehicleFrame frame.toArray.toList = none →
        exec c s = .next (linked { q.link with rejected := min 65535 (q.link.rejected + 1) })) ∧
      ∀ f, parseVehicleFrame frame.toArray.toList = some f →
        ((q.link.state = .stalled ∨ q.link.state = .lost) →
          exec c s = .next (linked { q.link with ignored := min 65535 (q.link.ignored + 1) })) ∧
        (q.link.state = .stream → f.isData = true → q.link.vehicleClass = some f.vehicleClass →
          q.link.expectedBit ≠ some f.bit →
          exec c s = .next (linked { q.link with repeated := min 65535 (q.link.repeated + 1) })) ∧
        (q.link.state = .listen → f.isData = true → exec c s = .next stalled) ∧
        (q.link.state = .stream → (f.isData = false ∨ q.link.vehicleClass ≠ some f.vehicleClass) →
          (q.state.filling = false → exec c s = .next stalled) ∧
          ∃ t, exec c s = .next t ∧ linkLossActs stalled t p) ∧
        ∀ l, (q.link.state = .listen ∧ f.isData = false ∧
              l = taken f { q.link with
                vehicleClass := some f.vehicleClass
                volume := some f.volume
                tag := if f.tag = Vector.replicate 8 0x20 then none else some f.tag } ∨
            q.link.state = .stream ∧ f.isData = true ∧ q.link.vehicleClass = some f.vehicleClass ∧
              q.link.expectedBit = some f.bit ∧ l = taken f q.link) →
          (q.state.filling = false → noGrantDue s → exec c s = .next (linked l)) ∧
          (q.state.filling = true → f.command = .abort →
            ∃ t, exec c s = .next t ∧ fillEnds (linked l) t p .vehicleAbort) ∧
          (∀ sub, q.state = .starting sub → f.command = .halt → noGrantDue s →
            exec c s = .next
              { s with
                positions := setAt s.positions p
                  { q with link := l, factors := { q.factors with vehicleHalt := true } } }) ∧
          (q.state = .fuelling → f.command = .halt → q.factors.vehicleHalt = false → noGrantDue s →
            ∃ t, exec c s = .next t ∧ fillHolds (linked l) t p { q.factors with vehicleHalt := true }) ∧
          ((q.state = .fuelling ∨ (∃ sub, q.state = .starting sub)) → f.command = .run → q.factors.vehicleHalt = false →
            exec c s = .next (linked l)) ∧
          (q.state = .held .demandWait → f.command = .run → q.factors.vehicleHalt = false →
            (s.cfg p).clearMode = .timedDemand → exec c s = .next ((linked l).resume p)) ∧
          (q.state.filling = true → f.command = .halt → noGrantDue s →
            ∃ t, exec c s = .next t ∧ factorActivates (linked l) t p .vehicleHalt) ∧
          (∀ r, q.state = .held r → f.command = .run → (r ≠ .demandWait ∨ (s.cfg p).clearMode ≠ .timedDemand) →
            ∃ t, exec c s = .next t ∧ factorClears (linked l) t p .vehicleHalt) ∧
          ∀ sub, q.state = .starting sub → f.command = .run → q.factors.vehicleHalt = true →
            let freed : Position := { q with link := l, factors := { q.factors with vehicleHalt := false } }
            let running : Prop := sub = .pulse ∨
              (sub = .settle ∨ sub = .leakCheck) ∧ q.substateTimer.isSome = true ∨
              sub = .coolWait ∧ q.coolWaitTimer.isSome = true
            let checked : Prop := sub = .settle ∧ q.variant = some .pulseOnly ∨ sub = .leakCheck
            (running → noGrantDue s → exec c s = .next { s with positions := setAt s.positions p freed }) ∧
            (sub = .settle → q.substateTimer = none → q.variant ≠ some .pulseOnly → noGrantDue s →
              exec c s = .next { s with
                positions := setAt s.positions p
                  { freed with state := .starting .leakCheck, substateTimer := some 5000 } }) ∧
            (checked → q.substateTimer = none →
              ∃ t, exec c s = .next t ∧ vehicleChecksAct { s with positions := setAt s.positions p freed } t p) ∧
            (sub = .coolWait → q.coolWaitTimer = none →
              ∃ t, exec c s = .next t ∧ startLookupActs { s with positions := setAt s.positions p freed } t p)) ∧
  (∀ (p : Fin 4) (s : State) (d : Nat), s.freshnessLeft p = some d →
      let c : Instr := .freshnessExpiry p
      let u := s.elapse d
      let lost : State :=
        { u with
          positions := setAt u.positions p
            { u.pos p with link := { (u.pos p).link with state := .lost, freshness := none, lastCommand := none } } }
      ∃ t, exec c s = .next t ∧ linkLossActs lost t p)

/-! ### The start sequence -/

/-- R50, R51, R52: a position whose start test fails is left alone; one whose test passes enters STARTING. Its ticket is
FUELLING with nothing counted; a FAILED P_disp channel or the lack of an eligible bank ends the fill at once, with SENSOR_FAIL
or NO_SUPPLY, else the position is in PULSE on the bank, with every count, timer and factor as R51 has it, the refill of the bank
is suspended (R129 (3), R145), and nothing else changes but by grants. R161: a position that
needs no cooling has G0; one that finds no free slot waits for it with its grade absent. R128, R129: which banks are eligible for a
position that asks for one, and the bank that is selected: the first by rated pressure and then by index that is not ACTIVE, the
ACTIVE one when no other is eligible, and none when no bank is. R162: a slot is free in READY while the holders are fewer than the
slot count. -/
def Obligations.StartTestOpensAFill : Prop :=
  ((∀ (s : State) (p : Fin 4) (leaving : Option (Fin 6)),
      selectionAnswer s p leaving (s.selectedBank p leaving) ∧
      ∀ b, s.eligible p leaving b = true ↔ bankFits s p leaving b) ∧
    (∀ (s : State) (p : Fin 4) (i : Fin 32), (s.cfg p).pDisp = some i → s.pDisp p = (s.chan i).value) ∧
    ∀ s : State, s.slotFree = true ↔
      s.precool.chiller = .ready ∧ (allPositions.filter s.precool.holders.has).length < s.site.slotCount) ∧
  ∀ (s : State) (p : Fin 4),
    let t := s.startTest p
    let passes := (s.pos p).state = .calling ∧ (∃ k, s.activeTicket p = some k ∧ k.state = .authorized) ∧
      (s.debouncers.coupling.get p).level = true ∧ s.esdLatch = false ∧ s.tradeLockOpen = false ∧ s.commissioned = true
    let failed := ∃ i, (s.cfg p).pDisp = some i ∧ (s.chan i).state = .failed
    (¬passes → t = s) ∧
    let begun : Position :=
      { s.pos p with
        state := .starting .pulse
        valve := 0
        drawBank := none
        pInit := none, variant := none, leakTolerance := none, coolWaitTimer := none, coolWaitExpired := false
        substateTimer := none
        fillTime := 0
        ramp := .cleared
        quarter := 0, phaseFaults := 0
        factors :=
          { FactorSet.empty with
            vehicleHalt := decide ((s.pos p).link.lastCommand = some .halt)
            sensor :=
              ((s.cfg p).pDisp.any fun i => decide ((s.chan i).state = .held)) ||
              ((s.cfg p).tGas.any fun i => decide ((s.chan i).state = .failed)) }
        resumeTimer := none, holdTime := 0 }
    let fuelling (k : Ticket) : Ticket :=
      { k with
        state := .fuelling, startTime := some s.clock, window := none, mass := 0, amount := 0, holdUsed := 0
        profile := none, grade := none, commMode := none, pInit := none, finalPressure := none
        lastSoc := none, peakTGas := none }
    let requested : Precool :=
      if (s.cfg p).cooling = false then { s.precool with grades := setAt s.precool.grades p (some .g0) }
      else if s.slotFree = true ∧ s.precool.waitQueue = [] then
        { s.precool with
          holders := s.precool.holders.put p true
          grades := setAt s.precool.grades p (some s.precool.offered) }
      else
        { s.precool with
          waitQueue := s.precool.waitQueue ++ [p]
          grades := setAt s.precool.grades p none }
    let entered : State :=
      { s with
        tickets := (s.modActive p fuelling).tickets
        positions := setAt s.positions p begun
        precool := requested }
    (passes →
      (failed → fillEnds entered t p .sensorFail) ∧
      (¬failed → s.selectedBank p none = none → fillEnds entered t p .noSupply) ∧
      (∀ b, ¬failed → s.selectedBank p none = some b →
        let pulsing : Position :=
          { begun with valve := s.site.pulseOpening, drawBank := some b, substateTimer := some s.site.pulseTime }
        let started : State :=
          { entered with positions := setAt s.positions p pulsing, compressor := (entered.suspendForDraw b).compressor }
        t = started.makeGrants ∧ (noGrantDue s → t = started) ∧
        t.pos p = pulsing ∧ ticketBecomes s t p fuelling ∧
        ((s.cfg p).cooling = false → noGrantDue s → t.grade p = some .g0) ∧
        ((s.cfg p).cooling = true → s.slotFree = false →
          t.grade p = none ∧ t.precool.waitQueue = s.precool.waitQueue ++ [p] ∧
          t.precool.holders = s.precool.holders) ∧
        ((s.cfg p).cooling = true → s.slotFree = true → s.precool.waitQueue = [] →
          t.grade p = some s.precool.offered ∧ t.precool.holders = s.precool.holders.put p true ∧
          t.precool.waitQueue = [])) ∧
      t.base = s.base ∧ t.banks = s.banks)

/-- R53, R54, R55, R58: the ends of the pulse, of the settle time and of the leak check. The pulse ends with the valve closed
and the bank left. After the settle time P_init is taken, a tank below 50 ends the fill, and the variant lookup decides how it
goes on. After the leak-check time a drop above the tolerance ends the fill, and the vehicle checks are made; with start variant
PULSE_ONLY they are made at the end of the settle time. VEHICLE_HALT makes the advance wait; that the variant lookup is
made at the end of the settle time all the same, and does not wait with the advance, is the model's choice (log entry 14).
R56, R57: a position that needs no slot, or has one, passes COOL_WAIT and makes its start lookup in the same step. R54 (1), R69: the
variant lookup finds the first entry in index order of the class, of grade G1 or G0 by the cooling requirement, and of the ambient.
Premise of the clauses that go on: no grant is due. -/
def Obligations.StartSequenceAdvances : Prop :=
  (∀ (s : State) (p : Fin 4) (ambient : Nat), ambientRead s ambient →
    ∃ found, firstMatch s (variantMatches s p ambient) found ∧ s.lookupVariant p = found.map Prod.snd) ∧
  ∀ (p : Fin 4) (s : State) (d : Nat),
    let u := s.elapse d
    let q := u.pos p
    (s.substateLeft p .pulse = some d →
      exec (.pulseTimeEnd p) s =
        .next { u with
          positions := setAt u.positions p
            { q with state := .starting .settle, valve := 0, drawBank := none, substateTimer := some 2000 }
          compressor := (u.drawReported p).compressor
          pendingFlags := (u.drawReported p).pendingFlags }) ∧
    (s.substateLeft p .settle = some d →
      let v := u.pDisp p
      let variant := ((u.lookupVariant p).map FillProfile.variant).getD .pulseCheck
      let measured : State :=
        { u.modActive p fun k => { k with pInit := some v } with
          positions := setAt u.positions p { q with pInit := some v, substateTimer := none } }
      let decided : Position :=
        { q with
          pInit := some v
          variant := some variant
          leakTolerance := some (((u.lookupVariant p).map FillProfile.leakTolerance).getD u.site.leakTolerance)
          substateTimer := none }
      (v < 50 → ∃ t, exec (.settleTimeEnd p) s = .next t ∧ fillEnds measured t p .tankUnsafe) ∧
      (50 ≤ v → q.factors.vehicleHalt = true → noGrantDue u →
        exec (.settleTimeEnd p) s = .next { measured with positions := setAt u.positions p decided }) ∧
      (50 ≤ v → q.factors.vehicleHalt = false → variant = .pulseCheck → noGrantDue u →
        exec (.settleTimeEnd p) s =
          .next { measured with
            positions := setAt u.positions p
              { decided with state := .starting .leakCheck, substateTimer := some 5000 } }) ∧
      (50 ≤ v → q.factors.vehicleHalt = false → variant = .pulseOnly →
        ∃ t, exec (.settleTimeEnd p) s = .next t ∧
          vehicleChecksAct { measured with positions := setAt u.positions p decided } t p)) ∧
    (s.substateLeft p .leakCheck = some d →
      let leaks := u.pDisp p + q.leakTolerance.getD 0 < q.pInit.getD 0
      let waiting : State := { u with positions := setAt u.positions p { q with substateTimer := none } }
      let link : LinkContext :=
        if q.link.state = .listen then { q.link with state := .lost, freshness := none, lastCommand := none } else q.link
      let checked : State :=
        { u with positions := setAt u.positions p { q with substateTimer := none, link := link } }
      let expected := (u.activeTicket p).bind Ticket.expectedTag
      let verdict : Option EndReason :=
        if expected.isSome = true ∧ q.link.state = .stream ∧ q.link.tag ≠ expected then some .tagMismatch
        else if expected.isSome = true ∧ q.link.state ≠ .stream then some .tagUnverified
        else if q.link.state = .stream ∧ q.link.vehicleClass ≠ some (u.cfg p).nozzleClass then some .classMismatch
        else none
      (leaks → ∃ t, exec (.leakCheckTimeEnd p) s = .next t ∧ fillEnds waiting t p .leak) ∧
      (¬leaks → q.factors.vehicleHalt = true → noGrantDue u →
        exec (.leakCheckTimeEnd p) s = .next waiting) ∧
      (∀ r, ¬leaks → q.factors.vehicleHalt = false → verdict = some r →
        ∃ t, exec (.leakCheckTimeEnd p) s = .next t ∧ fillEnds checked t p r) ∧
      (¬leaks → q.factors.vehicleHalt = false → verdict = none → (u.cfg p).cooling = true →
        u.precool.holders.has p = false → q.coolWaitExpired = false → noGrantDue u →
        exec (.leakCheckTimeEnd p) s =
          .next { u with
            positions := setAt u.positions p
              { q with
                state := .starting .coolWait
                substateTimer := none
                coolWaitTimer := some (u.site.coolWaitTime * 1000)
                link := link } }) ∧
      (¬leaks → q.factors.vehicleHalt = false →
        ∃ t, exec (.leakCheckTimeEnd p) s = .next t ∧ vehicleChecksAct waiting t p))

/-- R56 (5), R57, R163 (2): at the end of the cool wait the position leaves the wait queue with grade G0. Under VEHICLE_HALT it
stays; else it makes the profile lookup: with no profile the fill ends with NO_COOLING, with P_init at or above the end pressure
with START_FULL; with no active factor and an eligible bank the position is in FUELLING, its first control step 250 ms away; an
active factor, or the lack of a bank, holds or ends the fill by its disposition. R69, R70: a profile lookup finds the first entry
in index order of the class, the grade, the comm mode and the ambient, and in COMM of the tank volume; the ambient is the worst-case
one while its channel is FAILED or there is none. -/
def Obligations.CoolWaitEndsInTheStartLookup : Prop :=
  (∀ (s : State) (p : Fin 4) (grade : Option Grade) (mode : CommMode) (ambient : Nat), ambientRead s ambient →
    firstMatch s (profileMatches s p grade mode ambient) (s.lookupProfile p grade mode)) ∧
  ∀ (p : Fin 4) (s : State) (d : Nat), s.coolWaitLeft p = some d →
    let c : Instr := .coolWaitExpiry p
    let u := s.elapse d
    let q := u.pos p
    let mode : CommMode := if q.link.state = .stream then .comm else .noncomm
    let found := u.lookupProfile p (some .g0) mode
    let waited : State :=
      { u with
        positions := setAt u.positions p { q with coolWaitTimer := none, coolWaitExpired := true }
        precool :=
          { u.precool with
            waitQueue := u.precool.waitQueue.erase p
            grades := setAt u.precool.grades p (some .g0) } }
    (q.factors.vehicleHalt = true → noGrantDue u → exec c s = .next waited) ∧
    (q.factors.vehicleHalt = false → ∃ t, exec c s = .next t ∧ startLookupActs waited t p) ∧
    (q.factors.vehicleHalt = false → found = none →
      ∃ t, exec c s = .next t ∧ fillEnds waited t p .noCooling) ∧
    (∀ i f, q.factors.vehicleHalt = false → found = some (i, f) → f.endPressure ≤ q.pInit.getD 0 →
      ∃ t, exec c s = .next t ∧ fillEnds waited t p .startFull) ∧
    ∀ i f b, q.factors = .empty → found = some (i, f) → q.pInit.getD 0 < f.endPressure →
      u.selectedBank p none = some b →
      ∃ t, exec c s = .next t ∧ t.base = u.base ∧ t.banks = u.banks ∧
        (u.precool.waitQueue.Nodup → t.grade p = some .g0) ∧
        t.pos p =
          { q with
            state := .fuelling
            valve := 0
            drawBank := some b
            coolWaitTimer := none
            coolWaitExpired := true
            substateTimer := none
            ramp :=
              { q.ramp with
                profile := some i, base := 10 * q.pInit.getD 0, time := 0, rate := f.rampRate, taper := false
                target := none, starved := 0, lagging := 0, stepTimer := some 250 } } ∧
        ∀ n j k, q.active = some n → u.ticketSlot n = some j → u.tickets.get j = some k →
          (∀ o, o ≠ p → (u.pos o).active ≠ some n) →
          t.tickets.get j = some { k with profile := some i, grade := some .g0, commMode := some mode }

/-! ### The fill -/

/-- R76 to R84: one control step. The ramp time rises by 250 ms, the target follows the ramp up to ten times the end pressure,
and the valve moves by the error times the gain over 256, truncated and clamped. The first true comparator, C1 to C6, ends the
fill. Else the starved and lagging counts are kept; at 2 or 4 another bank is selected, whose refill is suspended before and the
emptied draw set reported after (R129 (3), R130 (3), R131, R145), or BANK_LOW holds or ends the fill; taper quarters the rate;
and the step timer starts again. Premise of the clauses on the whole state: no grant is due. -/
def Obligations.ControlStepRunsTheFill : Prop :=
  ∀ (p : Fin 4) (s : State) (d : Nat) (f : FillProfile), s.stepLeft p = some d →
    let c : Instr := .controlStep p
    let u := s.elapse d
    let q := u.pos p
    (∃ i, q.ramp.profile = some i ∧ u.profiles.get i = some f) →
    let pressure := u.pDisp p
    let time := q.ramp.time + 250
    let target := min (q.ramp.base + q.ramp.rate * time / 1000) (10 * f.endPressure)
    let error : Int := (target : Int) - 10 * pressure
    let valve : Nat := (max 0 (min 1000 ((q.valve : Int) + max (-40) (min 40 ((error * f.gain).tdiv 256))))).toNat
    let soc : Option Nat :=
      match q.link.state, q.link.tankPressure, q.link.tankTemperature with
      | .stream, some tp, some tt =>
        some (if (u.cfg p).nozzleClass = .h70 then min 1999 (1000 * tp * 4121 / (7000 * (tt + tp * 177 / 1000)))
          else min 1999 (1000 * tp * 3501 / (3500 * (tt + tp * 177 / 1000))))
      | _, _, _ => none
    let ramp : RampContext := { q.ramp with time := time, target := some target, error := error }
    let moved : State :=
      { (match soc with
          | some x => u.modActive p fun k => { k with lastSoc := some x }
          | none => u) with
        positions := setAt u.positions p { q with valve := valve, ramp := ramp } }
    let ticket := u.activeTicket p
    let minutes := if (u.cfg p).nozzleClass = .h70 then u.site.maxFillH70 else u.site.maxFillH35
    let comparators : List (Prop × EndReason) :=
      [(f.endPressure ≤ pressure, .endPressure),
       ((∃ x k, soc = some x ∧ f.comm = some k ∧ k.endSoc ≤ x), .endSoc),
       ((∃ x k, soc.isSome = true ∧ q.link.tankTemperature = some x ∧ f.comm = some k ∧ k.tankLimit ≤ x), .tankHot),
       ((∃ k x, ticket = some k ∧ k.presetMass = some x ∧ x ≤ k.mass / 1000), .presetMass),
       ((∃ k x, ticket = some k ∧ k.presetAmount = some x ∧ x ≤ k.amount), .presetAmount),
       (minutes * 60000 ≤ q.fillTime, .fillTime)]
    let starved := ∀ b, q.drawBank = some b → (u.bank b).p < pressure + f.switchDiff
    let starvedCount : Nat → Prop := fun n => starved ∧ n = q.ramp.starved + 1 ∨ ¬starved ∧ n = 0
    let lagCount := if valve = 1000 ∧ 500 ≤ error then q.ramp.lagging + 1 else 0
    let tapers := q.ramp.taper = false ∧ ((∃ x, soc = some x ∧ f.taperSoc ≤ x) ∨ f.endPressure ≤ pressure + 300)
    let tapered (r : RampContext) : RampContext → Prop := fun x =>
      tapers ∧ x = { r with base := target, time := 0, rate := max 10 (r.rate / 4), taper := true } ∨ ¬tapers ∧ x = r
    let left : State := { u with positions := setAt u.positions p { q with drawBank := none } }
    let switched (b : Fin 6) : State :=
      ({ left.suspendForDraw b with positions := setAt u.positions p { q with drawBank := some b } } : State).reportLeft
        q.drawBank
    (∀ before test r after, comparators = before ++ (test, r) :: after → (∀ x ∈ before, ¬x.1) → test →
      ∃ t, exec c s = .next t ∧ fillEnds moved t p r) ∧
    ((∀ x ∈ comparators, ¬x.1) → ∀ n, starvedCount n →
      (n < 2 → lagCount < 4 → noGrantDue u →
        ∃ x, tapered { ramp with starved := n, lagging := lagCount } x ∧
          exec c s =
            .next { moved with
              positions := setAt u.positions p
                { q with valve := valve, ramp := { x with stepTimer := some 250 } } }) ∧
      (∀ b, (2 ≤ n ∨ 4 ≤ lagCount) → u.selectedBank p q.drawBank = some b →
        ∃ t x, tapered { ramp with starved := 0, lagging := 0 } x ∧ exec c s = .next t ∧ t.base = u.base ∧
          t.banks = u.banks ∧ t.compressor.activeBank ≠ some b ∧
          t.pos p = { q with valve := valve, drawBank := some b, ramp := { x with stepTimer := some 250 } } ∧
          (∀ o, o ≠ p → (u.pos o).state ≠ .starting .coolWait → t.pos o = u.pos o) ∧
          (noGrantDue u →
            t = { moved with
              positions := setAt u.positions p
                { q with valve := valve, drawBank := some b, ramp := { x with stepTimer := some 250 } }
              compressor := (switched b).compressor
              pendingFlags := (switched b).pendingFlags })) ∧
      ((2 ≤ n ∨ 4 ≤ lagCount) → u.selectedBank p q.drawBank = none → q.factors.bankLow = false →
        let counted : State :=
          { moved with
            positions := setAt u.positions p
              { q with valve := valve, ramp := { ramp with starved := n, lagging := lagCount } } }
        ((u.cfg p).bankLow = .endFill → ∃ t, exec c s = .next t ∧ fillEnds counted t p .bankLow) ∧
        ((u.cfg p).bankLow = .holdFill →
          ∃ t, exec c s = .next t ∧ t.waiting.has p = true ∧ t.flagPending (.held p) = true ∧
            t.pos p = heldPosition
              { q with ramp := { ramp with starved := n, lagging := lagCount } }
              { q.factors with bankLow := true } ∧
            (noGrantDue u → ∃ v, fillHolds counted v p { q.factors with bankLow := true } ∧
              t = { v with waiting := u.waiting.put p true }))))

/-- R12 (3) to (6), R13 (1), R61: the end of the vent time. The ticket is ENDED with the clock and the last P_disp value,
FILL_ENDED is raised and the position is ENDED with no part of a pulse left; with the nozzle holstered it goes on to IDLE, the
ticket is DETACHED and the next one promoted. R115: at the end of the resume delay a TIMED position resumes, and a TIMED_DEMAND
position waits for a demand. R117: each whole second of the hold accumulator is written into the ticket; when it reaches the
maximum hold total the ticket shows that total and the fill ends with HOLD_EXPIRED. -/
def Obligations.VentAndHoldTimersAct : Prop :=
  (∀ (p : Fin 4) (s : State) (d n : Nat) (i : Fin 32) (k : Ticket), s.ventLeft p = some d →
      let u := s.elapse d
      let done : Ticket :=
        { k with state := .ended, endTime := some u.clock, finalPressure := some (u.pDisp p) }
      let flags := u.pendingFlags ||| (EventFlag.fillEnded p).word
      (u.pos p).active = some n → u.ticketSlot n = some i → u.tickets.get i = some k →
        ((u.debouncers.holster.get p).level = false →
          exec (.ventTimeEnd p) s =
            .next { u with
              positions := setAt u.positions p { u.pos p with state := .ended, substateTimer := none, quarter := 0 }
              tickets := setAt u.tickets i (some done)
              pendingFlags := flags }) ∧
        ((u.debouncers.holster.get p).level = true →
          exec (.ventTimeEnd p) s =
            .next (({ u with
              positions := setAt u.positions p
                { u.pos p with state := .idle, substateTimer := none, quarter := 0, active := none }
              tickets := setAt u.tickets i (some { done with attachment := .detached })
              pendingFlags := flags } : State).promote p))) ∧
  (∀ (p : Fin 4) (s : State) (d : Nat),
      let u := s.elapse d
      (s.delayLeft p = some d →
        ((s.cfg p).clearMode = .timed →
          exec (.resumeDelayExpiry p) s =
            .next (({ u with positions := setAt u.positions p { u.pos p with resumeTimer := none } } : State).resume p)) ∧
        ((s.cfg p).clearMode = .timedDemand →
          exec (.resumeDelayExpiry p) s =
            .next { u with
              positions := setAt u.positions p { u.pos p with state := .held .demandWait, resumeTimer := none } })) ∧
      ∀ n i k, (u.pos p).active = some n → u.ticketSlot n = some i → u.tickets.get i = some k →
        (s.holdSecondLeft p = some d →
          exec (.holdSecondElapsed p) s =
            .next { u with tickets := setAt u.tickets i (some { k with holdUsed := (u.pos p).holdTime / 1000 }) }) ∧
        (s.holdTotalLeft p = some d →
          let total : State := { u with tickets := setAt u.tickets i (some { k with holdUsed := (s.cfg p).maxHold }) }
          ((s.pos p).holdTime ≤ (s.cfg p).maxHold * 1000 → (u.pos p).holdTime = (s.cfg p).maxHold * 1000) ∧
          ∃ t, exec (.holdTotalExpiry p) s = .next t ∧ fillEnds total t p .holdExpired))

/-- R73, R109, R165 (3), (4): at the end of the fallback window GRADE_FALLBACK is raised and the position is looked up at the
grade one step warmer. With a profile the ramp is rebased on it, the grade is the warmer one, PRECOOL is clear, and the window
starts again while the last T_gas value is above the new limit; with none the grade stands and PRECOOL holds or ends the fill. -/
def Obligations.FallbackWarmsTheGrade : Prop :=
  ∀ (p : Fin 4) (s : State) (d : Nat) (g : Grade),
    s.precool.fallback.get p = some d → s.grade p = some g → (s.pos p).state = .fuelling →
    (s.pos p).factors = .empty →
    let u := s.elapse d
    let warmer : Grade := if g = .g1 then .g2 else if g = .g2 then .g3 else .g0
    let limit : Option Nat :=
      if warmer = .g2 then some s.site.limitG2 else if warmer = .g3 then some s.site.limitG3 else none
    let mode : CommMode := if (s.pos p).link.state = .stream then .comm else .noncomm
    let found := u.lookupProfile p (some warmer) mode
    let stopped : State :=
      { u with
        precool := { u.precool with fallback := setAt u.precool.fallback p none }
        pendingFlags := u.pendingFlags ||| 0x200000#27 }
    (∀ i f, found = some (i, f) →
      exec (.fallbackExpiry p) s =
        .next { u.modActive p fun k => { k with profile := some i, grade := some warmer, commMode := some mode } with
          positions := setAt u.positions p
            { u.pos p with
              ramp :=
                { (u.pos p).ramp with
                  profile := some i, base := 10 * u.pDisp p, time := 0, rate := f.rampRate, taper := false
                  target := none, starved := 0, lagging := 0 } }
          precool :=
            { u.precool with
              grades := setAt u.precool.grades p (some warmer)
              fallback := setAt u.precool.fallback p
                (if limit.any fun l => decide (l < u.tGas p) then some (s.site.fallbackWindow * 1000) else none) }
          pendingFlags := u.pendingFlags ||| 0x200000#27 }) ∧
    (found = none → (s.cfg p).precool = .holdFill → noGrantDue u →
      ∃ t, exec (.fallbackExpiry p) s = .next t ∧ fillHolds stopped t p { FactorSet.empty with precool := true }) ∧
    (found = none → (s.cfg p).precool = .endFill →
      ∃ t, exec (.fallbackExpiry p) s = .next t ∧ fillEnds stopped t p .precool)

/-- R141, R143, R144 (3), R147 (2), R150 (3): the timers of the compressor. At the end of the start time the first queued bank
in queue order that no position draws on becomes ACTIVE, and with none the compressor is UNLOADED; at the end of the unloaded
time it is STOPPED without a start test. At the end of the lockout time a hot or FAILED discharge starts the time again, and
otherwise the compressor is STOPPED and makes its start test. A credit returns when its time is reached. -/
def Obligations.CompressorTimersAct : Prop :=
  ∀ (s : State) (d : Nat),
    let u := s.elapse d
    let drawn (b : Fin 6) : Prop := ∃ p, (s.pos p).drawBank = some b
    (s.compressorLeft .starting = some d → s.compressor.activeBank = none →
      (∀ before b after, s.compressor.queue = before ++ b :: after → (∀ x ∈ before, drawn x) → ¬drawn b →
        exec .startTimeEnd s =
          .next { u with compressor := { u.compressor with state := .running, activeBank := some b, timer := none } }) ∧
      ((∀ b ∈ s.compressor.queue, drawn b) →
        exec .startTimeEnd s =
          .next { u with
            compressor := { u.compressor with state := .unloaded, activeBank := none, timer := some 30000 } })) ∧
    (s.compressorLeft .unloaded = some d →
      exec .unloadedTimeEnd s = .next { u with compressor := { u.compressor with state := .stopped, timer := none } }) ∧
    (s.compressorLeft .lockout = some d →
      let hot := ∃ i, s.roleChannel .discharge = some i ∧ (s.chan i).taken = true ∧
        ((s.chan i).state = .failed ∨ s.site.dischargeLimit < (s.chan i).value)
      (hot → exec .lockoutTimeEnd s = .next { u with compressor := { u.compressor with timer := some 300000 } }) ∧
      (¬hot →
        exec .lockoutTimeEnd s =
          .next ({ u with compressor := { u.compressor with state := .stopped, timer := none } } : State).compressorStartTest)) ∧
    ∀ rest, s.compressor.returns = d :: rest →
      exec .creditReturn s =
        .next ({ u with
          compressor :=
            { u.compressor with
              credits := s.compressor.credits + 1
              returns := rest.map fun x => x - d } } : State).compressorStartTest

/-! ### Money -/

/-- R89: the billing formula rounds half a minor unit upward: the amount is the whole number whose distance from the price times the
grams is least, unless it saturates. -/
def Obligations.BillingRoundsHalfUp : Prop :=
  ∀ (k : Ticket) (g price : Nat), g = k.grams → k.price = some price →
    (k.billed < 4294967295 → 100000 * k.billed ≤ g * price + 50000 ∧ g * price + 50000 < 100000 * (k.billed + 1)) ∧
    k.billed ≤ 4294967295 ∧ (k.billed = 4294967295 ↔ 4294967295 * 100000 ≤ g * price + 50000)

/-! ### What every step keeps -/

/-- R147: every step keeps the number of free credits plus the number of return times at six, with the return times in order and
none later than 600 s. -/
def Obligations.StepKeepsTheCredits : Prop :=
  ∀ s t : State, creditsKept s → step s = .next t → creditsKept t

/-- R46: every step keeps the relation of the states and the draws: outside FUELLING and PULSE a valve is at 0 and no bank is drawn,
and in them one bank is; no factor is active in FUELLING and while a hold waits for its delay or its demand. -/
def Obligations.StepKeepsTheDraws : Prop :=
  ∀ s t : State, drawsKept s → step s = .next t → drawsKept t

/-- R137, R139, R141, R148, R151: every step keeps the refill queue in its order, each bank once, in service and not isolated; the
ACTIVE bank is queued and not drawn and stands exactly in RUNNING; the motor runs only with a CLEAR supply and no ESD cause. -/
def Obligations.StepKeepsTheRefill : Prop :=
  ∀ s t : State, refillKept s → step s = .next t → refillKept t

/-- R161 to R163: every step keeps the holders within the slot count, the waiters in STARTING without a slot or a grade, and no
grant due. -/
def Obligations.StepKeepsTheSlots : Prop :=
  ∀ s t : State, slotsKept s → step s = .next t → slotsKept t

/-- R3 to R5, R8, R13, R20, R106: every step keeps ticket numbers distinct, the attachment of each ticket as the slots of its
position refer to it, no slot in use while decommissioned, a ticket FUELLING exactly while it is ACTIVE at a position in a fill,
a window only on an ACTIVE, AUTHORIZED ticket, and the hold time of a FUELLING ticket equal to the whole seconds of the hold
accumulator. -/
def Obligations.StepKeepsTheTickets : Prop :=
  ∀ s t : State, ticketsKept s → step s = .next t → ticketsKept t

/-- R12, R25, R26: every step keeps each account's held total equal to the holds of the tickets that name it, each named account
in the table, each amount equal to the billing formula of its ticket, and the status of each account in step with its debt.
Premise: the relations of the tickets, which every step keeps too. -/
def Obligations.StepKeepsTheLedger : Prop :=
  ∀ s t : State, ledgerKept s → ticketsKept s → step s = .next t → ledgerKept t

/-- R186 (and log entry 8 for the retained values): the machine right after reset has every relation that the steps keep. -/
def Obligations.ResetHasTheKeptRelations : Prop :=
  creditsKept State.reset ∧ drawsKept State.reset ∧ refillKept State.reset ∧ slotsKept State.reset ∧
  ticketsKept State.reset ∧ ledgerKept State.reset
end

