-- ==== Sys2Proof/Laws/Tables.lean ====
section
/-! SUPPORT. What the table and set operations of Machine/Ops.lean do, entry by entry. -/

namespace Sys2Proof.Machine

section Tables
variable {α β : Type} {n : Nat}

@[simp] theorem get_setAt_self (v : Vector α n) (i : Fin n) (a : α) : (setAt v i a).get i = a := by
  change (v.set i.val a i.isLt)[i.val] = a
  simp

@[simp] theorem get_setAt_ne (v : Vector α n) {i j : Fin n} (a : α) (h : j ≠ i) :
    (setAt v i a).get j = v.get j := by
  have hij : i.val ≠ j.val := fun e => h (Fin.ext e.symm)
  change (v.set i.val a i.isLt)[j.val] = v[j.val]
  simp [Vector.getElem_set_ne, hij]

/-- A table with one entry replaced, read at any entry. -/
theorem get_setAt (v : Vector α n) (i j : Fin n) (a : α) :
    (setAt v i a).get j = if j = i then a else v.get j := by
  split
  · next h => subst h; simp
  · next h => simp [h]

@[simp] theorem get_modAt_self (v : Vector α n) (i : Fin n) (f : α → α) : (modAt v i f).get i = f (v.get i) := by
  simp [modAt]

@[simp] theorem get_modAt_ne (v : Vector α n) {i j : Fin n} (f : α → α) (h : j ≠ i) :
    (modAt v i f).get j = v.get j := by simp [modAt, h]

/-- A table with one entry changed, read at any entry. -/
theorem get_modAt (v : Vector α n) (i j : Fin n) (f : α → α) :
    (modAt v i f).get j = if j = i then f (v.get i) else v.get j := by
  simp [modAt, get_setAt]

@[simp] theorem get_mapAll (f : α → β) (v : Vector α n) (i : Fin n) : (mapAll f v).get i = f (v.get i) := by
  change (mapAll f v)[i.val] = f v[i.val]
  simp [mapAll]

@[simp] theorem get_replicate (a : α) (i : Fin n) : (Vector.replicate n a).get i = a := by
  simp [Vector.get]

/-- Two tables with equal entries are equal. -/
theorem table_ext {v w : Vector α n} (h : ∀ i, v.get i = w.get i) : v = w := by
  apply Vector.ext
  intro i hi
  simpa [Vector.get] using h ⟨i, hi⟩

theorem setAt_get_self (v : Vector α n) (i : Fin n) : setAt v i (v.get i) = v := by
  refine table_ext fun j => ?_
  rw [get_setAt]; split
  · next h => rw [h]
  · rfl

theorem mapAll_id (v : Vector α n) : mapAll (fun x => x) v = v := table_ext fun i => by simp

/-- Where a slot is found, its record satisfies the test. -/
theorem findSlot_some {v : Vector (Option α) n} {p : α → Bool} {i : Fin n} (h : findSlot v p = some i) :
    ∃ a, v.get i = some a ∧ p a = true := by
  have := List.find?_some h
  simpa [Option.any_eq_true] using this

/-- Where no slot is found, no record satisfies the test. -/
theorem findSlot_none {v : Vector (Option α) n} {p : α → Bool} :
    findSlot v p = none ↔ ∀ i a, v.get i = some a → p a = false := by
  simp only [findSlot, List.find?_eq_none, List.mem_finRange, true_implies]
  constructor
  · intro h i a ha
    have := h i
    simpa [ha] using this
  · intro h i
    cases hv : v.get i with
    | none => simp
    | some a => simp [h i a hv]

/-- The free slot is free. -/
theorem freeSlot_some {v : Vector (Option α) n} {i : Fin n} (h : freeSlot v = some i) : v.get i = none := by
  have := List.find?_some h
  simpa using this

/-- With no free slot, every slot holds a record. -/
theorem freeSlot_none {v : Vector (Option α) n} (h : freeSlot v = none) (i : Fin n) : (v.get i).isSome = true := by
  have h' := List.find?_eq_none.1 h i (List.mem_finRange i)
  cases hv : v.get i with
  | none => simp [hv] at h'
  | some a => rfl

end Tables

/-! ### Sets -/

@[simp] theorem PosSet.has_empty (p : Fin 4) : PosSet.empty.has p = false := by
  match p with
  | 0 | 1 | 2 | 3 => rfl

/-- A position set with one membership written, read at any position. -/
theorem PosSet.has_put (s : PosSet) (p q : Fin 4) (b : Bool) :
    (s.put p b).has q = if q = p then b else s.has q := by
  match p, q with
  | 0, 0 | 0, 1 | 0, 2 | 0, 3 | 1, 0 | 1, 1 | 1, 2 | 1, 3 | 2, 0 | 2, 1 | 2, 2 | 2, 3 | 3, 0 | 3, 1 | 3, 2 | 3, 3 => rfl

/-- A factor set with one factor written, read at any factor. -/
theorem FactorSet.has_put (s : FactorSet) (f g : Factor) (b : Bool) :
    (s.put f b).has g = if g = f then b else s.has g := by
  cases f <;> cases g <;> rfl

@[simp] theorem FactorSet.has_empty (f : Factor) : FactorSet.empty.has f = false := by cases f <;> rfl

/-- No factor is active exactly when each is inactive. -/
theorem FactorSet.isEmpty_iff (s : FactorSet) : s.isEmpty = true ↔ s = .empty := by
  obtain ⟨a, b, c, d, e, f⟩ := s
  cases a <;> cases b <;> cases c <;> cases d <;> cases e <;> cases f <;> decide

end Sys2Proof.Machine
end

