-- ==== Sys2Proof/Laws/State.lean ====
section
/-! SUPPORT. What the updates of the state leave in each of its fields: one lemma for each field and update. -/

namespace Sys2Proof.Machine

variable (s : State)

/-! ### State.modPos -/

@[simp] theorem modPos_site (q : Fin 4) (f : Position → Position) : (s.modPos q f).site = s.site := rfl
@[simp] theorem modPos_positionConfig (q : Fin 4) (f : Position → Position) : (s.modPos q f).positionConfig = s.positionConfig := rfl
@[simp] theorem modPos_profiles (q : Fin 4) (f : Position → Position) : (s.modPos q f).profiles = s.profiles := rfl
@[simp] theorem modPos_bankConfig (q : Fin 4) (f : Position → Position) : (s.modPos q f).bankConfig = s.bankConfig := rfl
@[simp] theorem modPos_channelConfig (q : Fin 4) (f : Position → Position) : (s.modPos q f).channelConfig = s.channelConfig := rfl
@[simp] theorem modPos_terminals (q : Fin 4) (f : Position → Position) : (s.modPos q f).terminals = s.terminals := rfl
@[simp] theorem modPos_accounts (q : Fin 4) (f : Position → Position) : (s.modPos q f).accounts = s.accounts := rfl
@[simp] theorem modPos_priceH70 (q : Fin 4) (f : Position → Position) : (s.modPos q f).priceH70 = s.priceH70 := rfl
@[simp] theorem modPos_priceH35 (q : Fin 4) (f : Position → Position) : (s.modPos q f).priceH35 = s.priceH35 := rfl
@[simp] theorem modPos_pulseWeights (q : Fin 4) (f : Position → Position) : (s.modPos q f).pulseWeights = s.pulseWeights := rfl
@[simp] theorem modPos_metrologyCount (q : Fin 4) (f : Position → Position) : (s.modPos q f).metrologyCount = s.metrologyCount := rfl
@[simp] theorem modPos_tickets (q : Fin 4) (f : Position → Position) : (s.modPos q f).tickets = s.tickets := rfl
@[simp] theorem modPos_ticketCounter (q : Fin 4) (f : Position → Position) : (s.modPos q f).ticketCounter = s.ticketCounter := rfl
@[simp] theorem modPos_clock (q : Fin 4) (f : Position → Position) : (s.modPos q f).clock = s.clock := rfl
@[simp] theorem modPos_commissioned (q : Fin 4) (f : Position → Position) : (s.modPos q f).commissioned = s.commissioned := rfl
@[simp] theorem modPos_banks (q : Fin 4) (f : Position → Position) : (s.modPos q f).banks = s.banks := rfl
@[simp] theorem modPos_waiting (q : Fin 4) (f : Position → Position) : (s.modPos q f).waiting = s.waiting := rfl
@[simp] theorem modPos_compressor (q : Fin 4) (f : Position → Position) : (s.modPos q f).compressor = s.compressor := rfl
@[simp] theorem modPos_precool (q : Fin 4) (f : Position → Position) : (s.modPos q f).precool = s.precool := rfl
@[simp] theorem modPos_tradeLockOpen (q : Fin 4) (f : Position → Position) : (s.modPos q f).tradeLockOpen = s.tradeLockOpen := rfl
@[simp] theorem modPos_channels (q : Fin 4) (f : Position → Position) : (s.modPos q f).channels = s.channels := rfl
@[simp] theorem modPos_rejectedSamples (q : Fin 4) (f : Position → Position) : (s.modPos q f).rejectedSamples = s.rejectedSamples := rfl
@[simp] theorem modPos_debouncers (q : Fin 4) (f : Position → Position) : (s.modPos q f).debouncers = s.debouncers := rfl
@[simp] theorem modPos_esdLatch (q : Fin 4) (f : Position → Position) : (s.modPos q f).esdLatch = s.esdLatch := rfl
@[simp] theorem modPos_esdLine (q : Fin 4) (f : Position → Position) : (s.modPos q f).esdLine = s.esdLine := rfl
@[simp] theorem modPos_pendingFlags (q : Fin 4) (f : Position → Position) : (s.modPos q f).pendingFlags = s.pendingFlags := rfl
@[simp] theorem modPos_receiver (q : Fin 4) (f : Position → Position) : (s.modPos q f).receiver = s.receiver := rfl
@[simp] theorem modPos_inputBuffer (q : Fin 4) (f : Position → Position) : (s.modPos q f).inputBuffer = s.inputBuffer := rfl
@[simp] theorem modPos_discardedFrames (q : Fin 4) (f : Position → Position) : (s.modPos q f).discardedFrames = s.discardedFrames := rfl
@[simp] theorem modPos_bufferOverruns (q : Fin 4) (f : Position → Position) : (s.modPos q f).bufferOverruns = s.bufferOverruns := rfl
@[simp] theorem modPos_reply (q : Fin 4) (f : Position → Position) : (s.modPos q f).reply = s.reply := rfl
@[simp] theorem modPos_clockPhase (q : Fin 4) (f : Position → Position) : (s.modPos q f).clockPhase = s.clockPhase := rfl
@[simp] theorem modPos_pending (q : Fin 4) (f : Position → Position) : (s.modPos q f).pending = s.pending := rfl
@[simp] theorem modPos_cfg (q : Fin 4) (f : Position → Position) (p : Fin 4) : (s.modPos q f).cfg p = s.cfg p := rfl
@[simp] theorem modPos_bank (q : Fin 4) (f : Position → Position) (b : Fin 6) : (s.modPos q f).bank b = s.bank b := rfl
@[simp] theorem modPos_bankCfg (q : Fin 4) (f : Position → Position) (b : Fin 6) : (s.modPos q f).bankCfg b = s.bankCfg b := rfl
@[simp] theorem modPos_chan (q : Fin 4) (f : Position → Position) (c : Fin 32) : (s.modPos q f).chan c = s.chan c := rfl
@[simp] theorem modPos_chanCfg (q : Fin 4) (f : Position → Position) (c : Fin 32) : (s.modPos q f).chanCfg c = s.chanCfg c := rfl

/-! ### State.modBank -/

@[simp] theorem modBank_site (x : Fin 6) (f : Bank → Bank) : (s.modBank x f).site = s.site := rfl
@[simp] theorem modBank_positionConfig (x : Fin 6) (f : Bank → Bank) : (s.modBank x f).positionConfig = s.positionConfig := rfl
@[simp] theorem modBank_profiles (x : Fin 6) (f : Bank → Bank) : (s.modBank x f).profiles = s.profiles := rfl
@[simp] theorem modBank_bankConfig (x : Fin 6) (f : Bank → Bank) : (s.modBank x f).bankConfig = s.bankConfig := rfl
@[simp] theorem modBank_channelConfig (x : Fin 6) (f : Bank → Bank) : (s.modBank x f).channelConfig = s.channelConfig := rfl
@[simp] theorem modBank_terminals (x : Fin 6) (f : Bank → Bank) : (s.modBank x f).terminals = s.terminals := rfl
@[simp] theorem modBank_accounts (x : Fin 6) (f : Bank → Bank) : (s.modBank x f).accounts = s.accounts := rfl
@[simp] theorem modBank_priceH70 (x : Fin 6) (f : Bank → Bank) : (s.modBank x f).priceH70 = s.priceH70 := rfl
@[simp] theorem modBank_priceH35 (x : Fin 6) (f : Bank → Bank) : (s.modBank x f).priceH35 = s.priceH35 := rfl
@[simp] theorem modBank_pulseWeights (x : Fin 6) (f : Bank → Bank) : (s.modBank x f).pulseWeights = s.pulseWeights := rfl
@[simp] theorem modBank_metrologyCount (x : Fin 6) (f : Bank → Bank) : (s.modBank x f).metrologyCount = s.metrologyCount := rfl
@[simp] theorem modBank_tickets (x : Fin 6) (f : Bank → Bank) : (s.modBank x f).tickets = s.tickets := rfl
@[simp] theorem modBank_ticketCounter (x : Fin 6) (f : Bank → Bank) : (s.modBank x f).ticketCounter = s.ticketCounter := rfl
@[simp] theorem modBank_clock (x : Fin 6) (f : Bank → Bank) : (s.modBank x f).clock = s.clock := rfl
@[simp] theorem modBank_commissioned (x : Fin 6) (f : Bank → Bank) : (s.modBank x f).commissioned = s.commissioned := rfl
@[simp] theorem modBank_positions (x : Fin 6) (f : Bank → Bank) : (s.modBank x f).positions = s.positions := rfl
@[simp] theorem modBank_waiting (x : Fin 6) (f : Bank → Bank) : (s.modBank x f).waiting = s.waiting := rfl
@[simp] theorem modBank_compressor (x : Fin 6) (f : Bank → Bank) : (s.modBank x f).compressor = s.compressor := rfl
@[simp] theorem modBank_precool (x : Fin 6) (f : Bank → Bank) : (s.modBank x f).precool = s.precool := rfl
@[simp] theorem modBank_tradeLockOpen (x : Fin 6) (f : Bank → Bank) : (s.modBank x f).tradeLockOpen = s.tradeLockOpen := rfl
@[simp] theorem modBank_channels (x : Fin 6) (f : Bank → Bank) : (s.modBank x f).channels = s.channels := rfl
@[simp] theorem modBank_rejectedSamples (x : Fin 6) (f : Bank → Bank) : (s.modBank x f).rejectedSamples = s.rejectedSamples := rfl
@[simp] theorem modBank_debouncers (x : Fin 6) (f : Bank → Bank) : (s.modBank x f).debouncers = s.debouncers := rfl
@[simp] theorem modBank_esdLatch (x : Fin 6) (f : Bank → Bank) : (s.modBank x f).esdLatch = s.esdLatch := rfl
@[simp] theorem modBank_esdLine (x : Fin 6) (f : Bank → Bank) : (s.modBank x f).esdLine = s.esdLine := rfl
@[simp] theorem modBank_pendingFlags (x : Fin 6) (f : Bank → Bank) : (s.modBank x f).pendingFlags = s.pendingFlags := rfl
@[simp] theorem modBank_receiver (x : Fin 6) (f : Bank → Bank) : (s.modBank x f).receiver = s.receiver := rfl
@[simp] theorem modBank_inputBuffer (x : Fin 6) (f : Bank → Bank) : (s.modBank x f).inputBuffer = s.inputBuffer := rfl
@[simp] theorem modBank_discardedFrames (x : Fin 6) (f : Bank → Bank) : (s.modBank x f).discardedFrames = s.discardedFrames := rfl
@[simp] theorem modBank_bufferOverruns (x : Fin 6) (f : Bank → Bank) : (s.modBank x f).bufferOverruns = s.bufferOverruns := rfl
@[simp] theorem modBank_reply (x : Fin 6) (f : Bank → Bank) : (s.modBank x f).reply = s.reply := rfl
@[simp] theorem modBank_clockPhase (x : Fin 6) (f : Bank → Bank) : (s.modBank x f).clockPhase = s.clockPhase := rfl
@[simp] theorem modBank_pending (x : Fin 6) (f : Bank → Bank) : (s.modBank x f).pending = s.pending := rfl
@[simp] theorem modBank_pos (x : Fin 6) (f : Bank → Bank) (p : Fin 4) : (s.modBank x f).pos p = s.pos p := rfl
@[simp] theorem modBank_cfg (x : Fin 6) (f : Bank → Bank) (p : Fin 4) : (s.modBank x f).cfg p = s.cfg p := rfl
@[simp] theorem modBank_bankCfg (x : Fin 6) (f : Bank → Bank) (b : Fin 6) : (s.modBank x f).bankCfg b = s.bankCfg b := rfl
@[simp] theorem modBank_chan (x : Fin 6) (f : Bank → Bank) (c : Fin 32) : (s.modBank x f).chan c = s.chan c := rfl
@[simp] theorem modBank_chanCfg (x : Fin 6) (f : Bank → Bank) (c : Fin 32) : (s.modBank x f).chanCfg c = s.chanCfg c := rfl

/-! ### State.setChan -/

@[simp] theorem setChan_site (x : Fin 32) (k : Channel) : (s.setChan x k).site = s.site := rfl
@[simp] theorem setChan_positionConfig (x : Fin 32) (k : Channel) : (s.setChan x k).positionConfig = s.positionConfig := rfl
@[simp] theorem setChan_profiles (x : Fin 32) (k : Channel) : (s.setChan x k).profiles = s.profiles := rfl
@[simp] theorem setChan_bankConfig (x : Fin 32) (k : Channel) : (s.setChan x k).bankConfig = s.bankConfig := rfl
@[simp] theorem setChan_channelConfig (x : Fin 32) (k : Channel) : (s.setChan x k).channelConfig = s.channelConfig := rfl
@[simp] theorem setChan_terminals (x : Fin 32) (k : Channel) : (s.setChan x k).terminals = s.terminals := rfl
@[simp] theorem setChan_accounts (x : Fin 32) (k : Channel) : (s.setChan x k).accounts = s.accounts := rfl
@[simp] theorem setChan_priceH70 (x : Fin 32) (k : Channel) : (s.setChan x k).priceH70 = s.priceH70 := rfl
@[simp] theorem setChan_priceH35 (x : Fin 32) (k : Channel) : (s.setChan x k).priceH35 = s.priceH35 := rfl
@[simp] theorem setChan_pulseWeights (x : Fin 32) (k : Channel) : (s.setChan x k).pulseWeights = s.pulseWeights := rfl
@[simp] theorem setChan_metrologyCount (x : Fin 32) (k : Channel) : (s.setChan x k).metrologyCount = s.metrologyCount := rfl
@[simp] theorem setChan_tickets (x : Fin 32) (k : Channel) : (s.setChan x k).tickets = s.tickets := rfl
@[simp] theorem setChan_ticketCounter (x : Fin 32) (k : Channel) : (s.setChan x k).ticketCounter = s.ticketCounter := rfl
@[simp] theorem setChan_clock (x : Fin 32) (k : Channel) : (s.setChan x k).clock = s.clock := rfl
@[simp] theorem setChan_commissioned (x : Fin 32) (k : Channel) : (s.setChan x k).commissioned = s.commissioned := rfl
@[simp] theorem setChan_positions (x : Fin 32) (k : Channel) : (s.setChan x k).positions = s.positions := rfl
@[simp] theorem setChan_banks (x : Fin 32) (k : Channel) : (s.setChan x k).banks = s.banks := rfl
@[simp] theorem setChan_waiting (x : Fin 32) (k : Channel) : (s.setChan x k).waiting = s.waiting := rfl
@[simp] theorem setChan_compressor (x : Fin 32) (k : Channel) : (s.setChan x k).compressor = s.compressor := rfl
@[simp] theorem setChan_precool (x : Fin 32) (k : Channel) : (s.setChan x k).precool = s.precool := rfl
@[simp] theorem setChan_tradeLockOpen (x : Fin 32) (k : Channel) : (s.setChan x k).tradeLockOpen = s.tradeLockOpen := rfl
@[simp] theorem setChan_rejectedSamples (x : Fin 32) (k : Channel) : (s.setChan x k).rejectedSamples = s.rejectedSamples := rfl
@[simp] theorem setChan_debouncers (x : Fin 32) (k : Channel) : (s.setChan x k).debouncers = s.debouncers := rfl
@[simp] theorem setChan_esdLatch (x : Fin 32) (k : Channel) : (s.setChan x k).esdLatch = s.esdLatch := rfl
@[simp] theorem setChan_esdLine (x : Fin 32) (k : Channel) : (s.setChan x k).esdLine = s.esdLine := rfl
@[simp] theorem setChan_pendingFlags (x : Fin 32) (k : Channel) : (s.setChan x k).pendingFlags = s.pendingFlags := rfl
@[simp] theorem setChan_receiver (x : Fin 32) (k : Channel) : (s.setChan x k).receiver = s.receiver := rfl
@[simp] theorem setChan_inputBuffer (x : Fin 32) (k : Channel) : (s.setChan x k).inputBuffer = s.inputBuffer := rfl
@[simp] theorem setChan_discardedFrames (x : Fin 32) (k : Channel) : (s.setChan x k).discardedFrames = s.discardedFrames := rfl
@[simp] theorem setChan_bufferOverruns (x : Fin 32) (k : Channel) : (s.setChan x k).bufferOverruns = s.bufferOverruns := rfl
@[simp] theorem setChan_reply (x : Fin 32) (k : Channel) : (s.setChan x k).reply = s.reply := rfl
@[simp] theorem setChan_clockPhase (x : Fin 32) (k : Channel) : (s.setChan x k).clockPhase = s.clockPhase := rfl
@[simp] theorem setChan_pending (x : Fin 32) (k : Channel) : (s.setChan x k).pending = s.pending := rfl
@[simp] theorem setChan_pos (x : Fin 32) (k : Channel) (p : Fin 4) : (s.setChan x k).pos p = s.pos p := rfl
@[simp] theorem setChan_cfg (x : Fin 32) (k : Channel) (p : Fin 4) : (s.setChan x k).cfg p = s.cfg p := rfl
@[simp] theorem setChan_bank (x : Fin 32) (k : Channel) (b : Fin 6) : (s.setChan x k).bank b = s.bank b := rfl
@[simp] theorem setChan_bankCfg (x : Fin 32) (k : Channel) (b : Fin 6) : (s.setChan x k).bankCfg b = s.bankCfg b := rfl
@[simp] theorem setChan_chanCfg (x : Fin 32) (k : Channel) (c : Fin 32) : (s.setChan x k).chanCfg c = s.chanCfg c := rfl

/-! ### State.modCmp -/

@[simp] theorem modCmp_site (f : Compressor → Compressor) : (s.modCmp f).site = s.site := rfl
@[simp] theorem modCmp_positionConfig (f : Compressor → Compressor) : (s.modCmp f).positionConfig = s.positionConfig := rfl
@[simp] theorem modCmp_profiles (f : Compressor → Compressor) : (s.modCmp f).profiles = s.profiles := rfl
@[simp] theorem modCmp_bankConfig (f : Compressor → Compressor) : (s.modCmp f).bankConfig = s.bankConfig := rfl
@[simp] theorem modCmp_channelConfig (f : Compressor → Compressor) : (s.modCmp f).channelConfig = s.channelConfig := rfl
@[simp] theorem modCmp_terminals (f : Compressor → Compressor) : (s.modCmp f).terminals = s.terminals := rfl
@[simp] theorem modCmp_accounts (f : Compressor → Compressor) : (s.modCmp f).accounts = s.accounts := rfl
@[simp] theorem modCmp_priceH70 (f : Compressor → Compressor) : (s.modCmp f).priceH70 = s.priceH70 := rfl
@[simp] theorem modCmp_priceH35 (f : Compressor → Compressor) : (s.modCmp f).priceH35 = s.priceH35 := rfl
@[simp] theorem modCmp_pulseWeights (f : Compressor → Compressor) : (s.modCmp f).pulseWeights = s.pulseWeights := rfl
@[simp] theorem modCmp_metrologyCount (f : Compressor → Compressor) : (s.modCmp f).metrologyCount = s.metrologyCount := rfl
@[simp] theorem modCmp_tickets (f : Compressor → Compressor) : (s.modCmp f).tickets = s.tickets := rfl
@[simp] theorem modCmp_ticketCounter (f : Compressor → Compressor) : (s.modCmp f).ticketCounter = s.ticketCounter := rfl
@[simp] theorem modCmp_clock (f : Compressor → Compressor) : (s.modCmp f).clock = s.clock := rfl
@[simp] theorem modCmp_commissioned (f : Compressor → Compressor) : (s.modCmp f).commissioned = s.commissioned := rfl
@[simp] theorem modCmp_positions (f : Compressor → Compressor) : (s.modCmp f).positions = s.positions := rfl
@[simp] theorem modCmp_banks (f : Compressor → Compressor) : (s.modCmp f).banks = s.banks := rfl
@[simp] theorem modCmp_waiting (f : Compressor → Compressor) : (s.modCmp f).waiting = s.waiting := rfl
@[simp] theorem modCmp_precool (f : Compressor → Compressor) : (s.modCmp f).precool = s.precool := rfl
@[simp] theorem modCmp_tradeLockOpen (f : Compressor → Compressor) : (s.modCmp f).tradeLockOpen = s.tradeLockOpen := rfl
@[simp] theorem modCmp_channels (f : Compressor → Compressor) : (s.modCmp f).channels = s.channels := rfl
@[simp] theorem modCmp_rejectedSamples (f : Compressor → Compressor) : (s.modCmp f).rejectedSamples = s.rejectedSamples := rfl
@[simp] theorem modCmp_debouncers (f : Compressor → Compressor) : (s.modCmp f).debouncers = s.debouncers := rfl
@[simp] theorem modCmp_esdLatch (f : Compressor → Compressor) : (s.modCmp f).esdLatch = s.esdLatch := rfl
@[simp] theorem modCmp_esdLine (f : Compressor → Compressor) : (s.modCmp f).esdLine = s.esdLine := rfl
@[simp] theorem modCmp_pendingFlags (f : Compressor → Compressor) : (s.modCmp f).pendingFlags = s.pendingFlags := rfl
@[simp] theorem modCmp_receiver (f : Compressor → Compressor) : (s.modCmp f).receiver = s.receiver := rfl
@[simp] theorem modCmp_inputBuffer (f : Compressor → Compressor) : (s.modCmp f).inputBuffer = s.inputBuffer := rfl
@[simp] theorem modCmp_discardedFrames (f : Compressor → Compressor) : (s.modCmp f).discardedFrames = s.discardedFrames := rfl
@[simp] theorem modCmp_bufferOverruns (f : Compressor → Compressor) : (s.modCmp f).bufferOverruns = s.bufferOverruns := rfl
@[simp] theorem modCmp_reply (f : Compressor → Compressor) : (s.modCmp f).reply = s.reply := rfl
@[simp] theorem modCmp_clockPhase (f : Compressor → Compressor) : (s.modCmp f).clockPhase = s.clockPhase := rfl
@[simp] theorem modCmp_pending (f : Compressor → Compressor) : (s.modCmp f).pending = s.pending := rfl
@[simp] theorem modCmp_pos (f : Compressor → Compressor) (p : Fin 4) : (s.modCmp f).pos p = s.pos p := rfl
@[simp] theorem modCmp_cfg (f : Compressor → Compressor) (p : Fin 4) : (s.modCmp f).cfg p = s.cfg p := rfl
@[simp] theorem modCmp_bank (f : Compressor → Compressor) (b : Fin 6) : (s.modCmp f).bank b = s.bank b := rfl
@[simp] theorem modCmp_bankCfg (f : Compressor → Compressor) (b : Fin 6) : (s.modCmp f).bankCfg b = s.bankCfg b := rfl
@[simp] theorem modCmp_chan (f : Compressor → Compressor) (c : Fin 32) : (s.modCmp f).chan c = s.chan c := rfl
@[simp] theorem modCmp_chanCfg (f : Compressor → Compressor) (c : Fin 32) : (s.modCmp f).chanCfg c = s.chanCfg c := rfl

/-! ### State.modPcl -/

@[simp] theorem modPcl_site (f : Precool → Precool) : (s.modPcl f).site = s.site := rfl
@[simp] theorem modPcl_positionConfig (f : Precool → Precool) : (s.modPcl f).positionConfig = s.positionConfig := rfl
@[simp] theorem modPcl_profiles (f : Precool → Precool) : (s.modPcl f).profiles = s.profiles := rfl
@[simp] theorem modPcl_bankConfig (f : Precool → Precool) : (s.modPcl f).bankConfig = s.bankConfig := rfl
@[simp] theorem modPcl_channelConfig (f : Precool → Precool) : (s.modPcl f).channelConfig = s.channelConfig := rfl
@[simp] theorem modPcl_terminals (f : Precool → Precool) : (s.modPcl f).terminals = s.terminals := rfl
@[simp] theorem modPcl_accounts (f : Precool → Precool) : (s.modPcl f).accounts = s.accounts := rfl
@[simp] theorem modPcl_priceH70 (f : Precool → Precool) : (s.modPcl f).priceH70 = s.priceH70 := rfl
@[simp] theorem modPcl_priceH35 (f : Precool → Precool) : (s.modPcl f).priceH35 = s.priceH35 := rfl
@[simp] theorem modPcl_pulseWeights (f : Precool → Precool) : (s.modPcl f).pulseWeights = s.pulseWeights := rfl
@[simp] theorem modPcl_metrologyCount (f : Precool → Precool) : (s.modPcl f).metrologyCount = s.metrologyCount := rfl
@[simp] theorem modPcl_tickets (f : Precool → Precool) : (s.modPcl f).tickets = s.tickets := rfl
@[simp] theorem modPcl_ticketCounter (f : Precool → Precool) : (s.modPcl f).ticketCounter = s.ticketCounter := rfl
@[simp] theorem modPcl_clock (f : Precool → Precool) : (s.modPcl f).clock = s.clock := rfl
@[simp] theorem modPcl_commissioned (f : Precool → Precool) : (s.modPcl f).commissioned = s.commissioned := rfl
@[simp] theorem modPcl_positions (f : Precool → Precool) : (s.modPcl f).positions = s.positions := rfl
@[simp] theorem modPcl_banks (f : Precool → Precool) : (s.modPcl f).banks = s.banks := rfl
@[simp] theorem modPcl_waiting (f : Precool → Precool) : (s.modPcl f).waiting = s.waiting := rfl
@[simp] theorem modPcl_compressor (f : Precool → Precool) : (s.modPcl f).compressor = s.compressor := rfl
@[simp] theorem modPcl_tradeLockOpen (f : Precool → Precool) : (s.modPcl f).tradeLockOpen = s.tradeLockOpen := rfl
@[simp] theorem modPcl_channels (f : Precool → Precool) : (s.modPcl f).channels = s.channels := rfl
@[simp] theorem modPcl_rejectedSamples (f : Precool → Precool) : (s.modPcl f).rejectedSamples = s.rejectedSamples := rfl
@[simp] theorem modPcl_debouncers (f : Precool → Precool) : (s.modPcl f).debouncers = s.debouncers := rfl
@[simp] theorem modPcl_esdLatch (f : Precool → Precool) : (s.modPcl f).esdLatch = s.esdLatch := rfl
@[simp] theorem modPcl_esdLine (f : Precool → Precool) : (s.modPcl f).esdLine = s.esdLine := rfl
@[simp] theorem modPcl_pendingFlags (f : Precool → Precool) : (s.modPcl f).pendingFlags = s.pendingFlags := rfl
@[simp] theorem modPcl_receiver (f : Precool → Precool) : (s.modPcl f).receiver = s.receiver := rfl
@[simp] theorem modPcl_inputBuffer (f : Precool → Precool) : (s.modPcl f).inputBuffer = s.inputBuffer := rfl
@[simp] theorem modPcl_discardedFrames (f : Precool → Precool) : (s.modPcl f).discardedFrames = s.discardedFrames := rfl
@[simp] theorem modPcl_bufferOverruns (f : Precool → Precool) : (s.modPcl f).bufferOverruns = s.bufferOverruns := rfl
@[simp] theorem modPcl_reply (f : Precool → Precool) : (s.modPcl f).reply = s.reply := rfl
@[simp] theorem modPcl_clockPhase (f : Precool → Precool) : (s.modPcl f).clockPhase = s.clockPhase := rfl
@[simp] theorem modPcl_pending (f : Precool → Precool) : (s.modPcl f).pending = s.pending := rfl
@[simp] theorem modPcl_pos (f : Precool → Precool) (p : Fin 4) : (s.modPcl f).pos p = s.pos p := rfl
@[simp] theorem modPcl_cfg (f : Precool → Precool) (p : Fin 4) : (s.modPcl f).cfg p = s.cfg p := rfl
@[simp] theorem modPcl_bank (f : Precool → Precool) (b : Fin 6) : (s.modPcl f).bank b = s.bank b := rfl
@[simp] theorem modPcl_bankCfg (f : Precool → Precool) (b : Fin 6) : (s.modPcl f).bankCfg b = s.bankCfg b := rfl
@[simp] theorem modPcl_chan (f : Precool → Precool) (c : Fin 32) : (s.modPcl f).chan c = s.chan c := rfl
@[simp] theorem modPcl_chanCfg (f : Precool → Precool) (c : Fin 32) : (s.modPcl f).chanCfg c = s.chanCfg c := rfl

/-! ### State.raise -/

@[simp] theorem raise_site (e : EventFlag) : (s.raise e).site = s.site := rfl
@[simp] theorem raise_positionConfig (e : EventFlag) : (s.raise e).positionConfig = s.positionConfig := rfl
@[simp] theorem raise_profiles (e : EventFlag) : (s.raise e).profiles = s.profiles := rfl
@[simp] theorem raise_bankConfig (e : EventFlag) : (s.raise e).bankConfig = s.bankConfig := rfl
@[simp] theorem raise_channelConfig (e : EventFlag) : (s.raise e).channelConfig = s.channelConfig := rfl
@[simp] theorem raise_terminals (e : EventFlag) : (s.raise e).terminals = s.terminals := rfl
@[simp] theorem raise_accounts (e : EventFlag) : (s.raise e).accounts = s.accounts := rfl
@[simp] theorem raise_priceH70 (e : EventFlag) : (s.raise e).priceH70 = s.priceH70 := rfl
@[simp] theorem raise_priceH35 (e : EventFlag) : (s.raise e).priceH35 = s.priceH35 := rfl
@[simp] theorem raise_pulseWeights (e : EventFlag) : (s.raise e).pulseWeights = s.pulseWeights := rfl
@[simp] theorem raise_metrologyCount (e : EventFlag) : (s.raise e).metrologyCount = s.metrologyCount := rfl
@[simp] theorem raise_tickets (e : EventFlag) : (s.raise e).tickets = s.tickets := rfl
@[simp] theorem raise_ticketCounter (e : EventFlag) : (s.raise e).ticketCounter = s.ticketCounter := rfl
@[simp] theorem raise_clock (e : EventFlag) : (s.raise e).clock = s.clock := rfl
@[simp] theorem raise_commissioned (e : EventFlag) : (s.raise e).commissioned = s.commissioned := rfl
@[simp] theorem raise_positions (e : EventFlag) : (s.raise e).positions = s.positions := rfl
@[simp] theorem raise_banks (e : EventFlag) : (s.raise e).banks = s.banks := rfl
@[simp] theorem raise_waiting (e : EventFlag) : (s.raise e).waiting = s.waiting := rfl
@[simp] theorem raise_compressor (e : EventFlag) : (s.raise e).compressor = s.compressor := rfl
@[simp] theorem raise_precool (e : EventFlag) : (s.raise e).precool = s.precool := rfl
@[simp] theorem raise_tradeLockOpen (e : EventFlag) : (s.raise e).tradeLockOpen = s.tradeLockOpen := rfl
@[simp] theorem raise_channels (e : EventFlag) : (s.raise e).channels = s.channels := rfl
@[simp] theorem raise_rejectedSamples (e : EventFlag) : (s.raise e).rejectedSamples = s.rejectedSamples := rfl
@[simp] theorem raise_debouncers (e : EventFlag) : (s.raise e).debouncers = s.debouncers := rfl
@[simp] theorem raise_esdLatch (e : EventFlag) : (s.raise e).esdLatch = s.esdLatch := rfl
@[simp] theorem raise_esdLine (e : EventFlag) : (s.raise e).esdLine = s.esdLine := rfl
@[simp] theorem raise_receiver (e : EventFlag) : (s.raise e).receiver = s.receiver := rfl
@[simp] theorem raise_inputBuffer (e : EventFlag) : (s.raise e).inputBuffer = s.inputBuffer := rfl
@[simp] theorem raise_discardedFrames (e : EventFlag) : (s.raise e).discardedFrames = s.discardedFrames := rfl
@[simp] theorem raise_bufferOverruns (e : EventFlag) : (s.raise e).bufferOverruns = s.bufferOverruns := rfl
@[simp] theorem raise_reply (e : EventFlag) : (s.raise e).reply = s.reply := rfl
@[simp] theorem raise_clockPhase (e : EventFlag) : (s.raise e).clockPhase = s.clockPhase := rfl
@[simp] theorem raise_pending (e : EventFlag) : (s.raise e).pending = s.pending := rfl
@[simp] theorem raise_pos (e : EventFlag) (p : Fin 4) : (s.raise e).pos p = s.pos p := rfl
@[simp] theorem raise_cfg (e : EventFlag) (p : Fin 4) : (s.raise e).cfg p = s.cfg p := rfl
@[simp] theorem raise_bank (e : EventFlag) (b : Fin 6) : (s.raise e).bank b = s.bank b := rfl
@[simp] theorem raise_bankCfg (e : EventFlag) (b : Fin 6) : (s.raise e).bankCfg b = s.bankCfg b := rfl
@[simp] theorem raise_chan (e : EventFlag) (c : Fin 32) : (s.raise e).chan c = s.chan c := rfl
@[simp] theorem raise_chanCfg (e : EventFlag) (c : Fin 32) : (s.raise e).chanCfg c = s.chanCfg c := rfl

/-! ### State.setWaiting -/

@[simp] theorem setWaiting_site (q : Fin 4) (x : Bool) : (s.setWaiting q x).site = s.site := rfl
@[simp] theorem setWaiting_positionConfig (q : Fin 4) (x : Bool) : (s.setWaiting q x).positionConfig = s.positionConfig := rfl
@[simp] theorem setWaiting_profiles (q : Fin 4) (x : Bool) : (s.setWaiting q x).profiles = s.profiles := rfl
@[simp] theorem setWaiting_bankConfig (q : Fin 4) (x : Bool) : (s.setWaiting q x).bankConfig = s.bankConfig := rfl
@[simp] theorem setWaiting_channelConfig (q : Fin 4) (x : Bool) : (s.setWaiting q x).channelConfig = s.channelConfig := rfl
@[simp] theorem setWaiting_terminals (q : Fin 4) (x : Bool) : (s.setWaiting q x).terminals = s.terminals := rfl
@[simp] theorem setWaiting_accounts (q : Fin 4) (x : Bool) : (s.setWaiting q x).accounts = s.accounts := rfl
@[simp] theorem setWaiting_priceH70 (q : Fin 4) (x : Bool) : (s.setWaiting q x).priceH70 = s.priceH70 := rfl
@[simp] theorem setWaiting_priceH35 (q : Fin 4) (x : Bool) : (s.setWaiting q x).priceH35 = s.priceH35 := rfl
@[simp] theorem setWaiting_pulseWeights (q : Fin 4) (x : Bool) : (s.setWaiting q x).pulseWeights = s.pulseWeights := rfl
@[simp] theorem setWaiting_metrologyCount (q : Fin 4) (x : Bool) : (s.setWaiting q x).metrologyCount = s.metrologyCount := rfl
@[simp] theorem setWaiting_tickets (q : Fin 4) (x : Bool) : (s.setWaiting q x).tickets = s.tickets := rfl
@[simp] theorem setWaiting_ticketCounter (q : Fin 4) (x : Bool) : (s.setWaiting q x).ticketCounter = s.ticketCounter := rfl
@[simp] theorem setWaiting_clock (q : Fin 4) (x : Bool) : (s.setWaiting q x).clock = s.clock := rfl
@[simp] theorem setWaiting_commissioned (q : Fin 4) (x : Bool) : (s.setWaiting q x).commissioned = s.commissioned := rfl
@[simp] theorem setWaiting_positions (q : Fin 4) (x : Bool) : (s.setWaiting q x).positions = s.positions := rfl
@[simp] theorem setWaiting_banks (q : Fin 4) (x : Bool) : (s.setWaiting q x).banks = s.banks := rfl
@[simp] theorem setWaiting_compressor (q : Fin 4) (x : Bool) : (s.setWaiting q x).compressor = s.compressor := rfl
@[simp] theorem setWaiting_precool (q : Fin 4) (x : Bool) : (s.setWaiting q x).precool = s.precool := rfl
@[simp] theorem setWaiting_tradeLockOpen (q : Fin 4) (x : Bool) : (s.setWaiting q x).tradeLockOpen = s.tradeLockOpen := rfl
@[simp] theorem setWaiting_channels (q : Fin 4) (x : Bool) : (s.setWaiting q x).channels = s.channels := rfl
@[simp] theorem setWaiting_rejectedSamples (q : Fin 4) (x : Bool) : (s.setWaiting q x).rejectedSamples = s.rejectedSamples := rfl
@[simp] theorem setWaiting_debouncers (q : Fin 4) (x : Bool) : (s.setWaiting q x).debouncers = s.debouncers := rfl
@[simp] theorem setWaiting_esdLatch (q : Fin 4) (x : Bool) : (s.setWaiting q x).esdLatch = s.esdLatch := rfl
@[simp] theorem setWaiting_esdLine (q : Fin 4) (x : Bool) : (s.setWaiting q x).esdLine = s.esdLine := rfl
@[simp] theorem setWaiting_pendingFlags (q : Fin 4) (x : Bool) : (s.setWaiting q x).pendingFlags = s.pendingFlags := rfl
@[simp] theorem setWaiting_receiver (q : Fin 4) (x : Bool) : (s.setWaiting q x).receiver = s.receiver := rfl
@[simp] theorem setWaiting_inputBuffer (q : Fin 4) (x : Bool) : (s.setWaiting q x).inputBuffer = s.inputBuffer := rfl
@[simp] theorem setWaiting_discardedFrames (q : Fin 4) (x : Bool) : (s.setWaiting q x).discardedFrames = s.discardedFrames := rfl
@[simp] theorem setWaiting_bufferOverruns (q : Fin 4) (x : Bool) : (s.setWaiting q x).bufferOverruns = s.bufferOverruns := rfl
@[simp] theorem setWaiting_reply (q : Fin 4) (x : Bool) : (s.setWaiting q x).reply = s.reply := rfl
@[simp] theorem setWaiting_clockPhase (q : Fin 4) (x : Bool) : (s.setWaiting q x).clockPhase = s.clockPhase := rfl
@[simp] theorem setWaiting_pending (q : Fin 4) (x : Bool) : (s.setWaiting q x).pending = s.pending := rfl
@[simp] theorem setWaiting_pos (q : Fin 4) (x : Bool) (p : Fin 4) : (s.setWaiting q x).pos p = s.pos p := rfl
@[simp] theorem setWaiting_cfg (q : Fin 4) (x : Bool) (p : Fin 4) : (s.setWaiting q x).cfg p = s.cfg p := rfl
@[simp] theorem setWaiting_bank (q : Fin 4) (x : Bool) (b : Fin 6) : (s.setWaiting q x).bank b = s.bank b := rfl
@[simp] theorem setWaiting_bankCfg (q : Fin 4) (x : Bool) (b : Fin 6) : (s.setWaiting q x).bankCfg b = s.bankCfg b := rfl
@[simp] theorem setWaiting_chan (q : Fin 4) (x : Bool) (c : Fin 32) : (s.setWaiting q x).chan c = s.chan c := rfl
@[simp] theorem setWaiting_chanCfg (q : Fin 4) (x : Bool) (c : Fin 32) : (s.setWaiting q x).chanCfg c = s.chanCfg c := rfl

/-! ### State.modTicket -/

@[simp] theorem modTicket_site (n : Nat) (f : Ticket → Ticket) : (s.modTicket n f).site = s.site := by
  unfold State.modTicket; split <;> rfl

@[simp] theorem modTicket_positionConfig (n : Nat) (f : Ticket → Ticket) : (s.modTicket n f).positionConfig = s.positionConfig := by
  unfold State.modTicket; split <;> rfl

@[simp] theorem modTicket_profiles (n : Nat) (f : Ticket → Ticket) : (s.modTicket n f).profiles = s.profiles := by
  unfold State.modTicket; split <;> rfl

@[simp] theorem modTicket_bankConfig (n : Nat) (f : Ticket → Ticket) : (s.modTicket n f).bankConfig = s.bankConfig := by
  unfold State.modTicket; split <;> rfl

@[simp] theorem modTicket_channelConfig (n : Nat) (f : Ticket → Ticket) : (s.modTicket n f).channelConfig = s.channelConfig := by
  unfold State.modTicket; split <;> rfl

@[simp] theorem modTicket_terminals (n : Nat) (f : Ticket → Ticket) : (s.modTicket n f).terminals = s.terminals := by
  unfold State.modTicket; split <;> rfl

@[simp] theorem modTicket_accounts (n : Nat) (f : Ticket → Ticket) : (s.modTicket n f).accounts = s.accounts := by
  unfold State.modTicket; split <;> rfl

@[simp] theorem modTicket_priceH70 (n : Nat) (f : Ticket → Ticket) : (s.modTicket n f).priceH70 = s.priceH70 := by
  unfold State.modTicket; split <;> rfl

@[simp] theorem modTicket_priceH35 (n : Nat) (f : Ticket → Ticket) : (s.modTicket n f).priceH35 = s.priceH35 := by
  unfold State.modTicket; split <;> rfl

@[simp] theorem modTicket_pulseWeights (n : Nat) (f : Ticket → Ticket) : (s.modTicket n f).pulseWeights = s.pulseWeights := by
  unfold State.modTicket; split <;> rfl

@[simp] theorem modTicket_metrologyCount (n : Nat) (f : Ticket → Ticket) : (s.modTicket n f).metrologyCount = s.metrologyCount := by
  unfold State.modTicket; split <;> rfl

@[simp] theorem modTicket_ticketCounter (n : Nat) (f : Ticket → Ticket) : (s.modTicket n f).ticketCounter = s.ticketCounter := by
  unfold State.modTicket; split <;> rfl

@[simp] theorem modTicket_clock (n : Nat) (f : Ticket → Ticket) : (s.modTicket n f).clock = s.clock := by
  unfold State.modTicket; split <;> rfl

@[simp] theorem modTicket_commissioned (n : Nat) (f : Ticket → Ticket) : (s.modTicket n f).commissioned = s.commissioned := by
  unfold State.modTicket; split <;> rfl

@[simp] theorem modTicket_positions (n : Nat) (f : Ticket → Ticket) : (s.modTicket n f).positions = s.positions := by
  unfold State.modTicket; split <;> rfl

@[simp] theorem modTicket_banks (n : Nat) (f : Ticket → Ticket) : (s.modTicket n f).banks = s.banks := by
  unfold State.modTicket; split <;> rfl

@[simp] theorem modTicket_waiting (n : Nat) (f : Ticket → Ticket) : (s.modTicket n f).waiting = s.waiting := by
  unfold State.modTicket; split <;> rfl

@[simp] theorem modTicket_compressor (n : Nat) (f : Ticket → Ticket) : (s.modTicket n f).compressor = s.compressor := by
  unfold State.modTicket; split <;> rfl

@[simp] theorem modTicket_precool (n : Nat) (f : Ticket → Ticket) : (s.modTicket n f).precool = s.precool := by
  unfold State.modTicket; split <;> rfl

@[simp] theorem modTicket_tradeLockOpen (n : Nat) (f : Ticket → Ticket) : (s.modTicket n f).tradeLockOpen = s.tradeLockOpen := by
  unfold State.modTicket; split <;> rfl

@[simp] theorem modTicket_channels (n : Nat) (f : Ticket → Ticket) : (s.modTicket n f).channels = s.channels := by
  unfold State.modTicket; split <;> rfl

@[simp] theorem modTicket_rejectedSamples (n : Nat) (f : Ticket → Ticket) : (s.modTicket n f).rejectedSamples = s.rejectedSamples := by
  unfold State.modTicket; split <;> rfl

@[simp] theorem modTicket_debouncers (n : Nat) (f : Ticket → Ticket) : (s.modTicket n f).debouncers = s.debouncers := by
  unfold State.modTicket; split <;> rfl

@[simp] theorem modTicket_esdLatch (n : Nat) (f : Ticket → Ticket) : (s.modTicket n f).esdLatch = s.esdLatch := by
  unfold State.modTicket; split <;> rfl

@[simp] theorem modTicket_esdLine (n : Nat) (f : Ticket → Ticket) : (s.modTicket n f).esdLine = s.esdLine := by
  unfold State.modTicket; split <;> rfl

@[simp] theorem modTicket_pendingFlags (n : Nat) (f : Ticket → Ticket) : (s.modTicket n f).pendingFlags = s.pendingFlags := by
  unfold State.modTicket; split <;> rfl

@[simp] theorem modTicket_receiver (n : Nat) (f : Ticket → Ticket) : (s.modTicket n f).receiver = s.receiver := by
  unfold State.modTicket; split <;> rfl

@[simp] theorem modTicket_inputBuffer (n : Nat) (f : Ticket → Ticket) : (s.modTicket n f).inputBuffer = s.inputBuffer := by
  unfold State.modTicket; split <;> rfl

@[simp] theorem modTicket_discardedFrames (n : Nat) (f : Ticket → Ticket) : (s.modTicket n f).discardedFrames = s.discardedFrames := by
  unfold State.modTicket; split <;> rfl

@[simp] theorem modTicket_bufferOverruns (n : Nat) (f : Ticket → Ticket) : (s.modTicket n f).bufferOverruns = s.bufferOverruns := by
  unfold State.modTicket; split <;> rfl

@[simp] theorem modTicket_reply (n : Nat) (f : Ticket → Ticket) : (s.modTicket n f).reply = s.reply := by
  unfold State.modTicket; split <;> rfl

@[simp] theorem modTicket_clockPhase (n : Nat) (f : Ticket → Ticket) : (s.modTicket n f).clockPhase = s.clockPhase := by
  unfold State.modTicket; split <;> rfl

@[simp] theorem modTicket_pending (n : Nat) (f : Ticket → Ticket) : (s.modTicket n f).pending = s.pending := by
  unfold State.modTicket; split <;> rfl

@[simp] theorem modTicket_pos (n : Nat) (f : Ticket → Ticket) (p : Fin 4) : (s.modTicket n f).pos p = s.pos p := by simp [State.pos]

@[simp] theorem modTicket_cfg (n : Nat) (f : Ticket → Ticket) (p : Fin 4) : (s.modTicket n f).cfg p = s.cfg p := by simp [State.cfg]

@[simp] theorem modTicket_bank (n : Nat) (f : Ticket → Ticket) (b : Fin 6) : (s.modTicket n f).bank b = s.bank b := by simp [State.bank]

@[simp] theorem modTicket_bankCfg (n : Nat) (f : Ticket → Ticket) (b : Fin 6) : (s.modTicket n f).bankCfg b = s.bankCfg b := by simp [State.bankCfg]

@[simp] theorem modTicket_chan (n : Nat) (f : Ticket → Ticket) (c : Fin 32) : (s.modTicket n f).chan c = s.chan c := by simp [State.chan]

@[simp] theorem modTicket_chanCfg (n : Nat) (f : Ticket → Ticket) (c : Fin 32) : (s.modTicket n f).chanCfg c = s.chanCfg c := by simp [State.chanCfg]

/-! ### State.retireTicket -/

@[simp] theorem retireTicket_site (n : Nat) : (s.retireTicket n).site = s.site := by
  unfold State.retireTicket; split <;> rfl

@[simp] theorem retireTicket_positionConfig (n : Nat) : (s.retireTicket n).positionConfig = s.positionConfig := by
  unfold State.retireTicket; split <;> rfl

@[simp] theorem retireTicket_profiles (n : Nat) : (s.retireTicket n).profiles = s.profiles := by
  unfold State.retireTicket; split <;> rfl

@[simp] theorem retireTicket_bankConfig (n : Nat) : (s.retireTicket n).bankConfig = s.bankConfig := by
  unfold State.retireTicket; split <;> rfl

@[simp] theorem retireTicket_channelConfig (n : Nat) : (s.retireTicket n).channelConfig = s.channelConfig := by
  unfold State.retireTicket; split <;> rfl

@[simp] theorem retireTicket_terminals (n : Nat) : (s.retireTicket n).terminals = s.terminals := by
  unfold State.retireTicket; split <;> rfl

@[simp] theorem retireTicket_accounts (n : Nat) : (s.retireTicket n).accounts = s.accounts := by
  unfold State.retireTicket; split <;> rfl

@[simp] theorem retireTicket_priceH70 (n : Nat) : (s.retireTicket n).priceH70 = s.priceH70 := by
  unfold State.retireTicket; split <;> rfl

@[simp] theorem retireTicket_priceH35 (n : Nat) : (s.retireTicket n).priceH35 = s.priceH35 := by
  unfold State.retireTicket; split <;> rfl

@[simp] theorem retireTicket_pulseWeights (n : Nat) : (s.retireTicket n).pulseWeights = s.pulseWeights := by
  unfold State.retireTicket; split <;> rfl

@[simp] theorem retireTicket_metrologyCount (n : Nat) : (s.retireTicket n).metrologyCount = s.metrologyCount := by
  unfold State.retireTicket; split <;> rfl

@[simp] theorem retireTicket_ticketCounter (n : Nat) : (s.retireTicket n).ticketCounter = s.ticketCounter := by
  unfold State.retireTicket; split <;> rfl

@[simp] theorem retireTicket_clock (n : Nat) : (s.retireTicket n).clock = s.clock := by
  unfold State.retireTicket; split <;> rfl

@[simp] theorem retireTicket_commissioned (n : Nat) : (s.retireTicket n).commissioned = s.commissioned := by
  unfold State.retireTicket; split <;> rfl

@[simp] theorem retireTicket_positions (n : Nat) : (s.retireTicket n).positions = s.positions := by
  unfold State.retireTicket; split <;> rfl

@[simp] theorem retireTicket_banks (n : Nat) : (s.retireTicket n).banks = s.banks := by
  unfold State.retireTicket; split <;> rfl

@[simp] theorem retireTicket_waiting (n : Nat) : (s.retireTicket n).waiting = s.waiting := by
  unfold State.retireTicket; split <;> rfl

@[simp] theorem retireTicket_compressor (n : Nat) : (s.retireTicket n).compressor = s.compressor := by
  unfold State.retireTicket; split <;> rfl

@[simp] theorem retireTicket_precool (n : Nat) : (s.retireTicket n).precool = s.precool := by
  unfold State.retireTicket; split <;> rfl

@[simp] theorem retireTicket_tradeLockOpen (n : Nat) : (s.retireTicket n).tradeLockOpen = s.tradeLockOpen := by
  unfold State.retireTicket; split <;> rfl

@[simp] theorem retireTicket_channels (n : Nat) : (s.retireTicket n).channels = s.channels := by
  unfold State.retireTicket; split <;> rfl

@[simp] theorem retireTicket_rejectedSamples (n : Nat) : (s.retireTicket n).rejectedSamples = s.rejectedSamples := by
  unfold State.retireTicket; split <;> rfl

@[simp] theorem retireTicket_debouncers (n : Nat) : (s.retireTicket n).debouncers = s.debouncers := by
  unfold State.retireTicket; split <;> rfl

@[simp] theorem retireTicket_esdLatch (n : Nat) : (s.retireTicket n).esdLatch = s.esdLatch := by
  unfold State.retireTicket; split <;> rfl

@[simp] theorem retireTicket_esdLine (n : Nat) : (s.retireTicket n).esdLine = s.esdLine := by
  unfold State.retireTicket; split <;> rfl

@[simp] theorem retireTicket_pendingFlags (n : Nat) : (s.retireTicket n).pendingFlags = s.pendingFlags := by
  unfold State.retireTicket; split <;> rfl

@[simp] theorem retireTicket_receiver (n : Nat) : (s.retireTicket n).receiver = s.receiver := by
  unfold State.retireTicket; split <;> rfl

@[simp] theorem retireTicket_inputBuffer (n : Nat) : (s.retireTicket n).inputBuffer = s.inputBuffer := by
  unfold State.retireTicket; split <;> rfl

@[simp] theorem retireTicket_discardedFrames (n : Nat) : (s.retireTicket n).discardedFrames = s.discardedFrames := by
  unfold State.retireTicket; split <;> rfl

@[simp] theorem retireTicket_bufferOverruns (n : Nat) : (s.retireTicket n).bufferOverruns = s.bufferOverruns := by
  unfold State.retireTicket; split <;> rfl

@[simp] theorem retireTicket_reply (n : Nat) : (s.retireTicket n).reply = s.reply := by
  unfold State.retireTicket; split <;> rfl

@[simp] theorem retireTicket_clockPhase (n : Nat) : (s.retireTicket n).clockPhase = s.clockPhase := by
  unfold State.retireTicket; split <;> rfl

@[simp] theorem retireTicket_pending (n : Nat) : (s.retireTicket n).pending = s.pending := by
  unfold State.retireTicket; split <;> rfl

@[simp] theorem retireTicket_pos (n : Nat) (p : Fin 4) : (s.retireTicket n).pos p = s.pos p := by simp [State.pos]

@[simp] theorem retireTicket_cfg (n : Nat) (p : Fin 4) : (s.retireTicket n).cfg p = s.cfg p := by simp [State.cfg]

@[simp] theorem retireTicket_bank (n : Nat) (b : Fin 6) : (s.retireTicket n).bank b = s.bank b := by simp [State.bank]

@[simp] theorem retireTicket_bankCfg (n : Nat) (b : Fin 6) : (s.retireTicket n).bankCfg b = s.bankCfg b := by simp [State.bankCfg]

@[simp] theorem retireTicket_chan (n : Nat) (c : Fin 32) : (s.retireTicket n).chan c = s.chan c := by simp [State.chan]

@[simp] theorem retireTicket_chanCfg (n : Nat) (c : Fin 32) : (s.retireTicket n).chanCfg c = s.chanCfg c := by simp [State.chanCfg]

/-! ### State.modAccount -/

@[simp] theorem modAccount_site (n : Nat) (f : Account → Account) : (s.modAccount n f).site = s.site := by
  unfold State.modAccount; split <;> rfl

@[simp] theorem modAccount_positionConfig (n : Nat) (f : Account → Account) : (s.modAccount n f).positionConfig = s.positionConfig := by
  unfold State.modAccount; split <;> rfl

@[simp] theorem modAccount_profiles (n : Nat) (f : Account → Account) : (s.modAccount n f).profiles = s.profiles := by
  unfold State.modAccount; split <;> rfl

@[simp] theorem modAccount_bankConfig (n : Nat) (f : Account → Account) : (s.modAccount n f).bankConfig = s.bankConfig := by
  unfold State.modAccount; split <;> rfl

@[simp] theorem modAccount_channelConfig (n : Nat) (f : Account → Account) : (s.modAccount n f).channelConfig = s.channelConfig := by
  unfold State.modAccount; split <;> rfl

@[simp] theorem modAccount_terminals (n : Nat) (f : Account → Account) : (s.modAccount n f).terminals = s.terminals := by
  unfold State.modAccount; split <;> rfl

@[simp] theorem modAccount_priceH70 (n : Nat) (f : Account → Account) : (s.modAccount n f).priceH70 = s.priceH70 := by
  unfold State.modAccount; split <;> rfl

@[simp] theorem modAccount_priceH35 (n : Nat) (f : Account → Account) : (s.modAccount n f).priceH35 = s.priceH35 := by
  unfold State.modAccount; split <;> rfl

@[simp] theorem modAccount_pulseWeights (n : Nat) (f : Account → Account) : (s.modAccount n f).pulseWeights = s.pulseWeights := by
  unfold State.modAccount; split <;> rfl

@[simp] theorem modAccount_metrologyCount (n : Nat) (f : Account → Account) : (s.modAccount n f).metrologyCount = s.metrologyCount := by
  unfold State.modAccount; split <;> rfl

@[simp] theorem modAccount_tickets (n : Nat) (f : Account → Account) : (s.modAccount n f).tickets = s.tickets := by
  unfold State.modAccount; split <;> rfl

@[simp] theorem modAccount_ticketCounter (n : Nat) (f : Account → Account) : (s.modAccount n f).ticketCounter = s.ticketCounter := by
  unfold State.modAccount; split <;> rfl

@[simp] theorem modAccount_clock (n : Nat) (f : Account → Account) : (s.modAccount n f).clock = s.clock := by
  unfold State.modAccount; split <;> rfl

@[simp] theorem modAccount_commissioned (n : Nat) (f : Account → Account) : (s.modAccount n f).commissioned = s.commissioned := by
  unfold State.modAccount; split <;> rfl

@[simp] theorem modAccount_positions (n : Nat) (f : Account → Account) : (s.modAccount n f).positions = s.positions := by
  unfold State.modAccount; split <;> rfl

@[simp] theorem modAccount_banks (n : Nat) (f : Account → Account) : (s.modAccount n f).banks = s.banks := by
  unfold State.modAccount; split <;> rfl

@[simp] theorem modAccount_waiting (n : Nat) (f : Account → Account) : (s.modAccount n f).waiting = s.waiting := by
  unfold State.modAccount; split <;> rfl

@[simp] theorem modAccount_compressor (n : Nat) (f : Account → Account) : (s.modAccount n f).compressor = s.compressor := by
  unfold State.modAccount; split <;> rfl

@[simp] theorem modAccount_precool (n : Nat) (f : Account → Account) : (s.modAccount n f).precool = s.precool := by
  unfold State.modAccount; split <;> rfl

@[simp] theorem modAccount_tradeLockOpen (n : Nat) (f : Account → Account) : (s.modAccount n f).tradeLockOpen = s.tradeLockOpen := by
  unfold State.modAccount; split <;> rfl

@[simp] theorem modAccount_channels (n : Nat) (f : Account → Account) : (s.modAccount n f).channels = s.channels := by
  unfold State.modAccount; split <;> rfl

@[simp] theorem modAccount_rejectedSamples (n : Nat) (f : Account → Account) : (s.modAccount n f).rejectedSamples = s.rejectedSamples := by
  unfold State.modAccount; split <;> rfl

@[simp] theorem modAccount_debouncers (n : Nat) (f : Account → Account) : (s.modAccount n f).debouncers = s.debouncers := by
  unfold State.modAccount; split <;> rfl

@[simp] theorem modAccount_esdLatch (n : Nat) (f : Account → Account) : (s.modAccount n f).esdLatch = s.esdLatch := by
  unfold State.modAccount; split <;> rfl

@[simp] theorem modAccount_esdLine (n : Nat) (f : Account → Account) : (s.modAccount n f).esdLine = s.esdLine := by
  unfold State.modAccount; split <;> rfl

@[simp] theorem modAccount_pendingFlags (n : Nat) (f : Account → Account) : (s.modAccount n f).pendingFlags = s.pendingFlags := by
  unfold State.modAccount; split <;> rfl

@[simp] theorem modAccount_receiver (n : Nat) (f : Account → Account) : (s.modAccount n f).receiver = s.receiver := by
  unfold State.modAccount; split <;> rfl

@[simp] theorem modAccount_inputBuffer (n : Nat) (f : Account → Account) : (s.modAccount n f).inputBuffer = s.inputBuffer := by
  unfold State.modAccount; split <;> rfl

@[simp] theorem modAccount_discardedFrames (n : Nat) (f : Account → Account) : (s.modAccount n f).discardedFrames = s.discardedFrames := by
  unfold State.modAccount; split <;> rfl

@[simp] theorem modAccount_bufferOverruns (n : Nat) (f : Account → Account) : (s.modAccount n f).bufferOverruns = s.bufferOverruns := by
  unfold State.modAccount; split <;> rfl

@[simp] theorem modAccount_reply (n : Nat) (f : Account → Account) : (s.modAccount n f).reply = s.reply := by
  unfold State.modAccount; split <;> rfl

@[simp] theorem modAccount_clockPhase (n : Nat) (f : Account → Account) : (s.modAccount n f).clockPhase = s.clockPhase := by
  unfold State.modAccount; split <;> rfl

@[simp] theorem modAccount_pending (n : Nat) (f : Account → Account) : (s.modAccount n f).pending = s.pending := by
  unfold State.modAccount; split <;> rfl

@[simp] theorem modAccount_pos (n : Nat) (f : Account → Account) (p : Fin 4) : (s.modAccount n f).pos p = s.pos p := by simp [State.pos]

@[simp] theorem modAccount_cfg (n : Nat) (f : Account → Account) (p : Fin 4) : (s.modAccount n f).cfg p = s.cfg p := by simp [State.cfg]

@[simp] theorem modAccount_bank (n : Nat) (f : Account → Account) (b : Fin 6) : (s.modAccount n f).bank b = s.bank b := by simp [State.bank]

@[simp] theorem modAccount_bankCfg (n : Nat) (f : Account → Account) (b : Fin 6) : (s.modAccount n f).bankCfg b = s.bankCfg b := by simp [State.bankCfg]

@[simp] theorem modAccount_chan (n : Nat) (f : Account → Account) (c : Fin 32) : (s.modAccount n f).chan c = s.chan c := by simp [State.chan]

@[simp] theorem modAccount_chanCfg (n : Nat) (f : Account → Account) (c : Fin 32) : (s.modAccount n f).chanCfg c = s.chanCfg c := by simp [State.chanCfg]

/-! ### State.modActive -/

@[simp] theorem modActive_site (q : Fin 4) (f : Ticket → Ticket) : (s.modActive q f).site = s.site := by
  unfold State.modActive; split <;> simp

@[simp] theorem modActive_positionConfig (q : Fin 4) (f : Ticket → Ticket) : (s.modActive q f).positionConfig = s.positionConfig := by
  unfold State.modActive; split <;> simp

@[simp] theorem modActive_profiles (q : Fin 4) (f : Ticket → Ticket) : (s.modActive q f).profiles = s.profiles := by
  unfold State.modActive; split <;> simp

@[simp] theorem modActive_bankConfig (q : Fin 4) (f : Ticket → Ticket) : (s.modActive q f).bankConfig = s.bankConfig := by
  unfold State.modActive; split <;> simp

@[simp] theorem modActive_channelConfig (q : Fin 4) (f : Ticket → Ticket) : (s.modActive q f).channelConfig = s.channelConfig := by
  unfold State.modActive; split <;> simp

@[simp] theorem modActive_terminals (q : Fin 4) (f : Ticket → Ticket) : (s.modActive q f).terminals = s.terminals := by
  unfold State.modActive; split <;> simp

@[simp] theorem modActive_accounts (q : Fin 4) (f : Ticket → Ticket) : (s.modActive q f).accounts = s.accounts := by
  unfold State.modActive; split <;> simp

@[simp] theorem modActive_priceH70 (q : Fin 4) (f : Ticket → Ticket) : (s.modActive q f).priceH70 = s.priceH70 := by
  unfold State.modActive; split <;> simp

@[simp] theorem modActive_priceH35 (q : Fin 4) (f : Ticket → Ticket) : (s.modActive q f).priceH35 = s.priceH35 := by
  unfold State.modActive; split <;> simp

@[simp] theorem modActive_pulseWeights (q : Fin 4) (f : Ticket → Ticket) : (s.modActive q f).pulseWeights = s.pulseWeights := by
  unfold State.modActive; split <;> simp

@[simp] theorem modActive_metrologyCount (q : Fin 4) (f : Ticket → Ticket) : (s.modActive q f).metrologyCount = s.metrologyCount := by
  unfold State.modActive; split <;> simp

@[simp] theorem modActive_ticketCounter (q : Fin 4) (f : Ticket → Ticket) : (s.modActive q f).ticketCounter = s.ticketCounter := by
  unfold State.modActive; split <;> simp

@[simp] theorem modActive_clock (q : Fin 4) (f : Ticket → Ticket) : (s.modActive q f).clock = s.clock := by
  unfold State.modActive; split <;> simp

@[simp] theorem modActive_commissioned (q : Fin 4) (f : Ticket → Ticket) : (s.modActive q f).commissioned = s.commissioned := by
  unfold State.modActive; split <;> simp

@[simp] theorem modActive_positions (q : Fin 4) (f : Ticket → Ticket) : (s.modActive q f).positions = s.positions := by
  unfold State.modActive; split <;> simp

@[simp] theorem modActive_banks (q : Fin 4) (f : Ticket → Ticket) : (s.modActive q f).banks = s.banks := by
  unfold State.modActive; split <;> simp

@[simp] theorem modActive_waiting (q : Fin 4) (f : Ticket → Ticket) : (s.modActive q f).waiting = s.waiting := by
  unfold State.modActive; split <;> simp

@[simp] theorem modActive_compressor (q : Fin 4) (f : Ticket → Ticket) : (s.modActive q f).compressor = s.compressor := by
  unfold State.modActive; split <;> simp

@[simp] theorem modActive_precool (q : Fin 4) (f : Ticket → Ticket) : (s.modActive q f).precool = s.precool := by
  unfold State.modActive; split <;> simp

@[simp] theorem modActive_tradeLockOpen (q : Fin 4) (f : Ticket → Ticket) : (s.modActive q f).tradeLockOpen = s.tradeLockOpen := by
  unfold State.modActive; split <;> simp

@[simp] theorem modActive_channels (q : Fin 4) (f : Ticket → Ticket) : (s.modActive q f).channels = s.channels := by
  unfold State.modActive; split <;> simp

@[simp] theorem modActive_rejectedSamples (q : Fin 4) (f : Ticket → Ticket) : (s.modActive q f).rejectedSamples = s.rejectedSamples := by
  unfold State.modActive; split <;> simp

@[simp] theorem modActive_debouncers (q : Fin 4) (f : Ticket → Ticket) : (s.modActive q f).debouncers = s.debouncers := by
  unfold State.modActive; split <;> simp

@[simp] theorem modActive_esdLatch (q : Fin 4) (f : Ticket → Ticket) : (s.modActive q f).esdLatch = s.esdLatch := by
  unfold State.modActive; split <;> simp

@[simp] theorem modActive_esdLine (q : Fin 4) (f : Ticket → Ticket) : (s.modActive q f).esdLine = s.esdLine := by
  unfold State.modActive; split <;> simp

@[simp] theorem modActive_pendingFlags (q : Fin 4) (f : Ticket → Ticket) : (s.modActive q f).pendingFlags = s.pendingFlags := by
  unfold State.modActive; split <;> simp

@[simp] theorem modActive_receiver (q : Fin 4) (f : Ticket → Ticket) : (s.modActive q f).receiver = s.receiver := by
  unfold State.modActive; split <;> simp

@[simp] theorem modActive_inputBuffer (q : Fin 4) (f : Ticket → Ticket) : (s.modActive q f).inputBuffer = s.inputBuffer := by
  unfold State.modActive; split <;> simp

@[simp] theorem modActive_discardedFrames (q : Fin 4) (f : Ticket → Ticket) : (s.modActive q f).discardedFrames = s.discardedFrames := by
  unfold State.modActive; split <;> simp

@[simp] theorem modActive_bufferOverruns (q : Fin 4) (f : Ticket → Ticket) : (s.modActive q f).bufferOverruns = s.bufferOverruns := by
  unfold State.modActive; split <;> simp

@[simp] theorem modActive_reply (q : Fin 4) (f : Ticket → Ticket) : (s.modActive q f).reply = s.reply := by
  unfold State.modActive; split <;> simp

@[simp] theorem modActive_clockPhase (q : Fin 4) (f : Ticket → Ticket) : (s.modActive q f).clockPhase = s.clockPhase := by
  unfold State.modActive; split <;> simp

@[simp] theorem modActive_pending (q : Fin 4) (f : Ticket → Ticket) : (s.modActive q f).pending = s.pending := by
  unfold State.modActive; split <;> simp

@[simp] theorem modActive_pos (q : Fin 4) (f : Ticket → Ticket) (p : Fin 4) : (s.modActive q f).pos p = s.pos p := by simp [State.pos]

@[simp] theorem modActive_cfg (q : Fin 4) (f : Ticket → Ticket) (p : Fin 4) : (s.modActive q f).cfg p = s.cfg p := by simp [State.cfg]

@[simp] theorem modActive_bank (q : Fin 4) (f : Ticket → Ticket) (b : Fin 6) : (s.modActive q f).bank b = s.bank b := by simp [State.bank]

@[simp] theorem modActive_bankCfg (q : Fin 4) (f : Ticket → Ticket) (b : Fin 6) : (s.modActive q f).bankCfg b = s.bankCfg b := by simp [State.bankCfg]

@[simp] theorem modActive_chan (q : Fin 4) (f : Ticket → Ticket) (c : Fin 32) : (s.modActive q f).chan c = s.chan c := by simp [State.chan]

@[simp] theorem modActive_chanCfg (q : Fin 4) (f : Ticket → Ticket) (c : Fin 32) : (s.modActive q f).chanCfg c = s.chanCfg c := by simp [State.chanCfg]

/-! ### State.takeFrame -/

@[simp] theorem takeFrame_site (x : Instr) : (s.takeFrame x).site = s.site := by
  unfold State.takeFrame; repeat' split
  all_goals rfl

@[simp] theorem takeFrame_positionConfig (x : Instr) : (s.takeFrame x).positionConfig = s.positionConfig := by
  unfold State.takeFrame; repeat' split
  all_goals rfl

@[simp] theorem takeFrame_profiles (x : Instr) : (s.takeFrame x).profiles = s.profiles := by
  unfold State.takeFrame; repeat' split
  all_goals rfl

@[simp] theorem takeFrame_bankConfig (x : Instr) : (s.takeFrame x).bankConfig = s.bankConfig := by
  unfold State.takeFrame; repeat' split
  all_goals rfl

@[simp] theorem takeFrame_channelConfig (x : Instr) : (s.takeFrame x).channelConfig = s.channelConfig := by
  unfold State.takeFrame; repeat' split
  all_goals rfl

@[simp] theorem takeFrame_terminals (x : Instr) : (s.takeFrame x).terminals = s.terminals := by
  unfold State.takeFrame; repeat' split
  all_goals rfl

@[simp] theorem takeFrame_accounts (x : Instr) : (s.takeFrame x).accounts = s.accounts := by
  unfold State.takeFrame; repeat' split
  all_goals rfl

@[simp] theorem takeFrame_priceH70 (x : Instr) : (s.takeFrame x).priceH70 = s.priceH70 := by
  unfold State.takeFrame; repeat' split
  all_goals rfl

@[simp] theorem takeFrame_priceH35 (x : Instr) : (s.takeFrame x).priceH35 = s.priceH35 := by
  unfold State.takeFrame; repeat' split
  all_goals rfl

@[simp] theorem takeFrame_pulseWeights (x : Instr) : (s.takeFrame x).pulseWeights = s.pulseWeights := by
  unfold State.takeFrame; repeat' split
  all_goals rfl

@[simp] theorem takeFrame_metrologyCount (x : Instr) : (s.takeFrame x).metrologyCount = s.metrologyCount := by
  unfold State.takeFrame; repeat' split
  all_goals rfl

@[simp] theorem takeFrame_tickets (x : Instr) : (s.takeFrame x).tickets = s.tickets := by
  unfold State.takeFrame; repeat' split
  all_goals rfl

@[simp] theorem takeFrame_ticketCounter (x : Instr) : (s.takeFrame x).ticketCounter = s.ticketCounter := by
  unfold State.takeFrame; repeat' split
  all_goals rfl

@[simp] theorem takeFrame_clock (x : Instr) : (s.takeFrame x).clock = s.clock := by
  unfold State.takeFrame; repeat' split
  all_goals rfl

@[simp] theorem takeFrame_commissioned (x : Instr) : (s.takeFrame x).commissioned = s.commissioned := by
  unfold State.takeFrame; repeat' split
  all_goals rfl

@[simp] theorem takeFrame_positions (x : Instr) : (s.takeFrame x).positions = s.positions := by
  unfold State.takeFrame; repeat' split
  all_goals rfl

@[simp] theorem takeFrame_banks (x : Instr) : (s.takeFrame x).banks = s.banks := by
  unfold State.takeFrame; repeat' split
  all_goals rfl

@[simp] theorem takeFrame_waiting (x : Instr) : (s.takeFrame x).waiting = s.waiting := by
  unfold State.takeFrame; repeat' split
  all_goals rfl

@[simp] theorem takeFrame_compressor (x : Instr) : (s.takeFrame x).compressor = s.compressor := by
  unfold State.takeFrame; repeat' split
  all_goals rfl

@[simp] theorem takeFrame_precool (x : Instr) : (s.takeFrame x).precool = s.precool := by
  unfold State.takeFrame; repeat' split
  all_goals rfl

@[simp] theorem takeFrame_tradeLockOpen (x : Instr) : (s.takeFrame x).tradeLockOpen = s.tradeLockOpen := by
  unfold State.takeFrame; repeat' split
  all_goals rfl

@[simp] theorem takeFrame_channels (x : Instr) : (s.takeFrame x).channels = s.channels := by
  unfold State.takeFrame; repeat' split
  all_goals rfl

@[simp] theorem takeFrame_rejectedSamples (x : Instr) : (s.takeFrame x).rejectedSamples = s.rejectedSamples := by
  unfold State.takeFrame; repeat' split
  all_goals rfl

@[simp] theorem takeFrame_debouncers (x : Instr) : (s.takeFrame x).debouncers = s.debouncers := by
  unfold State.takeFrame; repeat' split
  all_goals rfl

@[simp] theorem takeFrame_esdLatch (x : Instr) : (s.takeFrame x).esdLatch = s.esdLatch := by
  unfold State.takeFrame; repeat' split
  all_goals rfl

@[simp] theorem takeFrame_esdLine (x : Instr) : (s.takeFrame x).esdLine = s.esdLine := by
  unfold State.takeFrame; repeat' split
  all_goals rfl

@[simp] theorem takeFrame_pendingFlags (x : Instr) : (s.takeFrame x).pendingFlags = s.pendingFlags := by
  unfold State.takeFrame; repeat' split
  all_goals rfl

@[simp] theorem takeFrame_receiver (x : Instr) : (s.takeFrame x).receiver = s.receiver := by
  unfold State.takeFrame; repeat' split
  all_goals rfl

@[simp] theorem takeFrame_discardedFrames (x : Instr) : (s.takeFrame x).discardedFrames = s.discardedFrames := by
  unfold State.takeFrame; repeat' split
  all_goals rfl

@[simp] theorem takeFrame_bufferOverruns (x : Instr) : (s.takeFrame x).bufferOverruns = s.bufferOverruns := by
  unfold State.takeFrame; repeat' split
  all_goals rfl

@[simp] theorem takeFrame_reply (x : Instr) : (s.takeFrame x).reply = s.reply := by
  unfold State.takeFrame; repeat' split
  all_goals rfl

@[simp] theorem takeFrame_clockPhase (x : Instr) : (s.takeFrame x).clockPhase = s.clockPhase := by
  unfold State.takeFrame; repeat' split
  all_goals rfl

@[simp] theorem takeFrame_pending (x : Instr) : (s.takeFrame x).pending = s.pending := by
  unfold State.takeFrame; repeat' split
  all_goals rfl

@[simp] theorem takeFrame_pos (x : Instr) (p : Fin 4) : (s.takeFrame x).pos p = s.pos p := by simp [State.pos]

@[simp] theorem takeFrame_cfg (x : Instr) (p : Fin 4) : (s.takeFrame x).cfg p = s.cfg p := by simp [State.cfg]

@[simp] theorem takeFrame_bank (x : Instr) (b : Fin 6) : (s.takeFrame x).bank b = s.bank b := by simp [State.bank]

@[simp] theorem takeFrame_bankCfg (x : Instr) (b : Fin 6) : (s.takeFrame x).bankCfg b = s.bankCfg b := by simp [State.bankCfg]

@[simp] theorem takeFrame_chan (x : Instr) (c : Fin 32) : (s.takeFrame x).chan c = s.chan c := by simp [State.chan]

@[simp] theorem takeFrame_chanCfg (x : Instr) (c : Fin 32) : (s.takeFrame x).chanCfg c = s.chanCfg c := by simp [State.chanCfg]

/-! ### The updated tables, entry by entry -/

/-- A changed position, read at any position. -/
theorem modPos_pos (q p : Fin 4) (f : Position → Position) :
    (s.modPos q f).pos p = if p = q then f (s.pos q) else s.pos p := get_modAt ..

@[simp] theorem modPos_pos_self (p : Fin 4) (f : Position → Position) : (s.modPos p f).pos p = f (s.pos p) :=
  get_modAt_self ..

@[simp] theorem modPos_pos_ne {q p : Fin 4} (f : Position → Position) (h : p ≠ q) :
    (s.modPos q f).pos p = s.pos p := get_modAt_ne _ _ h

/-- A changed bank, read at any bank. -/
theorem modBank_bank (x b : Fin 6) (f : Bank → Bank) :
    (s.modBank x f).bank b = if b = x then f (s.bank x) else s.bank b := get_modAt ..

@[simp] theorem modBank_bank_self (b : Fin 6) (f : Bank → Bank) : (s.modBank b f).bank b = f (s.bank b) :=
  get_modAt_self ..

@[simp] theorem modBank_bank_ne {x b : Fin 6} (f : Bank → Bank) (h : b ≠ x) :
    (s.modBank x f).bank b = s.bank b := get_modAt_ne _ _ h

/-- A replaced channel, read at any channel. -/
theorem setChan_chan (x c : Fin 32) (k : Channel) :
    (s.setChan x k).chan c = if c = x then k else s.chan c := get_setAt ..

@[simp] theorem setChan_chan_self (c : Fin 32) (k : Channel) : (s.setChan c k).chan c = k := get_setAt_self ..

@[simp] theorem setChan_chan_ne {x c : Fin 32} (k : Channel) (h : c ≠ x) : (s.setChan x k).chan c = s.chan c :=
  get_setAt_ne _ _ h

@[simp] theorem modCmp_compressor (f : Compressor → Compressor) : (s.modCmp f).compressor = f s.compressor := rfl

@[simp] theorem modPcl_precool (f : Precool → Precool) : (s.modPcl f).precool = f s.precool := rfl

@[simp] theorem raise_pendingFlags (e : EventFlag) : (s.raise e).pendingFlags = s.pendingFlags ||| e.word := rfl

/-- Two changes of one position are one. -/
theorem modPos_modPos (p : Fin 4) (f g : Position → Position) :
    (s.modPos p f).modPos p g = s.modPos p fun q => g (f q) := by
  have h : modAt (modAt s.positions p f) p g = modAt s.positions p fun q => g (f q) :=
    table_ext fun i => by by_cases hi : i = p <;> simp [hi]
  simp [State.modPos, h]

/-- A raised flag is pending, and the others are as before. -/
theorem flagPending_raise (e g : EventFlag) :
    (s.raise e).flagPending g = (s.flagPending g || decide (e.bit = g.bit)) := by
  have hg : g.bit < 27 := by cases g <;> simp only [EventFlag.bit] <;> omega
  simp only [State.flagPending, raise_pendingFlags, BitVec.getLsbD_or, EventFlag.word, BitVec.getLsbD_ofNat,
    Nat.testBit_two_pow, hg, decide_true, Bool.true_and]

end Sys2Proof.Machine
end

