-- ==== Sys2Proof/Laws/Base.lean ====
section
/-! SUPPORT. The events of a fill and of the plant leave the rest of the state alone: State.base is kept by each
operation. -/

namespace Sys2Proof.Machine

/-- A fold of operations that each keep State.base keeps it. -/
theorem foldl_base {α : Type} (f : State → α → State) (h : ∀ s a, (f s a).base = s.base) (l : List α) (s : State) :
    (l.foldl f s).base = s.base := by
  induction l generalizing s with
  | nil => rfl
  | cons a l ih => rw [List.foldl_cons, ih, h]

variable (s : State)

@[simp] theorem modPos_base (p : Fin 4) (f : Position → Position) : (s.modPos p f).base = s.base := rfl
@[simp] theorem modBank_base (b : Fin 6) (f : Bank → Bank) : (s.modBank b f).base = s.base := rfl
@[simp] theorem modCmp_base (f : Compressor → Compressor) : (s.modCmp f).base = s.base := rfl
@[simp] theorem modPcl_base (f : Precool → Precool) : (s.modPcl f).base = s.base := rfl
@[simp] theorem raise_base (e : EventFlag) : (s.raise e).base = s.base := rfl
@[simp] theorem setWaiting_base (p : Fin 4) (b : Bool) : (s.setWaiting p b).base = s.base := rfl
@[simp] theorem setGrade_base (p : Fin 4) (g : Option Grade) : (s.setGrade p g).base = s.base := rfl
@[simp] theorem setFallback_base (p : Fin 4) (t : Option Nat) : (s.setFallback p t).base = s.base := rfl

@[simp] theorem modTicket_base (n : Nat) (f : Ticket → Ticket) : (s.modTicket n f).base = s.base := by
  unfold State.modTicket; split <;> rfl

@[simp] theorem retireTicket_base (n : Nat) : (s.retireTicket n).base = s.base := by
  unfold State.retireTicket; split <;> rfl

@[simp] theorem modActive_base (p : Fin 4) (f : Ticket → Ticket) : (s.modActive p f).base = s.base := by
  unfold State.modActive; split <;> simp

/-! ### Machine/Compressor.lean -/

@[simp] theorem refillBank_base (b : Fin 6) : (s.refillBank b).base = s.base := by
  simp [State.refillBank]

@[simp] theorem chooseNext_base (leave : Option (Fin 6)) : (s.chooseNext leave).base = s.base := by
  unfold State.chooseNext; (repeat' split) <;> rfl

@[simp] theorem chooseUnloaded_base : s.chooseUnloaded.base = s.base := by
  unfold State.chooseUnloaded; (repeat' split) <;> rfl

@[simp] theorem startMotor_base : s.startMotor.base = s.base := by
  simp [State.startMotor]

@[simp] theorem waitForCredit_base : s.waitForCredit.base = s.base := by
  unfold State.waitForCredit; (repeat' split) <;> rfl

@[simp] theorem compressorStartTest_base : s.compressorStartTest.base = s.base := by
  unfold State.compressorStartTest; (repeat' split) <;> first | rfl | simp

@[simp] theorem bankMayBeChosen_base : s.bankMayBeChosen.base = s.base := by
  unfold State.bankMayBeChosen; (repeat' split) <;> first | rfl | simp

@[simp] theorem enqueueBank_base (b : Fin 6) : (s.enqueueBank b).base = s.base := by
  simp [State.enqueueBank]

@[simp] theorem addBank_base (b : Fin 6) : (s.addBank b).base = s.base := by
  simp [State.addBank]

@[simp] theorem removeBank_base (b : Fin 6) : (s.removeBank b).base = s.base := by
  unfold State.removeBank; dsimp only; (repeat' split) <;> first | rfl | simp

@[simp] theorem refillProgress_base (b : Fin 6) (p : Nat) : (s.refillProgress b p).base = s.base := by
  unfold State.refillProgress; (repeat' split) <;> first | rfl | simp

@[simp] theorem suspendForDraw_base (b : Fin 6) : (s.suspendForDraw b).base = s.base := by
  unfold State.suspendForDraw; (repeat' split) <;> first | rfl | simp

@[simp] theorem reportEmptyDraw_base (b : Fin 6) : (s.reportEmptyDraw b).base = s.base := by
  unfold State.reportEmptyDraw; (repeat' split) <;> first | rfl | simp

@[simp] theorem stopMotor_base : s.stopMotor.base = s.base := by
  unfold State.stopMotor; (repeat' split) <;> rfl

@[simp] theorem suspendMotor_base : s.suspendMotor.base = s.base := by
  simp [State.suspendMotor]

@[simp] theorem enterStopped_base : s.enterStopped.base = s.base := by
  simp [State.enterStopped]

@[simp] theorem decommissionCompressor_base : s.decommissionCompressor.base = s.base := by
  unfold State.decommissionCompressor; rfl

@[simp] theorem supplyTaken_base (v : Nat) : (s.supplyTaken v).base = s.base := by
  unfold State.supplyTaken; dsimp only; (repeat' split) <;> first | rfl | simp

@[simp] theorem supplyFailed_base : s.supplyFailed.base = s.base := by
  unfold State.supplyFailed; (repeat' split) <;> first | rfl | simp

@[simp] theorem enterLockout_base : s.enterLockout.base = s.base := by
  simp [State.enterLockout]

@[simp] theorem dischargeTaken_base (v : Nat) : (s.dischargeTaken v).base = s.base := by
  unfold State.dischargeTaken; (repeat' split) <;> rfl

@[simp] theorem dischargeFailed_base : s.dischargeFailed.base = s.base := by
  unfold State.dischargeFailed; (repeat' split) <;> rfl

@[simp] theorem endLockout_base : s.endLockout.base = s.base := by
  unfold State.endLockout; (repeat' split) <;> first | rfl | simp

@[simp] theorem esdCauseSet_base : s.esdCauseSet.base = s.base := by
  simp [State.esdCauseSet]

@[simp] theorem esdCauseCleared_base : s.esdCauseCleared.base = s.base := by
  simp [State.esdCauseCleared]

@[simp] theorem returnCredit_base : s.returnCredit.base = s.base := by
  simp [State.returnCredit]

/-! ### Machine/Cascade.lean -/

@[simp] theorem recomputeInventory_base (b : Fin 6) : (s.recomputeInventory b).base = s.base := by
  unfold State.recomputeInventory; (repeat' split) <;> rfl

@[simp] theorem joinBank_base (p : Fin 4) (b : Fin 6) : (s.joinBank p b).base = s.base := by
  simp [State.joinBank]

@[simp] theorem leaveBank_base (p : Fin 4) : (s.leaveBank p).base = s.base := by
  simp [State.leaveBank]

@[simp] theorem reportLeft_base (b : Option (Fin 6)) : (s.reportLeft b).base = s.base := by
  unfold State.reportLeft; (repeat' split) <;> first | rfl | simp

@[simp] theorem releaseDraw_base (p : Fin 4) : (s.releaseDraw p).base = s.base := by
  simp [State.releaseDraw]

@[simp] theorem queueEntryTest_base (b : Fin 6) : (s.queueEntryTest b).base = s.base := by
  unfold State.queueEntryTest; (repeat' split) <;> first | rfl | simp

@[simp] theorem queueEntryAtCommission_base (b : Fin 6) : (s.queueEntryAtCommission b).base = s.base := by
  unfold State.queueEntryAtCommission; (repeat' split) <;> rfl

/-! ### Machine/Fill.lean -/

@[simp] theorem enterEndingCore_base (p : Fin 4) (reason : EndReason) : (s.enterEndingCore p reason).base = s.base := by
  unfold State.enterEndingCore; dsimp only; (repeat' split) <;> first | rfl | simp

@[simp] theorem putFactor_base (p : Fin 4) (f : Factor) (b : Bool) : (s.putFactor p f b).base = s.base := by
  simp [State.putFactor]

@[simp] theorem enterHeld_base (p : Fin 4) : (s.enterHeld p).base = s.base := by
  simp [State.enterHeld]

@[simp] theorem activateCore_base (p : Fin 4) (f : Factor) : (s.activateCore p f).base = s.base := by
  unfold State.activateCore; (repeat' split) <;> first | rfl | simp

@[simp] theorem bankLowCore_base (p : Fin 4) : (s.bankLowCore p).base = s.base := by
  unfold State.bankLowCore; dsimp only; (repeat' split) <;> first | rfl | simp

@[simp] theorem releaseHold_base (p : Fin 4) : (s.releaseHold p).base = s.base := by
  unfold State.releaseHold; (repeat' split) <;> rfl

@[simp] theorem clearFactor_base (p : Fin 4) (f : Factor) : (s.clearFactor p f).base = s.base := by
  unfold State.clearFactor; dsimp only; (repeat' split) <;> first | rfl | simp

@[simp] theorem recordProfile_base (p : Fin 4) (i : Fin 16) (grade : Option Grade) (mode : CommMode) :
    (s.recordProfile p i grade mode).base = s.base := by
  simp [State.recordProfile]

theorem relookup_base {t : State} (p : Fin 4) (grade : Option Grade) (mode : CommMode)
    (h : s.relookup p grade mode = some t) : t.base = s.base := by
  unfold State.relookup at h; split at h
  · cases h
  · cases h; simp

@[simp] theorem relookupWarm_base (p : Fin 4) : (s.relookupWarm p).base = s.base := by
  unfold State.relookupWarm; split
  · exact relookup_base _ _ _ _ ‹_›
  · simp

@[simp] theorem relookupNonComm_base (p : Fin 4) : (s.relookupNonComm p).base = s.base := by
  unfold State.relookupNonComm; split
  · exact relookup_base _ _ _ _ ‹_›
  · simp

@[simp] theorem enterFuelling_base (p : Fin 4) (b : Fin 6) : (s.enterFuelling p b).base = s.base := by
  simp [State.enterFuelling]

@[simp] theorem startWithoutBank_base (p : Fin 4) : (s.startWithoutBank p).base = s.base := by
  unfold State.startWithoutBank; dsimp only; (repeat' split) <;> first | rfl | simp

@[simp] theorem beginFill_base (p : Fin 4) (i : Fin 16) (f : FillProfile) (pInit : Nat) :
    (s.beginFill p i f pInit).base = s.base := by
  unfold State.beginFill; dsimp only; (repeat' split) <;> first | rfl | simp

@[simp] theorem startLookupCore_base (p : Fin 4) : (s.startLookupCore p).base = s.base := by
  unfold State.startLookupCore; dsimp only; (repeat' split) <;> first | rfl | simp

@[simp] theorem enterCoolWaitCore_base (p : Fin 4) : (s.enterCoolWaitCore p).base = s.base := by
  unfold State.enterCoolWaitCore; dsimp only; (repeat' split) <;> first | rfl | simp

@[simp] theorem modLink_base (p : Fin 4) (f : LinkContext → LinkContext) : (s.modLink p f).base = s.base := by
  simp [State.modLink]

@[simp] theorem vehicleChecksCore_base (p : Fin 4) : (s.vehicleChecksCore p).base = s.base := by
  unfold State.vehicleChecksCore; dsimp only; (repeat' split) <;> first | rfl | simp

@[simp] theorem leaveSettleCore_base (p : Fin 4) : (s.leaveSettleCore p).base = s.base := by
  unfold State.leaveSettleCore; (repeat' split) <;> first | rfl | simp

@[simp] theorem advanceCore_base (p : Fin 4) : (s.advanceCore p).base = s.base := by
  unfold State.advanceCore; dsimp only; (repeat' split) <;> first | rfl | simp

@[simp] theorem advanceUnlessHalted_base (p : Fin 4) : (s.advanceUnlessHalted p).base = s.base := by
  unfold State.advanceUnlessHalted; (repeat' split) <;> first | rfl | simp

@[simp] theorem grantSlot_base (p : Fin 4) : (s.grantSlot p).base = s.base := by
  simp [State.grantSlot]

@[simp] theorem endCoolWaitCore_base (p : Fin 4) : (s.endCoolWaitCore p).base = s.base := by
  unfold State.endCoolWaitCore; (repeat' split) <;> first | rfl | simp

@[simp] theorem grantUpTo_base (n : Nat) : (State.grantUpTo n s).base = s.base := by
  induction n generalizing s with
  | zero => rfl
  | succ n ih => unfold State.grantUpTo; (repeat' split) <;> simp [ih]

@[simp] theorem makeGrants_base : s.makeGrants.base = s.base := by
  simp [State.makeGrants]

@[simp] theorem requestSlot_base (p : Fin 4) : (s.requestSlot p).base = s.base := by
  unfold State.requestSlot; dsimp only; (repeat' split) <;> rfl

@[simp] theorem enterPulseCore_base (p : Fin 4) : (s.enterPulseCore p).base = s.base := by
  unfold State.enterPulseCore; (repeat' split) <;> first | rfl | simp

@[simp] theorem enterStartingCore_base (p : Fin 4) : (s.enterStartingCore p).base = s.base := by
  unfold State.enterStartingCore; dsimp only; (repeat' split) <;> first | rfl | simp

@[simp] theorem startTest_base (p : Fin 4) : (s.startTest p).base = s.base := by
  unfold State.startTest; (repeat' split) <;> first | rfl | simp

@[simp] theorem enterSettle_base (p : Fin 4) : (s.enterSettle p).base = s.base := by
  simp [State.enterSettle]

@[simp] theorem endFill_base (p : Fin 4) (reason : EndReason) : (s.endFill p reason).base = s.base := by
  simp [State.endFill]

@[simp] theorem activate_base (p : Fin 4) (f : Factor) : (s.activate p f).base = s.base := by
  simp [State.activate]

@[simp] theorem switchTo_base (p : Fin 4) (b : Fin 6) : (s.switchTo p b).base = s.base := by
  simp [State.switchTo]

@[simp] theorem writeHoldTime_base (p : Fin 4) : (s.writeHoldTime p).base = s.base := by
  simp [State.writeHoldTime]

@[simp] theorem stopShort_base (p : Fin 4) : (s.stopShort p).base = s.base := by
  unfold State.stopShort; split <;> simp

@[simp] theorem resume_base (p : Fin 4) : (s.resume p).base = s.base := by
  unfold State.resume; (repeat' split) <;> first | rfl | simp

@[simp] theorem promote_base (p : Fin 4) : (s.promote p).base = s.base := by
  unfold State.promote; dsimp only; (repeat' split) <;> first | rfl | simp

@[simp] theorem detachActive_base (p : Fin 4) : (s.detachActive p).base = s.base := by
  simp [State.detachActive]

@[simp] theorem holsterEnded_base (p : Fin 4) : (s.holsterEnded p).base = s.base := by
  unfold State.holsterEnded; dsimp only; (repeat' split) <;> first | rfl | simp

/-! ### Machine/Chiller.lean -/

@[simp] theorem setChiller_base (c : ChillerState) : (s.setChiller c).base = s.base := by
  simp [State.setChiller]

@[simp] theorem setReady_base (v : Nat) : (s.setReady v).base = s.base := by
  simp [State.setReady]

@[simp] theorem giveUpCooling_base (p : Fin 4) : (s.giveUpCooling p).base = s.base := by
  simp [State.giveUpCooling]

@[simp] theorem loseSlot_base (p : Fin 4) : (s.loseSlot p).base = s.base := by
  unfold State.loseSlot; (repeat' split) <;> first | rfl | simp

@[simp] theorem releaseSlots_base : s.releaseSlots.base = s.base := by
  unfold State.releaseSlots; dsimp only; rw [foldl_base _ (fun s p => loseSlot_base s p)]; simp

@[simp] theorem withdrawWaiter_base (p : Fin 4) : (s.withdrawWaiter p).base = s.base := by
  simp [State.withdrawWaiter]

@[simp] theorem withdrawWaiters_base : s.withdrawWaiters.base = s.base := by
  unfold State.withdrawWaiters; rw [foldl_base _ (fun s p => withdrawWaiter_base s p)]; simp

@[simp] theorem enterFault_base : s.enterFault.base = s.base := by
  simp [State.enterFault]

@[simp] theorem faultArises_base : s.faultArises.base = s.base := by
  unfold State.faultArises; (repeat' split) <;> first | rfl | simp

@[simp] theorem faultLineChange_base (active : Bool) : (s.faultLineChange active).base = s.base := by
  unfold State.faultLineChange; dsimp only; (repeat' split) <;> first | rfl | simp

@[simp] theorem coolantFailed_base : s.coolantFailed.base = s.base := by
  unfold State.coolantFailed; dsimp only; (repeat' split) <;> first | rfl | simp

@[simp] theorem coolantReturned_base : s.coolantReturned.base = s.base := by
  simp [State.coolantReturned]

@[simp] theorem coolantTaken_base (v : Nat) : (s.coolantTaken v).base = s.base := by
  unfold State.coolantTaken; dsimp only; (repeat' split) <;> first | rfl | simp

@[simp] theorem enterPulldown_base : s.enterPulldown.base = s.base := by
  unfold State.enterPulldown; dsimp only; (repeat' split) <;> first | rfl | simp

@[simp] theorem switchChillerOn_base : s.switchChillerOn.base = s.base := by
  unfold State.switchChillerOn; (repeat' split) <;> first | rfl | simp

@[simp] theorem recomputeOffered_base : s.recomputeOffered.base = s.base := by
  simp [State.recomputeOffered]

@[simp] theorem recomputeOffered_chiller : s.recomputeOffered.precool.chiller = s.precool.chiller := rfl

/-- R160 (1): outside READY the offered grade is G0. -/
theorem recomputeOffered_notReady (h : s.precool.chiller ≠ .ready) : s.recomputeOffered.precool.offered = .g0 := by
  simp only [State.recomputeOffered, State.modPcl]
  cases hc : s.precool.chiller with
  | ready => exact absurd hc h
  | off => rfl
  | pulldown => rfl
  | fault => rfl

/-- R160 (2): in READY the offered grade follows the last coolant value. -/
theorem recomputeOffered_ready (h : s.precool.chiller = .ready) {v : Nat} (hv : s.coolantValue = some v) :
    s.recomputeOffered.precool.offered = s.site.gradeFor v := by
  simp [State.recomputeOffered, State.modPcl, h, hv]

@[simp] theorem commissionChiller_base : s.commissionChiller.base = s.base := by
  unfold State.commissionChiller; (repeat' split) <;> first | rfl | simp

@[simp] theorem switchChillerOff_base : s.switchChillerOff.base = s.base := by
  simp [State.switchChillerOff]

@[simp] theorem decommissionPrecool_base : s.decommissionPrecool.base = s.base := by
  simp [State.decommissionPrecool]

@[simp] theorem superviseTGas_base (p : Fin 4) (v : Nat) : (s.superviseTGas p v).base = s.base := by
  unfold State.superviseTGas; (repeat' split) <;> rfl

@[simp] theorem fallBack_base (p : Fin 4) (candidate : Grade) : (s.fallBack p candidate).base = s.base := by
  unfold State.fallBack; dsimp only; (repeat' split) <;> rfl

@[simp] theorem fallbackExpired_base (p : Fin 4) : (s.fallbackExpired p).base = s.base := by
  unfold State.fallbackExpired; dsimp only; split
  · split
    · next t h => rw [fallBack_base, relookup_base _ _ _ _ h]; simp
    · simp
  · simp

/-! ### Machine/Isolation.lean -/

@[simp] theorem displace_base (p : Fin 4) : (s.displace p).base = s.base := by
  unfold State.displace; dsimp only; (repeat' split) <;> first | rfl | simp

@[simp] theorem displaceAll_base (b : Fin 6) : (s.displaceAll b).base = s.base := by
  refine foldl_base _ (fun s p => ?_) _ s; split <;> simp

@[simp] theorem isolate_base (b : Fin 6) : (s.isolate b).base = s.base := by
  unfold State.isolate; (repeat' split) <;> first | rfl | simp

@[simp] theorem reportBank_base (p : Fin 4) : (s.reportBank p).base = s.base := by
  unfold State.reportBank; (repeat' split) <;> first | rfl | simp

@[simp] theorem reportWaiting_base : s.reportWaiting.base = s.base := foldl_base _ reportBank_base _ s

@[simp] theorem bankPressureTaken_base (b : Fin 6) (v : Nat) : (s.bankPressureTaken b v).base = s.base := by
  unfold State.bankPressureTaken; dsimp only; (repeat' split) <;> first | rfl | simp

@[simp] theorem bankTemperatureTaken_base (b : Fin 6) (v : Nat) : (s.bankTemperatureTaken b v).base = s.base := by
  unfold State.bankTemperatureTaken; dsimp only; (repeat' split) <;> first | rfl | simp

@[simp] theorem returnToReady_base (b : Fin 6) : (s.returnToReady b).base = s.base := by
  simp [State.returnToReady]

/-! ### Machine/Control.lean -/

@[simp] theorem stepRamp_base (p : Fin 4) (f : FillProfile) : (s.stepRamp p f).base = s.base := by
  simp [State.stepRamp]

@[simp] theorem recordSoc_base (p : Fin 4) (soc : Option Nat) : (s.recordSoc p soc).base = s.base := by
  unfold State.recordSoc; (repeat' split) <;> first | rfl | simp

@[simp] theorem countTests_base (p : Fin 4) (f : FillProfile) : (s.countTests p f).base = s.base := by
  unfold State.countTests; dsimp only; (repeat' split) <;> rfl

@[simp] theorem stepTaper_base (p : Fin 4) (f : FillProfile) (soc : Option Nat) :
    (s.stepTaper p f soc).base = s.base := by
  unfold State.stepTaper; (repeat' split) <;> rfl

@[simp] theorem restartStep_base (p : Fin 4) : (s.restartStep p).base = s.base := by
  simp [State.restartStep]

@[simp] theorem stepCascade_base (p : Fin 4) (f : FillProfile) (soc : Option Nat) :
    (s.stepCascade p f soc).base = s.base := by
  unfold State.stepCascade; dsimp only; (repeat' split) <;> first | rfl | simp

@[simp] theorem runStep_base (p : Fin 4) : (s.runStep p).base = s.base := by
  unfold State.runStep; dsimp only; (repeat' split) <;> first | rfl | simp

@[simp] theorem wholePulse_base (p : Fin 4) (forward : Bool) : (s.wholePulse p forward).base = s.base := by
  unfold State.wholePulse; dsimp only; (repeat' split) <;> first | rfl | simp

@[simp] theorem phaseFault_base (p : Fin 4) : (s.phaseFault p).base = s.base := by
  unfold State.phaseFault; dsimp only; (repeat' split) <;> first | rfl | simp

@[simp] theorem quarterStep_base (p : Fin 4) (forward : Bool) : (s.quarterStep p forward).base = s.base := by
  unfold State.quarterStep; dsimp only; (repeat' split) <;> first | rfl | simp

@[simp] theorem meterChange_base (p : Fin 4) (a b : Bool) : (s.meterChange p a b).base = s.base := by
  unfold State.meterChange; dsimp only; (repeat' split) <;> first | rfl | simp

/-! ### Machine/Link.lean -/

@[simp] theorem runHeld_base (p : Fin 4) (release : Release) : (s.runHeld p release).base = s.base := by
  unfold State.runHeld; dsimp only; (repeat' split) <;> first | rfl | simp

@[simp] theorem runStarting_base (p : Fin 4) : (s.runStarting p).base = s.base := by
  unfold State.runStarting; (repeat' split) <;> first | rfl | simp

@[simp] theorem vehicleCommand_base (p : Fin 4) (c : VehicleCommand) : (s.vehicleCommand p c).base = s.base := by
  unfold State.vehicleCommand; (repeat' split) <;> first | rfl | simp

@[simp] theorem linkLoss_base (p : Fin 4) : (s.linkLoss p).base = s.base := by
  unfold State.linkLoss; (repeat' split) <;> first | rfl | simp

@[simp] theorem stallLink_base (p : Fin 4) : (s.stallLink p).base = s.base := by
  unfold State.stallLink; dsimp only; (repeat' split) <;> first | rfl | simp

@[simp] theorem loseLink_base (p : Fin 4) : (s.loseLink p).base = s.base := by
  simp [State.loseLink]

@[simp] theorem frameInStream_base (p : Fin 4) (f : VehicleFrame) : (s.frameInStream p f).base = s.base := by
  unfold State.frameInStream; dsimp only; (repeat' split) <;> first | rfl | simp

@[simp] theorem frameInListen_base (p : Fin 4) (f : VehicleFrame) : (s.frameInListen p f).base = s.base := by
  unfold State.frameInListen; (repeat' split) <;> first | rfl | simp

@[simp] theorem vehicleFrame_base (p : Fin 4) (bytes : List Byte) : (s.vehicleFrame p bytes).base = s.base := by
  unfold State.vehicleFrame; (repeat' split) <;> first | rfl | simp

@[simp] theorem listen_base (p : Fin 4) : (s.listen p).base = s.base := by
  unfold State.listen; (repeat' split) <;> rfl

@[simp] theorem enterCalling_base (p : Fin 4) : (s.enterCalling p).base = s.base := by
  unfold State.enterCalling; dsimp only; (repeat' split) <;> first | rfl | simp

@[simp] theorem nozzleLifted_base (p : Fin 4) : (s.nozzleLifted p).base = s.base := by
  unfold State.nozzleLifted; (repeat' split) <;> first | rfl | simp

@[simp] theorem nozzleHolstered_base (p : Fin 4) : (s.nozzleHolstered p).base = s.base := by
  unfold State.nozzleHolstered; (repeat' split) <;> first | rfl | simp

@[simp] theorem couplingClosed_base (p : Fin 4) : (s.couplingClosed p).base = s.base := by
  unfold State.couplingClosed; (repeat' split) <;> first | rfl | simp

@[simp] theorem couplingOpened_base (p : Fin 4) : (s.couplingOpened p).base = s.base := by
  simp [State.couplingOpened]

/-! ### Machine/FillTimers.lean -/

@[simp] theorem lookUpVariant_base (p : Fin 4) : (s.lookUpVariant p).base = s.base := by
  unfold State.lookUpVariant; (repeat' split) <;> rfl

@[simp] theorem takePInit_base (p : Fin 4) : (s.takePInit p).base = s.base := by
  simp [State.takePInit]

@[simp] theorem settleEnded_base (p : Fin 4) : (s.settleEnded p).base = s.base := by
  unfold State.settleEnded; dsimp only; (repeat' split) <;> first | rfl | simp

@[simp] theorem leakCheckEnded_base (p : Fin 4) : (s.leakCheckEnded p).base = s.base := by
  unfold State.leakCheckEnded; dsimp only; (repeat' split) <;> first | rfl | simp

@[simp] theorem coolWaitEnded_base (p : Fin 4) : (s.coolWaitEnded p).base = s.base := by
  simp [State.coolWaitEnded]

@[simp] theorem ventEnded_base (p : Fin 4) : (s.ventEnded p).base = s.base := by
  unfold State.ventEnded; dsimp only; (repeat' split) <;> first | rfl | simp

@[simp] theorem delayEnded_base (p : Fin 4) : (s.delayEnded p).base = s.base := by
  unfold State.delayEnded; dsimp only; (repeat' split) <;> first | rfl | simp

@[simp] theorem holdExhausted_base (p : Fin 4) : (s.holdExhausted p).base = s.base := by
  simp [State.holdExhausted]

/-! ### Machine/CompressorTimers.lean -/

@[simp] theorem unloadedEnded_base : s.unloadedEnded.base = s.base := by
  simp [State.unloadedEnded]

end Sys2Proof.Machine
end

