-- ==== Sys2Proof/Laws/Plant.lean ====
section
/-! SUPPORT. What the operations of the compressor and of the draw sets may change: the compressor and the pending flags,
and, where a position joins or leaves a draw set, that position. -/

namespace Sys2Proof.Machine

/-- Two states that differ in the compressor and the pending flags alone. -/
def CompressorOnly (s t : State) : Prop :=
  t = { s with compressor := t.compressor, pendingFlags := t.pendingFlags }

theorem CompressorOnly.refl (s : State) : CompressorOnly s s := rfl

theorem CompressorOnly.trans {s t u : State} (h : CompressorOnly s t) (k : CompressorOnly t u) : CompressorOnly s u := by
  unfold CompressorOnly at *
  rw [h] at k
  exact k

theorem CompressorOnly.pos {s t : State} (h : CompressorOnly s t) (p : Fin 4) : t.pos p = s.pos p := by
  unfold CompressorOnly at h; rw [h]; rfl

theorem CompressorOnly.positions {s t : State} (h : CompressorOnly s t) : t.positions = s.positions := by
  unfold CompressorOnly at h; rw [h]

theorem CompressorOnly.tickets {s t : State} (h : CompressorOnly s t) : t.tickets = s.tickets := by
  unfold CompressorOnly at h; rw [h]

theorem CompressorOnly.precool {s t : State} (h : CompressorOnly s t) : t.precool = s.precool := by
  unfold CompressorOnly at h; rw [h]

theorem CompressorOnly.banks {s t : State} (h : CompressorOnly s t) : t.banks = s.banks := by
  unfold CompressorOnly at h; rw [h]

theorem CompressorOnly.waiting {s t : State} (h : CompressorOnly s t) : t.waiting = s.waiting := by
  unfold CompressorOnly at h; rw [h]

theorem modCmp_only (s : State) (f : Compressor → Compressor) : CompressorOnly s (s.modCmp f) := rfl

theorem raise_only (s : State) (e : EventFlag) : CompressorOnly s (s.raise e) := rfl

/-! ### The compressor -/

theorem refillBank_only (s : State) (b : Fin 6) : CompressorOnly s (s.refillBank b) := rfl

theorem chooseNext_only (s : State) (leave : Option (Fin 6)) : CompressorOnly s (s.chooseNext leave) := by
  unfold State.chooseNext; split <;> rfl

theorem chooseUnloaded_only (s : State) : CompressorOnly s s.chooseUnloaded := by
  unfold State.chooseUnloaded; split <;> rfl

theorem compressorStartTest_only (s : State) : CompressorOnly s s.compressorStartTest := by
  unfold State.compressorStartTest State.waitForCredit; repeat' split
  all_goals rfl

theorem bankMayBeChosen_only (s : State) : CompressorOnly s s.bankMayBeChosen := by
  unfold State.bankMayBeChosen; split
  · exact compressorStartTest_only s
  · exact chooseUnloaded_only s
  all_goals rfl

theorem addBank_only (s : State) (b : Fin 6) : CompressorOnly s (s.addBank b) :=
  (modCmp_only s _).trans (bankMayBeChosen_only _)

theorem removeBank_only (s : State) (b : Fin 6) : CompressorOnly s (s.removeBank b) := by
  unfold State.removeBank; dsimp only; split
  · exact ((modCmp_only s _).trans (modCmp_only _ _)).trans (chooseNext_only _ _)
  · rfl

theorem refillProgress_only (s : State) (b : Fin 6) (p : Nat) : CompressorOnly s (s.refillProgress b p) := by
  unfold State.refillProgress; split
  · exact removeBank_only s b
  · rfl

theorem suspendForDraw_only (s : State) (b : Fin 6) : CompressorOnly s (s.suspendForDraw b) := by
  unfold State.suspendForDraw; split
  · exact (modCmp_only s _).trans (chooseNext_only _ _)
  · rfl

theorem reportEmptyDraw_only (s : State) (b : Fin 6) : CompressorOnly s (s.reportEmptyDraw b) := by
  unfold State.reportEmptyDraw; split
  · exact bankMayBeChosen_only s
  · rfl

theorem reportLeft_only (s : State) (b : Option (Fin 6)) : CompressorOnly s (s.reportLeft b) := by
  unfold State.reportLeft; repeat' split
  · exact reportEmptyDraw_only s _
  all_goals rfl

theorem queueEntryTest_only (s : State) (b : Fin 6) : CompressorOnly s (s.queueEntryTest b) := by
  unfold State.queueEntryTest; split
  · exact addBank_only s b
  · rfl

theorem stopMotor_only (s : State) : CompressorOnly s s.stopMotor := by
  unfold State.stopMotor; split <;> rfl

theorem enterStopped_only (s : State) : CompressorOnly s s.enterStopped :=
  (modCmp_only s _).trans (compressorStartTest_only _)

theorem supplyTaken_only (s : State) (v : Nat) : CompressorOnly s (s.supplyTaken v) := by
  unfold State.supplyTaken; dsimp only; repeat' split
  · rfl
  · exact (modCmp_only s _).trans (compressorStartTest_only _)
  · exact ((modCmp_only s _).trans (raise_only _ _)).trans (stopMotor_only _)

theorem supplyFailed_only (s : State) : CompressorOnly s s.supplyFailed := by
  unfold State.supplyFailed; split
  · rfl
  · exact ((modCmp_only s _).trans (raise_only _ _)).trans (stopMotor_only _)

theorem dischargeTaken_only (s : State) (v : Nat) : CompressorOnly s (s.dischargeTaken v) := by
  unfold State.dischargeTaken; repeat' split
  all_goals rfl

theorem dischargeFailed_only (s : State) : CompressorOnly s s.dischargeFailed := by
  unfold State.dischargeFailed; split <;> rfl

theorem esdCauseSet_only (s : State) : CompressorOnly s s.esdCauseSet :=
  (modCmp_only s _).trans (stopMotor_only _)

theorem esdCauseCleared_only (s : State) : CompressorOnly s s.esdCauseCleared :=
  (modCmp_only s _).trans (compressorStartTest_only _)

/-! ### Draw sets -/

/-- R129: joining a draw set suspends a refill of the bank and writes the position's draw bank. -/
theorem joinBank_eq (s : State) (p : Fin 4) (b : Fin 6) :
    s.joinBank p b =
      { s with
        positions := setAt s.positions p { s.pos p with drawBank := some b }
        compressor := (s.suspendForDraw b).compressor
        pendingFlags := (s.suspendForDraw b).pendingFlags } := by
  have h := suspendForDraw_only s b
  have hp := h.positions
  unfold CompressorOnly at h
  unfold State.joinBank State.modPos modAt
  rw [hp]
  conv_lhs => rw [h]
  rfl

/-- R130: leaving a draw set writes the position's draw bank and reports an emptied set. -/
theorem releaseDraw_eq (s : State) (p : Fin 4) :
    s.releaseDraw p =
      { s with
        positions := setAt s.positions p { s.pos p with drawBank := none }
        compressor := (s.releaseDraw p).compressor
        pendingFlags := (s.releaseDraw p).pendingFlags } :=
  reportLeft_only (s.leaveBank p) (s.pos p).drawBank

@[simp] theorem joinBank_precool (s : State) (p : Fin 4) (b : Fin 6) : (s.joinBank p b).precool = s.precool := by
  rw [joinBank_eq]

@[simp] theorem releaseDraw_precool (s : State) (p : Fin 4) : (s.releaseDraw p).precool = s.precool := by
  rw [releaseDraw_eq]

theorem joinBank_pos (s : State) (p q : Fin 4) (b : Fin 6) :
    (s.joinBank p b).pos q = if q = p then { s.pos p with drawBank := some b } else s.pos q := by
  rw [joinBank_eq]; exact get_setAt _ _ _ _

theorem releaseDraw_pos (s : State) (p q : Fin 4) :
    (s.releaseDraw p).pos q = if q = p then { s.pos p with drawBank := none } else s.pos q := by
  rw [releaseDraw_eq]; exact get_setAt _ _ _ _

/-- R128, R129: a selection takes an eligible bank. -/
theorem selectedBank_eligible {s : State} {p : Fin 4} {leaving : Option (Fin 6)} {b : Fin 6}
    (h : s.selectedBank p leaving = some b) : s.eligible p leaving b = true := by
  unfold State.selectedBank at h
  have hm : b ∈ s.eligibleBanks p leaving := by
    dsimp only at h
    cases hf : (s.eligibleBanks p leaving).find? fun b => s.refillStatus b != .active with
    | some x =>
      rw [hf] at h; cases h
      exact List.mem_of_find?_eq_some hf
    | none =>
      rw [hf] at h
      exact List.mem_of_mem_head? (by simpa using h)
  exact (List.mem_filter.mp hm).2

end Sys2Proof.Machine
end

