-- ==== Sys2Proof/Laws/Fill.lean ====
section
/-! SUPPORT. What the ends, the holds and the grants of a fill do, once for each operation. -/

namespace Sys2Proof.Machine

/-! ### Positions that an event does not name -/

/-- Every position but one stands. -/
def OthersStand (p : Fin 4) (s t : State) : Prop := ∀ q, q ≠ p → t.pos q = s.pos q

theorem OthersStand.refl (p : Fin 4) (s : State) : OthersStand p s s := fun _ _ => rfl

theorem OthersStand.trans {p : Fin 4} {s t u : State} (h : OthersStand p s t) (k : OthersStand p t u) :
    OthersStand p s u := fun q hq => (k q hq).trans (h q hq)

theorem modPos_others (s : State) (p : Fin 4) (f : Position → Position) : OthersStand p s (s.modPos p f) :=
  fun _ hq => get_modAt_ne _ _ hq

theorem CompressorOnly.others {s t : State} (h : CompressorOnly s t) (p : Fin 4) : OthersStand p s t :=
  fun q _ => h.pos q

theorem modActive_others (s : State) (p : Fin 4) (f : Ticket → Ticket) : OthersStand p s (s.modActive p f) :=
  fun q _ => modActive_pos s p f q

theorem releaseDraw_others (s : State) (p : Fin 4) : OthersStand p s (s.releaseDraw p) :=
  fun q hq => by rw [releaseDraw_pos, if_neg hq]

theorem joinBank_others (s : State) (p : Fin 4) (b : Fin 6) : OthersStand p s (s.joinBank p b) :=
  fun q hq => by rw [joinBank_pos, if_neg hq]

theorem modPcl_others (s : State) (p : Fin 4) (f : Precool → Precool) : OthersStand p s (s.modPcl f) := fun _ _ => rfl
theorem setWaiting_others (s : State) (p q : Fin 4) (b : Bool) : OthersStand p s (s.setWaiting q b) := fun _ _ => rfl
theorem setFallback_others (s : State) (p q : Fin 4) (t : Option Nat) : OthersStand p s (s.setFallback q t) :=
  fun _ _ => rfl
theorem setGrade_others (s : State) (p q : Fin 4) (g : Option Grade) : OthersStand p s (s.setGrade q g) := fun _ _ => rfl
theorem raise_others (s : State) (p : Fin 4) (e : EventFlag) : OthersStand p s (s.raise e) := fun _ _ => rfl

/-! ### Entry into ENDING -/

theorem enterEndingCore_idle {s : State} {p : Fin 4} (h : (s.pos p).state.filling = false) (r : EndReason) :
    s.enterEndingCore p r = s := by
  simp [State.enterEndingCore, h]

theorem enterEndingCore_others (s : State) (p : Fin 4) (r : EndReason) : OthersStand p s (s.enterEndingCore p r) := by
  unfold State.enterEndingCore; split
  · exact (((((modActive_others s p _).trans (modPos_others _ p _)).trans (releaseDraw_others _ p)).trans
      (modPcl_others _ p _)).trans (setWaiting_others _ p p _)).trans (modPos_others _ p _)
  · exact OthersStand.refl p s

theorem pos_setWaiting (s : State) (p q : Fin 4) (b : Bool) : (s.setWaiting p b).pos q = s.pos q := rfl
theorem pos_modPcl (s : State) (f : Precool → Precool) (q : Fin 4) : (s.modPcl f).pos q = s.pos q := rfl

/-- R60: the position at entry into ENDING. -/
theorem enterEndingCore_pos {s : State} {p : Fin 4} (h : (s.pos p).state.filling = true) (r : EndReason) :
    (s.enterEndingCore p r).pos p = endedPosition (s.pos p) (s.site.ventTime * 1000) := by
  have hsite : ∀ (t : State) (k : PosSet → PosSet), ({ t with waiting := k t.waiting } : State).site = t.site :=
    fun _ _ => rfl
  have e1 : ((s.modActive p fun t => { t with endReason := some r }).modPos p fun q => { q with valve := 0 }).pos p
      = { s.pos p with valve := 0 } := by
    rw [show ∀ t : State, (t.modPos p fun q => { q with valve := 0 }).pos p = { t.pos p with valve := 0 } from
      fun t => get_modAt_self _ _ _, modActive_pos]
  have e2 : (((s.modActive p fun t => { t with endReason := some r }).modPos p fun q => { q with valve := 0 }).releaseDraw
      p).pos p = { s.pos p with valve := 0, drawBank := none } := by
    rw [releaseDraw_pos, if_pos rfl, e1]
  have e3 : (((s.modActive p fun t => { t with endReason := some r }).modPos p fun q => { q with valve := 0 }).releaseDraw
      p).site = s.site := by
    rw [releaseDraw_eq]
    simp
  simp only [State.enterEndingCore, h, if_true]
  rw [show ∀ (t : State) (f : Position → Position), (t.modPos p f).pos p = f (t.pos p) from
    fun t f => get_modAt_self _ _ _, pos_setWaiting, pos_modPcl, e2]
  change Position.toEnding _ ((((s.modActive p fun t => { t with endReason := some r }).modPos p fun q =>
    { q with valve := 0 }).releaseDraw p).site.ventTime * 1000) = _
  rw [e3]
  rfl

/-! ### Entry into HELD -/

theorem enterHeld_others (s : State) (p : Fin 4) : OthersStand p s (s.enterHeld p) := by
  unfold State.enterHeld
  exact ((((modPos_others s p _).trans (releaseDraw_others _ p)).trans (setFallback_others _ p p _)).trans
    (modPos_others _ p _)).trans (raise_others _ p _)

/-- R112: an active factor does not become active again. -/
theorem activateCore_active {s : State} {p : Fin 4} {f : Factor} (h : (s.pos p).factors.has f = true) :
    s.activateCore p f = s := by
  simp [State.activateCore, h]

theorem activateCore_others (s : State) (p : Fin 4) (f : Factor) : OthersStand p s (s.activateCore p f) := by
  unfold State.activateCore
  repeat' split
  all_goals
    first
      | exact OthersStand.refl p s
      | exact modPos_others s p _
      | exact enterEndingCore_others s p _
      | exact (modPos_others s p _).trans (enterHeld_others _ p)

theorem clearFactor_others (s : State) (p : Fin 4) (f : Factor) : OthersStand p s (s.clearFactor p f) := by
  unfold State.clearFactor State.releaseHold
  dsimp only
  repeat' split
  all_goals
    first
      | exact OthersStand.refl p s
      | exact modPos_others s p _
      | exact (modPos_others s p _).trans (modPos_others _ p _)

/-! ### The clearing of a factor -/

/-- R106, R112: the disposition that the model reads is the one that the statements name. -/
theorem endedBy_eq (c : PositionConfig) (f : Factor) : c.endedBy f = endingReason c f := by cases f <;> rfl

theorem FactorSet.put_false_of_inactive {s : FactorSet} {f : Factor} (h : s.has f = false) : s.put f false = s := by
  cases f <;> cases s <;> simp_all [FactorSet.has, FactorSet.put]

theorem modPos_self (s : State) (p : Fin 4) (f : Position → Position) (h : f (s.pos p) = s.pos p) : s.modPos p f = s := by
  simp only [State.modPos, modAt]
  rw [show f (s.positions.get p) = s.positions.get p from h, setAt_get_self]

/-- R112, R115: what the clearing of a factor does, whole. -/
theorem clearFactor_eq (s : State) (p : Fin 4) (f : Factor) :
    s.clearFactor p f = s.modPos p fun q => clearedPosition (s.cfg p) q f := by
  have e : (s.putFactor p f false).pos p = { s.pos p with factors := (s.pos p).factors.put f false } :=
    get_modAt_self _ _ _
  have c : (s.putFactor p f false).cfg p = s.cfg p := rfl
  have whole : ∀ g : Position → Position, g (s.pos p) = clearedPosition (s.cfg p) (s.pos p) f →
      s.modPos p g = s.modPos p fun q => clearedPosition (s.cfg p) q f := fun g hg => by
    simp only [State.modPos, modAt]
    rw [show g (s.positions.get p) = _ from hg]; rfl
  unfold State.clearFactor
  dsimp only
  by_cases h : (s.pos p).factors.has f = true
  · rw [if_pos h, e]
    by_cases hw : (s.pos p).state = .held .factorWait ∧ ((s.pos p).factors.put f false).isEmpty = true
    · have hc : (s.pos p).factors.put f false = .empty := (FactorSet.isEmpty_iff _).mp hw.2
      rw [if_pos hw]
      unfold State.releaseHold State.putFactor
      have c' : (s.modPos p fun q => { q with factors := q.factors.put f false }).cfg p = s.cfg p := rfl
      rw [c']
      cases hm : (s.cfg p).clearMode <;> simp only [modPos_modPos] <;> apply whole <;>
        simp [clearedPosition, h, hw.1, hc, hm]
    · have hc : ¬((s.pos p).factors.has f = true ∧ (s.pos p).state = .held .factorWait ∧
          (s.pos p).factors.put f false = .empty) := fun x => hw ⟨x.2.1, (FactorSet.isEmpty_iff _).mpr x.2.2⟩
      rw [if_neg hw]
      apply whole
      unfold clearedPosition
      dsimp only
      rw [if_neg hc]
  · have h' : (s.pos p).factors.has f = false := by simpa using h
    rw [if_neg h]
    refine (modPos_self s p _ ?_).symm
    simp [clearedPosition, h', FactorSet.put_false_of_inactive h']

/-! ### Grants -/

/-- R162: with no grant due, nothing is granted. -/
theorem makeGrants_of_noGrantDue {s : State} (h : noGrantDue s) : s.makeGrants = s := by
  unfold State.makeGrants
  rcases h with h | h
  · cases hq : s.precool.waitQueue with
    | nil => rfl
    | cons p rest => simp [State.grantUpTo, hq, h]
  · rw [h]; rfl

/-- R60, R163: an entry into ENDING lets at most the position itself leave the wait queue. -/
theorem enterEndingCore_waitQueue (s : State) (p : Fin 4) (r : EndReason) :
    (s.enterEndingCore p r).precool.waitQueue.length ≤ s.precool.waitQueue.length := by
  unfold State.enterEndingCore
  split
  · simp [Precool.releasePosition, List.length_erase_le]
  · exact le_rfl

/-- R113: an entry into HELD leaves the wait queue alone. -/
theorem enterHeld_waitQueue (s : State) (p : Fin 4) : (s.enterHeld p).precool.waitQueue = s.precool.waitQueue := by
  simp [State.enterHeld, State.setFallback]

/-- R57: the start lookup adds nothing to the wait queue. -/
theorem startLookupCore_waitQueue (s : State) (p : Fin 4) :
    (s.startLookupCore p).precool.waitQueue.length ≤ s.precool.waitQueue.length := by
  unfold State.startLookupCore State.beginFill
  dsimp only
  repeat' split
  all_goals
    first
      | exact enterEndingCore_waitQueue s p _
      | refine (enterEndingCore_waitQueue _ p _).trans (le_of_eq ?_); simp [State.recordProfile]
      | simp [State.enterFuelling, State.recordProfile, enterHeld_waitQueue]; done
      | unfold State.startWithoutBank
        split
        · refine (enterEndingCore_waitQueue _ p _).trans (le_of_eq ?_); simp [State.recordProfile]
        · simp [State.recordProfile, State.putFactor, enterHeld_waitQueue]

/-- R56: the end of a wait adds nothing to the wait queue. -/
theorem endCoolWaitCore_waitQueue (s : State) (p : Fin 4) :
    (s.endCoolWaitCore p).precool.waitQueue.length ≤ s.precool.waitQueue.length := by
  unfold State.endCoolWaitCore State.advanceUnlessHalted
  split
  · rename_i h
    have e : ((s.modPos p fun q => { q with coolWaitTimer := none }).pos p) = { s.pos p with coolWaitTimer := none } :=
      get_modAt_self _ _ _
    rw [e]
    split
    · exact le_rfl
    · unfold State.advanceCore
      simp only [e, h, Option.isNone_none, if_true]
      exact startLookupCore_waitQueue _ p
  · exact le_rfl

/-- R162: each grant shortens the wait queue, so a bound above its length makes no difference. -/
theorem grantUpTo_enough {n : Nat} {s : State} (h : s.precool.waitQueue.length ≤ n) :
    State.grantUpTo n s = s.makeGrants := by
  suffices k : ∀ (n m : Nat) (s : State), s.precool.waitQueue.length ≤ n → s.precool.waitQueue.length ≤ m →
      State.grantUpTo n s = State.grantUpTo m s from k n _ s h le_rfl
  intro n
  induction n with
  | zero =>
    intro m s hn _
    have hq : s.precool.waitQueue = [] := List.length_eq_zero_iff.mp (Nat.le_zero.mp hn)
    cases m <;> simp [State.grantUpTo, hq]
  | succ n ih =>
    intro m s hn hm
    cases hq : s.precool.waitQueue with
    | nil => cases m <;> simp [State.grantUpTo, hq]
    | cons p rest =>
      rw [hq] at hn hm
      cases m with
      | zero => simp at hm
      | succ m =>
        have g : (s.grantSlot p).precool.waitQueue = rest := by simp [State.grantSlot, hq]
        have l := endCoolWaitCore_waitQueue (s.grantSlot p) p
        rw [g] at l
        simp only [State.grantUpTo, hq]
        split
        · exact ih m _ (l.trans (Nat.le_of_succ_le_succ hn)) (l.trans (Nat.le_of_succ_le_succ hm))
        · rfl

/-- R162: while a slot is free the head of the wait queue is granted it and told, and the grants go on from there. -/
theorem makeGrants_head {s : State} {p : Fin 4} {rest : List (Fin 4)} (hq : s.precool.waitQueue = p :: rest)
    (hf : s.slotFree = true) : s.makeGrants = ((s.grantSlot p).endCoolWaitCore p).makeGrants := by
  have g : (s.grantSlot p).precool.waitQueue = rest := by simp [State.grantSlot, hq]
  have l := endCoolWaitCore_waitQueue (s.grantSlot p) p
  rw [g] at l
  rw [← grantUpTo_enough l]
  simp [State.makeGrants, State.grantUpTo, hq, hf]

/-- R56, R162: a grant ends the wait of a position in COOL_WAIT alone. -/
theorem endCoolWaitCore_elsewhere {s : State} {p : Fin 4} (h : (s.pos p).state ≠ .starting .coolWait) :
    s.endCoolWaitCore p = s := by
  simp [State.endCoolWaitCore, h]

end Sys2Proof.Machine
end

