-- ==== Sys2Proof/Laws/Requests.lean ====
section
/-! SUPPORT. What the shared parts of the requests do: operand numbers, the tests, the sender, and the answer. -/

namespace Sys2Proof.Machine

/-! ### Operand numbers -/

theorem positionOf_eq_some {b : Byte} {p : Fin 4} : positionOf b = some p ↔ p.val = b.toNat := by
  unfold positionOf; split
  · constructor
    · intro h; cases h; rfl
    · intro h; exact congrArg some (Fin.ext h.symm)
  · constructor
    · intro h; cases h
    · intro h; have := p.isLt; omega

theorem positionOf_eq_none {b : Byte} : positionOf b = none ↔ 4 ≤ b.toNat := by
  unfold positionOf; split <;> simp <;> omega

theorem bankOf_eq_some {b : Byte} {x : Fin 6} : bankOf b = some x ↔ x.val = b.toNat := by
  unfold bankOf; split
  · constructor
    · intro h; cases h; rfl
    · intro h; exact congrArg some (Fin.ext h.symm)
  · constructor
    · intro h; cases h
    · intro h; have := x.isLt; omega

theorem bankOf_eq_none {b : Byte} : bankOf b = none ↔ 6 ≤ b.toNat := by
  unfold bankOf; split <;> simp <;> omega

theorem channelOf_eq_some {b : Byte} {c : Fin 32} : channelOf b = some c ↔ c.val = b.toNat := by
  unfold channelOf; split
  · constructor
    · intro h; cases h; rfl
    · intro h; exact congrArg some (Fin.ext h.symm)
  · constructor
    · intro h; cases h
    · intro h; have := c.isLt; omega

theorem channelOf_eq_none {b : Byte} : channelOf b = none ↔ 32 ≤ b.toNat := by
  unfold channelOf; split <;> simp <;> omega

/-! ### Tests -/

@[simp] theorem require_true (r : Result) (s : State) (k : Answer) : require true r s k = k := rfl
@[simp] theorem require_false (r : Result) (s : State) (k : Answer) : require false r s k = refuse s r := rfl

theorem stationOnly_station {h : Header} (hs : h.sender = 0) (s : State) (k : Answer) : stationOnly h s k = k := by
  simp [stationOnly, isStation, hs]

theorem stationOnly_terminal {h : Header} (hs : h.sender ≠ 0) (s : State) (k : Answer) :
    stationOnly h s k = refuse s .notPermitted := by
  have : (h.sender == 0) = false := by simpa using hs
  simp [stationOnly, isStation, this]

@[simp] theorem spelled_some {α : Type} (a : α) (s : State) (k : α → Answer) : spelled (some a) s k = k a := rfl
@[simp] theorem spelled_none {α : Type} (s : State) (k : α → Answer) :
    spelled (none : Option α) s k = refuse s .badValue := rfl

/-- R180 (3): the model's test of a sender is the spec's. -/
theorem permitted_iff {s : State} {h : Header} {p : Fin 4} : s.permitted h p = true ↔ mayActOn s h p := by
  obtain ⟨sender, tag⟩ := h
  unfold State.permitted mayActOn
  fin_cases sender <;> simp [Fin.exists_fin_succ]

/-! ### The answer -/

/-- R179: a refused request takes its frame, sends its reply, and changes nothing else. -/
theorem answer_refuse {c : Instr} {h : Header} {code : Byte} {s : State} {body : State → Answer} {r : Result}
    (hb : body (s.takeFrame c) = refuse (s.takeFrame c) r) :
    answer c h code s body = .next (s.answered c h code r []) := by
  simp [answer, hb, refuse, State.answered]

/-- R179: an accepted request that changes nothing. -/
theorem answer_acceptWith {c : Instr} {h : Header} {code : Byte} {s : State} {body : State → Answer} {payload : List Byte}
    (hb : body (s.takeFrame c) = acceptWith (s.takeFrame c) payload) :
    answer c h code s body = .next (s.answered c h code .ok payload) := by
  simp [answer, hb, acceptWith, State.answered]

/-- R179: an accepted request with its effect. -/
theorem answer_accept {c : Instr} {h : Header} {code : Byte} {s t : State} {body : State → Answer}
    (hb : body (s.takeFrame c) = accept t) :
    answer c h code s body = .next { t with reply := some ⟨h.sender, h.tag, code, .ok, []⟩ } := by
  simp [answer, hb, accept]

/-- The head frame is removed or the buffer stands: taking a frame changes nothing else. -/
theorem takeFrame_eq (s : State) (c : Instr) :
    s.takeFrame c = { s with inputBuffer := (s.takeFrame c).inputBuffer } := by
  unfold State.takeFrame
  repeat' split
  all_goals rfl

/-! ### The receiver -/

/-- R178 (2): what becomes of a partly received frame before anything further arrives: it is abandoned when its gap is too long,
and everything stands otherwise. -/
theorem abandonOverdue_cases (s : State) :
    (∃ bytes, s.receiver = .assembling bytes 0) ∧ s.abandonOverdue = s.abandonFrame ∨
    (∀ bytes, s.receiver ≠ .assembling bytes 0) ∧ s.abandonOverdue = s := by
  unfold State.abandonOverdue
  split
  · next bytes h => exact .inl ⟨⟨bytes, h⟩, rfl⟩
  · next bytes gap h => exact .inr ⟨fun b hb => by simp [h] at hb, rfl⟩
  · next inRun h => exact .inr ⟨fun b hb => by simp [h] at hb, rfl⟩

theorem abandonOverdue_of_gap {s : State} (h : ∀ bytes, s.receiver ≠ .assembling bytes 0) : s.abandonOverdue = s := by
  rcases abandonOverdue_cases s with ⟨⟨b, hb⟩, _⟩ | ⟨_, e⟩
  · exact absurd hb (h b)
  · exact e

@[simp] theorem abandonOverdue_abandonFrame (s : State) : s.abandonFrame.abandonOverdue = s.abandonFrame := rfl

end Sys2Proof.Machine
end

