-- ==== Sys2Proof/Laws/Time.lean ====
section
/-! SUPPORT. What the passing of time leaves alone and what it moves, and what the expiry of a timer does. -/

namespace Sys2Proof.Machine

variable (d : Nat) (s : State)

@[simp] theorem elapse_zero : s.elapse 0 = s := rfl
@[simp] theorem elapse_site : (s.elapse d).site = s.site := by
  unfold State.elapse; split <;> rfl
@[simp] theorem elapse_positionConfig : (s.elapse d).positionConfig = s.positionConfig := by
  unfold State.elapse; split <;> rfl
@[simp] theorem elapse_profiles : (s.elapse d).profiles = s.profiles := by
  unfold State.elapse; split <;> rfl
@[simp] theorem elapse_bankConfig : (s.elapse d).bankConfig = s.bankConfig := by
  unfold State.elapse; split <;> rfl
@[simp] theorem elapse_channelConfig : (s.elapse d).channelConfig = s.channelConfig := by
  unfold State.elapse; split <;> rfl
@[simp] theorem elapse_terminals : (s.elapse d).terminals = s.terminals := by
  unfold State.elapse; split <;> rfl
@[simp] theorem elapse_accounts : (s.elapse d).accounts = s.accounts := by
  unfold State.elapse; split <;> rfl
@[simp] theorem elapse_priceH70 : (s.elapse d).priceH70 = s.priceH70 := by
  unfold State.elapse; split <;> rfl
@[simp] theorem elapse_priceH35 : (s.elapse d).priceH35 = s.priceH35 := by
  unfold State.elapse; split <;> rfl
@[simp] theorem elapse_pulseWeights : (s.elapse d).pulseWeights = s.pulseWeights := by
  unfold State.elapse; split <;> rfl
@[simp] theorem elapse_metrologyCount : (s.elapse d).metrologyCount = s.metrologyCount := by
  unfold State.elapse; split <;> rfl
@[simp] theorem elapse_ticketCounter : (s.elapse d).ticketCounter = s.ticketCounter := by
  unfold State.elapse; split <;> rfl
/-- R185: the clock counts the seconds that complete. -/
theorem elapse_clock : (s.elapse d).clock = s.clock + BitVec.ofNat 32 ((s.clockPhase.val + d) / 1000) := by
  unfold State.elapse
  split
  · next h => subst h; simp [Nat.div_eq_of_lt s.clockPhase.isLt]
  · rfl
/-- R185: what is left over of a second counts toward the next one. -/
theorem elapse_clockPhase : (s.elapse d).clockPhase.val = (s.clockPhase.val + d) % 1000 := by
  unfold State.elapse
  split
  · next h => subst h; simp [Nat.mod_eq_of_lt s.clockPhase.isLt]
  · rfl
@[simp] theorem elapse_commissioned : (s.elapse d).commissioned = s.commissioned := by
  unfold State.elapse; split <;> rfl
@[simp] theorem elapse_banks : (s.elapse d).banks = s.banks := by
  unfold State.elapse; split <;> rfl
@[simp] theorem elapse_waiting : (s.elapse d).waiting = s.waiting := by
  unfold State.elapse; split <;> rfl
@[simp] theorem elapse_tradeLockOpen : (s.elapse d).tradeLockOpen = s.tradeLockOpen := by
  unfold State.elapse; split <;> rfl
@[simp] theorem elapse_rejectedSamples : (s.elapse d).rejectedSamples = s.rejectedSamples := by
  unfold State.elapse; split <;> rfl
@[simp] theorem elapse_esdLatch : (s.elapse d).esdLatch = s.esdLatch := by
  unfold State.elapse; split <;> rfl
@[simp] theorem elapse_esdLine : (s.elapse d).esdLine = s.esdLine := by
  unfold State.elapse; split <;> rfl
@[simp] theorem elapse_pendingFlags : (s.elapse d).pendingFlags = s.pendingFlags := by
  unfold State.elapse; split <;> rfl
@[simp] theorem elapse_inputBuffer : (s.elapse d).inputBuffer = s.inputBuffer := by
  unfold State.elapse; split <;> rfl
@[simp] theorem elapse_discardedFrames : (s.elapse d).discardedFrames = s.discardedFrames := by
  unfold State.elapse; split <;> rfl
@[simp] theorem elapse_bufferOverruns : (s.elapse d).bufferOverruns = s.bufferOverruns := by
  unfold State.elapse; split <;> rfl
@[simp] theorem elapse_reply : (s.elapse d).reply = s.reply := by
  unfold State.elapse; split <;> rfl
@[simp] theorem elapse_pending : (s.elapse d).pending = s.pending := by
  unfold State.elapse; split <;> rfl
@[simp] theorem elapse_cfg (p : Fin 4) : (s.elapse d).cfg p = s.cfg p := by
  unfold State.elapse; split <;> rfl
@[simp] theorem elapse_bank (p : Fin 6) : (s.elapse d).bank p = s.bank p := by
  unfold State.elapse; split <;> rfl
@[simp] theorem elapse_bankCfg (p : Fin 6) : (s.elapse d).bankCfg p = s.bankCfg p := by
  unfold State.elapse; split <;> rfl
@[simp] theorem elapse_chanCfg (p : Fin 32) : (s.elapse d).chanCfg p = s.chanCfg p := by
  unfold State.elapse; split <;> rfl
@[simp] theorem elapse_price (p : NozzleClass) : (s.elapse d).price p = s.price p := by
  unfold State.elapse; split <;> rfl
@[simp] theorem elapse_grade (p : Fin 4) : (s.elapse d).grade p = s.grade p := by
  unfold State.elapse; split <;> rfl

/-- A position after time has passed. -/
theorem elapse_pos (h : d ≠ 0) (p : Fin 4) : (s.elapse d).pos p = (s.pos p).elapse d (s.cfg p).holdLimit := by
  simp only [State.elapse, h, if_false, State.pos]
  fin_cases p <;> rfl

@[simp] theorem elapse_pos_state (p : Fin 4) : ((s.elapse d).pos p).state = (s.pos p).state := by
  by_cases h : d = 0
  · subst h; rfl
  · rw [elapse_pos d s h]; rfl
@[simp] theorem elapse_pos_valve (p : Fin 4) : ((s.elapse d).pos p).valve = (s.pos p).valve := by
  by_cases h : d = 0
  · subst h; rfl
  · rw [elapse_pos d s h]; rfl
@[simp] theorem elapse_pos_drawBank (p : Fin 4) : ((s.elapse d).pos p).drawBank = (s.pos p).drawBank := by
  by_cases h : d = 0
  · subst h; rfl
  · rw [elapse_pos d s h]; rfl
@[simp] theorem elapse_pos_pInit (p : Fin 4) : ((s.elapse d).pos p).pInit = (s.pos p).pInit := by
  by_cases h : d = 0
  · subst h; rfl
  · rw [elapse_pos d s h]; rfl
@[simp] theorem elapse_pos_variant (p : Fin 4) : ((s.elapse d).pos p).variant = (s.pos p).variant := by
  by_cases h : d = 0
  · subst h; rfl
  · rw [elapse_pos d s h]; rfl
@[simp] theorem elapse_pos_leakTolerance (p : Fin 4) : ((s.elapse d).pos p).leakTolerance = (s.pos p).leakTolerance := by
  by_cases h : d = 0
  · subst h; rfl
  · rw [elapse_pos d s h]; rfl
@[simp] theorem elapse_pos_coolWaitExpired (p : Fin 4) : ((s.elapse d).pos p).coolWaitExpired = (s.pos p).coolWaitExpired := by
  by_cases h : d = 0
  · subst h; rfl
  · rw [elapse_pos d s h]; rfl
@[simp] theorem elapse_pos_meterA (p : Fin 4) : ((s.elapse d).pos p).meterA = (s.pos p).meterA := by
  by_cases h : d = 0
  · subst h; rfl
  · rw [elapse_pos d s h]; rfl
@[simp] theorem elapse_pos_meterB (p : Fin 4) : ((s.elapse d).pos p).meterB = (s.pos p).meterB := by
  by_cases h : d = 0
  · subst h; rfl
  · rw [elapse_pos d s h]; rfl
@[simp] theorem elapse_pos_quarter (p : Fin 4) : ((s.elapse d).pos p).quarter = (s.pos p).quarter := by
  by_cases h : d = 0
  · subst h; rfl
  · rw [elapse_pos d s h]; rfl
@[simp] theorem elapse_pos_phaseFaults (p : Fin 4) : ((s.elapse d).pos p).phaseFaults = (s.pos p).phaseFaults := by
  by_cases h : d = 0
  · subst h; rfl
  · rw [elapse_pos d s h]; rfl
@[simp] theorem elapse_pos_stray (p : Fin 4) : ((s.elapse d).pos p).stray = (s.pos p).stray := by
  by_cases h : d = 0
  · subst h; rfl
  · rw [elapse_pos d s h]; rfl
@[simp] theorem elapse_pos_factors (p : Fin 4) : ((s.elapse d).pos p).factors = (s.pos p).factors := by
  by_cases h : d = 0
  · subst h; rfl
  · rw [elapse_pos d s h]; rfl
@[simp] theorem elapse_pos_active (p : Fin 4) : ((s.elapse d).pos p).active = (s.pos p).active := by
  by_cases h : d = 0
  · subst h; rfl
  · rw [elapse_pos d s h]; rfl
@[simp] theorem elapse_pos_staged (p : Fin 4) : ((s.elapse d).pos p).staged = (s.pos p).staged := by
  by_cases h : d = 0
  · subst h; rfl
  · rw [elapse_pos d s h]; rfl
@[simp] theorem elapse_link_state (p : Fin 4) : ((s.elapse d).pos p).link.state = (s.pos p).link.state := by
  by_cases h : d = 0
  · subst h; rfl
  · rw [elapse_pos d s h]; rfl
@[simp] theorem elapse_link_vehicleClass (p : Fin 4) : ((s.elapse d).pos p).link.vehicleClass = (s.pos p).link.vehicleClass := by
  by_cases h : d = 0
  · subst h; rfl
  · rw [elapse_pos d s h]; rfl
@[simp] theorem elapse_link_volume (p : Fin 4) : ((s.elapse d).pos p).link.volume = (s.pos p).link.volume := by
  by_cases h : d = 0
  · subst h; rfl
  · rw [elapse_pos d s h]; rfl
@[simp] theorem elapse_link_tag (p : Fin 4) : ((s.elapse d).pos p).link.tag = (s.pos p).link.tag := by
  by_cases h : d = 0
  · subst h; rfl
  · rw [elapse_pos d s h]; rfl
@[simp] theorem elapse_link_tankPressure (p : Fin 4) : ((s.elapse d).pos p).link.tankPressure = (s.pos p).link.tankPressure := by
  by_cases h : d = 0
  · subst h; rfl
  · rw [elapse_pos d s h]; rfl
@[simp] theorem elapse_link_tankTemperature (p : Fin 4) : ((s.elapse d).pos p).link.tankTemperature = (s.pos p).link.tankTemperature := by
  by_cases h : d = 0
  · subst h; rfl
  · rw [elapse_pos d s h]; rfl
@[simp] theorem elapse_link_lastBit (p : Fin 4) : ((s.elapse d).pos p).link.lastBit = (s.pos p).link.lastBit := by
  by_cases h : d = 0
  · subst h; rfl
  · rw [elapse_pos d s h]; rfl
@[simp] theorem elapse_link_expectedBit (p : Fin 4) : ((s.elapse d).pos p).link.expectedBit = (s.pos p).link.expectedBit := by
  by_cases h : d = 0
  · subst h; rfl
  · rw [elapse_pos d s h]; rfl
@[simp] theorem elapse_link_lastCommand (p : Fin 4) : ((s.elapse d).pos p).link.lastCommand = (s.pos p).link.lastCommand := by
  by_cases h : d = 0
  · subst h; rfl
  · rw [elapse_pos d s h]; rfl
@[simp] theorem elapse_link_rejected (p : Fin 4) : ((s.elapse d).pos p).link.rejected = (s.pos p).link.rejected := by
  by_cases h : d = 0
  · subst h; rfl
  · rw [elapse_pos d s h]; rfl
@[simp] theorem elapse_link_repeated (p : Fin 4) : ((s.elapse d).pos p).link.repeated = (s.pos p).link.repeated := by
  by_cases h : d = 0
  · subst h; rfl
  · rw [elapse_pos d s h]; rfl
@[simp] theorem elapse_link_ignored (p : Fin 4) : ((s.elapse d).pos p).link.ignored = (s.pos p).link.ignored := by
  by_cases h : d = 0
  · subst h; rfl
  · rw [elapse_pos d s h]; rfl
@[simp] theorem elapse_ramp_profile (p : Fin 4) : ((s.elapse d).pos p).ramp.profile = (s.pos p).ramp.profile := by
  by_cases h : d = 0
  · subst h; rfl
  · rw [elapse_pos d s h]; rfl
@[simp] theorem elapse_ramp_base (p : Fin 4) : ((s.elapse d).pos p).ramp.base = (s.pos p).ramp.base := by
  by_cases h : d = 0
  · subst h; rfl
  · rw [elapse_pos d s h]; rfl
@[simp] theorem elapse_ramp_time (p : Fin 4) : ((s.elapse d).pos p).ramp.time = (s.pos p).ramp.time := by
  by_cases h : d = 0
  · subst h; rfl
  · rw [elapse_pos d s h]; rfl
@[simp] theorem elapse_ramp_rate (p : Fin 4) : ((s.elapse d).pos p).ramp.rate = (s.pos p).ramp.rate := by
  by_cases h : d = 0
  · subst h; rfl
  · rw [elapse_pos d s h]; rfl
@[simp] theorem elapse_ramp_taper (p : Fin 4) : ((s.elapse d).pos p).ramp.taper = (s.pos p).ramp.taper := by
  by_cases h : d = 0
  · subst h; rfl
  · rw [elapse_pos d s h]; rfl
@[simp] theorem elapse_ramp_target (p : Fin 4) : ((s.elapse d).pos p).ramp.target = (s.pos p).ramp.target := by
  by_cases h : d = 0
  · subst h; rfl
  · rw [elapse_pos d s h]; rfl
@[simp] theorem elapse_ramp_error (p : Fin 4) : ((s.elapse d).pos p).ramp.error = (s.pos p).ramp.error := by
  by_cases h : d = 0
  · subst h; rfl
  · rw [elapse_pos d s h]; rfl
@[simp] theorem elapse_ramp_starved (p : Fin 4) : ((s.elapse d).pos p).ramp.starved = (s.pos p).ramp.starved := by
  by_cases h : d = 0
  · subst h; rfl
  · rw [elapse_pos d s h]; rfl
@[simp] theorem elapse_ramp_lagging (p : Fin 4) : ((s.elapse d).pos p).ramp.lagging = (s.pos p).ramp.lagging := by
  by_cases h : d = 0
  · subst h; rfl
  · rw [elapse_pos d s h]; rfl
@[simp] theorem elapse_compressor_state : (s.elapse d).compressor.state = s.compressor.state := by
  unfold State.elapse; split <;> rfl
@[simp] theorem elapse_compressor_activeBank : (s.elapse d).compressor.activeBank = s.compressor.activeBank := by
  unfold State.elapse; split <;> rfl
@[simp] theorem elapse_compressor_queue : (s.elapse d).compressor.queue = s.compressor.queue := by
  unfold State.elapse; split <;> rfl
@[simp] theorem elapse_compressor_credits : (s.elapse d).compressor.credits = s.compressor.credits := by
  unfold State.elapse; split <;> rfl
@[simp] theorem elapse_compressor_creditWait : (s.elapse d).compressor.creditWait = s.compressor.creditWait := by
  unfold State.elapse; split <;> rfl
@[simp] theorem elapse_compressor_supply : (s.elapse d).compressor.supply = s.compressor.supply := by
  unfold State.elapse; split <;> rfl
@[simp] theorem elapse_compressor_esdCause : (s.elapse d).compressor.esdCause = s.compressor.esdCause := by
  unfold State.elapse; split <;> rfl
@[simp] theorem elapse_precool_chiller : (s.elapse d).precool.chiller = s.precool.chiller := by
  unfold State.elapse; split <;> rfl
@[simp] theorem elapse_precool_faultLine : (s.elapse d).precool.faultLine = s.precool.faultLine := by
  unfold State.elapse; split <;> rfl
@[simp] theorem elapse_precool_coolantCause : (s.elapse d).precool.coolantCause = s.precool.coolantCause := by
  unfold State.elapse; split <;> rfl
@[simp] theorem elapse_precool_coolantSeen : (s.elapse d).precool.coolantSeen = s.precool.coolantSeen := by
  unfold State.elapse; split <;> rfl
@[simp] theorem elapse_precool_offered : (s.elapse d).precool.offered = s.precool.offered := by
  unfold State.elapse; split <;> rfl
@[simp] theorem elapse_precool_holders : (s.elapse d).precool.holders = s.precool.holders := by
  unfold State.elapse; split <;> rfl
@[simp] theorem elapse_precool_waitQueue : (s.elapse d).precool.waitQueue = s.precool.waitQueue := by
  unfold State.elapse; split <;> rfl
@[simp] theorem elapse_precool_grades : (s.elapse d).precool.grades = s.precool.grades := by
  unfold State.elapse; split <;> rfl

/-- A table entry after time has passed. -/
theorem elapse_chan (h : d ≠ 0) (c : Fin 32) : (s.elapse d).chan c = (s.chan c).elapse d := by
  simp [State.elapse, h, State.chan]

theorem elapse_ticket (h : d ≠ 0) (i : Fin 32) :
    (s.elapse d).tickets.get i = (s.tickets.get i).map (s.agedTicket d) := by
  simp [State.elapse, h]

@[simp] theorem agedTicket_number (t : Ticket) : (s.agedTicket d t).number = t.number := rfl
@[simp] theorem agedTicket_state (t : Ticket) : (s.agedTicket d t).state = t.state := rfl
@[simp] theorem agedTicket_position (t : Ticket) : (s.agedTicket d t).position = t.position := rfl
@[simp] theorem agedTicket_attachment (t : Ticket) : (s.agedTicket d t).attachment = t.attachment := rfl
@[simp] theorem agedTicket_window (t : Ticket) : (s.agedTicket d t).window = runDown d t.window := rfl
@[simp] theorem agedTicket_mass (t : Ticket) : (s.agedTicket d t).mass = t.mass := rfl
@[simp] theorem agedTicket_amount (t : Ticket) : (s.agedTicket d t).amount = t.amount := rfl
@[simp] theorem agedTicket_price (t : Ticket) : (s.agedTicket d t).price = t.price := rfl
@[simp] theorem agedTicket_account (t : Ticket) : (s.agedTicket d t).account = t.account := rfl
@[simp] theorem agedTicket_hold (t : Ticket) : (s.agedTicket d t).hold = t.hold := rfl

/-- R106, R117 (2): only the ticket of a fill in HELD takes hold time, and it takes the whole seconds of the accumulator. -/
theorem agedTicket_holdUsed (t : Ticket) :
    (s.agedTicket d t).holdUsed =
      if s.holdsFill t then (s.agedPos d t.position).holdTime / 1000 else t.holdUsed := rfl

/-- R185: the running second of the clock is at least 1 ms and at most 1 s long. -/
theorem clockLeft_bounds : 1 ≤ s.clockLeft ∧ s.clockLeft ≤ 1000 := by
  unfold State.clockLeft; omega

@[simp] theorem elapse_chan_state (c : Fin 32) : ((s.elapse d).chan c).state = (s.chan c).state := by
  by_cases h : d = 0
  · subst h; rfl
  · rw [elapse_chan d s h]; rfl
@[simp] theorem elapse_chan_value (c : Fin 32) : ((s.elapse d).chan c).value = (s.chan c).value := by
  by_cases h : d = 0
  · subst h; rfl
  · rw [elapse_chan d s h]; rfl
@[simp] theorem elapse_chan_taken (c : Fin 32) : ((s.elapse d).chan c).taken = (s.chan c).taken := by
  by_cases h : d = 0
  · subst h; rfl
  · rw [elapse_chan d s h]; rfl

/-! ### Timers -/

@[simp] theorem runDown_none : runDown d none = none := rfl
@[simp] theorem runDown_some (x : Nat) : runDown d (some x) = some (x - d) := rfl

/-- R93, R97, and every rule of a timer: the expiry of a running timer acts when the time left has passed. -/
@[simp] theorem expire_some (event : State → State) : expire (some d) s event = event (s.elapse d) := rfl

/-- A stopped timer does not expire. -/
@[simp] theorem expire_none (event : State → State) : expire none s event = s := rfl

end Sys2Proof.Machine
end

