-- ==== Sys2Proof/Tests/Slice0.lean ====
section
/-! SUPPORT. Tests by evaluation. The expected figures are the manual's own worked figures, named at each test; the
witnesses show, for each statement with hypotheses, concrete states and operands that meet them. -/

namespace Sys2Proof.Tests

set_option Elab.async false

open Sys2Proof Sys2Proof.Machine

/-! ### Small states -/

def station : Header := ⟨0, 7⟩

def terminal : Header := ⟨1, 7⟩

/-- A COMM profile for H70 at grade G0 (the values of profile 4 in 5.10, but for the grade). -/
def profile : FillProfile where
  nozzleClass := .h70
  grade := .g0
  comm := some ⟨100, 200, 3580, 980⟩
  ambientLow := 2000
  ambientHigh := 3730
  rampRate := 475
  endPressure := 8750
  taperSoc := 900
  variant := .pulseCheck
  leakTolerance := 50
  switchDiff := 500
  gain := 64

def account : Account where
  number := 5
  status := .active
  money := .prepaid 50000
  held := 6000
  permitsH70 := true
  permitsH35 := false
  perFillMax := none
  tag := none

def ticket : Ticket where
  number := 1
  state := .authorized
  position := 0
  attachment := .active
  opener := 0
  nozzleClass := .h70
  authorizer := some .autonomous
  account := some 5
  presetMass := none
  presetAmount := some 6000
  hold := some 6000
  reduced := false
  price := some 138500
  expectedTag := none
  metrologyCount := some 0
  profile := none
  grade := none
  commMode := none
  mass := 0
  amount := 0
  pInit := none
  finalPressure := none
  lastSoc := none
  peakTGas := none
  startTime := none
  endTime := none
  holdUsed := 0
  endReason := none
  window := some 120000

/-- R167: P_disp, bank P and the supply are of the kind pressure, the other roles of the kind temperature. -/
def channelFor (r : Role) (source : Nat) : ChannelConfig :=
  { ChannelConfig.factory with
    user := some r, source := source
    kind := match r with
      | .pDisp _ | .bankP _ | .supply => .pressure
      | _ => .temperature
    windowMin := match r with
      | .pDisp _ | .bankP _ | .supply => 0
      | _ => 2000
    windowMax := match r with
      | .pDisp _ | .bankP _ | .supply => 10000
      | _ => 3730 }

/-- A commissioned site: position 0 CALLING with ticket 1, bank 0 full, and channels 4, 5, 10, 11, 20, 21, 22. -/
def plant : State :=
  { State.reset with
    commissioned := true
    positionConfig :=
      setAt State.reset.positionConfig 0 { PositionConfig.factory with inService := true, pDisp := some 4, tGas := some 5 }
    profiles := setAt State.reset.profiles 0 (some profile)
    bankConfig :=
      setAt State.reset.bankConfig 0
        { BankConfig.factory with inService := true, volume := 2000, pChannel := some 10, tChannel := some 11 }
    channelConfig :=
      setAt (setAt (setAt (setAt (setAt (setAt (setAt State.reset.channelConfig 4 (channelFor (.pDisp 0) 40)) 5
        (channelFor (.tGas 0) 50)) 10 (channelFor (.bankP 0) 100)) 11 (channelFor (.bankT 0) 110)) 20
        (channelFor .supply 200)) 21 (channelFor .discharge 210)) 22 (channelFor .coolant 220)
    channels :=
      setAt (setAt (setAt (setAt (setAt State.reset.channels 4 ⟨.ok, 2000, true, some 2000⟩) 5 ⟨.ok, 2900, true, some 2000⟩)
        10 ⟨.ok, 9000, true, some 2000⟩) 11 ⟨.ok, 3032, true, some 2000⟩) 22 ⟨.ok, 2300, true, some 2000⟩
    banks := setAt State.reset.banks 0 ⟨9000, 3032, 94371, false⟩
    accounts := setAt State.reset.accounts 0 (some account)
    tickets := setAt State.reset.tickets 0 (some ticket)
    ticketCounter := 1
    priceH70 := some 138500
    pulseWeights := setAt State.reset.pulseWeights 0 50
    terminals := setAt State.reset.terminals 0 ⟨true, false, false, false⟩
    positions := setAt State.reset.positions 0 { Position.atRestart false false with state := .calling, active := some 1 } }

def closedSite : State := { State.reset with tradeLockOpen := true }

def plantWith (f : Position → Position) : State := plant.modPos 0 f

/-- The plant with position 0 in a state. -/
def plantAt (x : PosState) : State := plantWith fun q => { q with state := x }

/-- The plant with its ticket changed. -/
def plantTicket (f : Ticket → Ticket) : State := plant.modTicket 1 f

/-- The plant with position 0 in a fill on profile 0 at bank 0. -/
def fuelling : State :=
  (plantTicket fun t => { t with state := .fuelling, window := none }).modPos 0 fun q =>
    { q with
      state := .fuelling
      drawBank := some 0
      ramp := { RampContext.cleared with profile := some 0, base := 20000, rate := 475, stepTimer := some 250 } }

/-- A link in STREAM to a class-H70 vehicle, its last frame with alternation bit false. -/
def stream : LinkContext :=
  { LinkContext.off with
    state := .stream, vehicleClass := some .h70, volume := some 150, tankPressure := some 6850
    tankTemperature := some 3182, lastBit := some false, expectedBit := some true, lastCommand := some .run
    freshness := some 820 }

/-! ### Well-formed commands, and the table's words -/

theorem test_wellFormed_longest_payload :
    (Instr.requestFrame ⟨0, 0, 0x55, List.replicate 512 0, 0⟩).wellFormed = true := by decide +kernel

theorem test_wellFormed_refuses_513_bytes :
    (Instr.requestFrame ⟨0, 0, 0x55, List.replicate 513 0, 0⟩).wellFormed = false := by decide +kernel

theorem test_wellFormed_unknown_code : (Instr.unknownRequest station 0x26).wellFormed = true := by decide

theorem test_wellFormed_refuses_catalogue_code : (Instr.unknownRequest station 0x16).wellFormed = false := by decide

theorem test_decodeTableWord_spells_nothing : decodeTableWord 16 0x1234 = none := rfl

/-- 12.6.9: the bytes 12 34 spell ticket 0x1234, most significant byte first. -/
theorem test_requestOf_cancelTicket : requestOf 1 9 0x22 [0x12, 0x34] = .cancelTicket ⟨1, 9⟩ 0x1234 := by decide

/-- 12.6.9: account number (4) before amount (4). -/
theorem test_requestOf_creditAccount :
    requestOf 0 9 0x31 [0, 0, 0, 5, 0, 1, 0, 0] = .creditAccount ⟨0, 9⟩ 5 65536 := by decide

/-- 12.6.9: class (1) before value (4). -/
theorem test_requestOf_setPrice : requestOf 0 9 0x34 [1, 0, 2, 0x1D, 4] = .setPrice ⟨0, 9⟩ 1 138500 := by decide

/-! ### The manual's figures -/

/-- 5.10.3. -/
theorem test_soc_of_step_440 : stateOfCharge .h70 6850 3182 = 917 := by decide

/-- 5.10.5. -/
theorem test_soc_at_the_limits :
    stateOfCharge .h70 10000 2000 = 1561 ∧ stateOfCharge .h70 0 3000 = 0 := by decide

/-- 5.10.1, step 40: target 24,750, error 350, opening 612 to 652. -/
theorem test_control_step_40 :
    (match exec (.controlStep 0) ((fuelling.modPos 0 fun q =>
        { q with valve := 612, ramp := { q.ramp with time := 9750, stepTimer := some 0 } }).setChan 4 ⟨.ok, 2440, true, none⟩) with
      | .next t => ((t.pos 0).ramp.target, (t.pos 0).ramp.error, (t.pos 0).valve, (t.pos 0).ramp.time)
      | _ => (none, 0, 0, 0)) = (some 24750, 350, 652, 10000) := by decide +kernel

/-- 5.10.3, step 441: a truncated negative quotient, opening 914 to 907. -/
theorem test_control_step_441 :
    (match exec (.controlStep 0) ((fuelling.modPos 0 fun q =>
        { q with
          valve := 914
          ramp := { q.ramp with base := 72250, rate := 118, taper := true, stepTimer := some 0 } }).setChan 4
          ⟨.ok, 7231, true, none⟩) with
      | .next t => ((t.pos 0).ramp.target, (t.pos 0).ramp.error, (t.pos 0).valve)
      | _ => (none, 0, 0)) = (some 72279, -31, 907) := by decide +kernel

/-- 5.10.3, step 440: SOC 917 begins taper at P0 = 72,250 with rate 118. -/
theorem test_control_step_440_begins_taper :
    (match exec (.controlStep 0) ((fuelling.modPos 0 fun q =>
        { q with
          valve := 874, link := stream
          ramp := { q.ramp with time := 109750, stepTimer := some 0 } }).setChan 4 ⟨.ok, 7190, true, none⟩) with
      | .next t => ((t.pos 0).ramp.base, (t.pos 0).ramp.rate, (t.pos 0).ramp.taper, (t.pos 0).valve,
          (t.activeTicket 0).bind Ticket.lastSoc)
      | _ => (0, 0, false, 0, none)) = (72250, 118, true, 914, some 917) := by decide +kernel

/-- 5.10.4: the forward change that makes a whole pulse. -/
theorem test_whole_pulse_bills :
    (match exec (.meterLineChange 0 false false) ((fuelling.modTicket 1 fun k => { k with mass := 4216980, amount := 5839 }).modPos 0
        fun q => { q with meterA := false, meterB := true, quarter := 3 }) with
      | .next t => (t.activeTicket 0).map fun k => (k.mass, k.grams, k.amount)
      | _ => none) = some (4217030, 4217, 5841) := by decide +kernel

/-- 5.10.4: the reverse change from (1,1) to (1,0). -/
theorem test_reverse_quarter :
    (match exec (.meterLineChange 0 true false) (fuelling.modPos 0 fun q => { q with meterA := true, meterB := true }) with
      | .next t => ((t.pos 0).quarter, (t.pos 0).phaseFaults)
      | _ => (0, 9)) = (-1, 0) := by decide +kernel

/-- 8.9: a bank of 2,000 L at 9,000 and 3,032 holds 94,371 g and contributes 44,618 g to H35 and 14,887 g to H70. -/
theorem test_usable_inventory :
    (plant.usableInventory .h35, plant.usableInventory .h70) = (44618, 14887) := by decide +kernel

/-! ### Witnesses: concrete states and operands that meet the hypotheses of each statement -/

/-- The state that a command leads to. -/
def after (c : Instr) (s : State) : State :=
  match exec c s with
  | .next t => t
  | _ => s

def answersNext (o : Host.Outcome State Fault Refusal) : Bool :=
  match o with
  | .next _ => true
  | _ => false

theorem next_of_answersNext (o : Host.Outcome State Fault Refusal) (h : answersNext o = true) : ∃ t, o = .next t := by
  cases o with
  | next t => exact ⟨t, rfl⟩
  | fault r => exact absurd h (by simp [answersNext])
  | refused r => exact absurd h (by simp [answersNext])

theorem test_witness_StepRunsFrontCommand :
    ({ plant with pending := [.readEvents station, .siteClockTick] } : State).pending =
      .readEvents station :: [.siteClockTick] := by decide +kernel

theorem test_witness_QueueStandsAndWaitingFrameIsTaken :
    (∃ t, exec .siteClockTick plant = .next t) ∧
    ({ plant with inputBuffer := [⟨1, 9, 0x26, []⟩] } : State).pending = [] ∧
    ({ plant with inputBuffer := [⟨1, 9, 0x26, []⟩] } : State).inputBuffer = ⟨1, 9, 0x26, []⟩ :: [] :=
  ⟨next_of_answersNext _ (by decide +kernel), by decide +kernel, by decide +kernel⟩

theorem test_witness_ExpiryActsWhenItsTimeIsUp :
    ((∀ p, Instr.controlStep 0 ≠ .holdSecondElapsed p) ∧ fuelling.timeLeft (.controlStep 0) = some 250) ∧
    isExpiry (.controlStep 0) = true ∧ plant.timeLeft (.controlStep 0) = none := by decide +kernel

/-- R85: 250 ms count in FUELLING and in HELD, up to 4,294,967,295 (1.7 (4)), and not in ENDING. -/
theorem test_fill_time_counts :
    0 < 250 ∧
    ([PosState.fuelling, .held .factorWait, .starting .settle, .ending].map fun x =>
        (((plantWith fun q => { q with state := x, fillTime := 40 }).elapse 250).pos 0).fillTime) = [290, 290, 290, 40] ∧
    ((((fuelling.modPos 0 fun q => { q with fillTime := 4294967290 }).elapse 250).pos 0).fillTime = 4294967295) := by
  decide +kernel

/-- 12.6.1, 12.6.2: a refusal NOT_FOUND (3) with no payload, up to its CRC. -/
theorem test_reply_frame :
    (Reply.mk 4 7 0x22 .notFound []).frame.take 7 = [0x5A, 4, 7, 0x22, 3, 0, 0] := by decide +kernel

/-- 12.6: the bytes 0xFF meet the initial value 0xFFFF, so eight shifts of 0x00FF give 0xFF00, and eight of 0 give 0. -/
theorem test_crc16 : crc16 [0xFF] = 0xFF00 ∧ crc16 [0xFF, 0xFF] = 0 := by decide +kernel

theorem test_witness_RequestsAndFramesAgree :
    ((Instr.unknownRequest station 0x26).wellFormed = true ∧
      encode (.unknownRequest station 0x26) = some (station, 0x26, [])) ∧
    encode (.cancelTicket station 0x1234) = some (station, 0x22, [0x12, 0x34]) ∧
    requestLength 0x22 = some 2 ∧ [0x12, 0x34].length = 2 := by decide

theorem test_witness_BytesSpellTheFrame :
    (RawFrame.mk 0 1 0x26 (List.replicate 512 0) 0).payload.length ≤ 512 ∧ plant.receiver = .hunting false := by
  decide +kernel

def assembling (bytes : List Byte) : State := { plant with receiver := .assembling bytes 3 }

/-- A partly received frame whose gap has become too long, before its timeout is taken. -/
def overdue : State := { plant with receiver := .assembling [0, 1] 0 }

def goodFrame : RawFrame := ⟨4, 1, 0x22, [0, 1], crc16 [4, 1, 0x22, 0, 2, 0, 1]⟩

theorem test_witness_ReceiverAssemblesAndChecksFrames :
    plant.receiver = .hunting false ∧
    (assembling [0, 1, 0x22, 2]).receiver = .assembling [0, 1, 0x22, 2] 3 ∧
    (assembling [0, 1, 0x22]).receiver = .assembling [0, 1, 0x22] 3 ∧ [0, 1, 0x22].length < 4 ∧
    ([0, 1, 0x22, 2].length = 4 ∧ 512 < (u16 ([0, 1, 0x22, 2] ++ [(1 : Byte)]) 3).toNat ∧
      ¬512 < (u16 ([0, 1, 0x22, 2] ++ [(0 : Byte)]) 3).toNat) ∧
    (overdue.receiver = .assembling [0, 1] 0 ∧ ∀ bytes, plant.receiver ≠ .assembling bytes 0) ∧
    (goodFrame.address.toNat < 5 ∧ goodFrame.payload.length ≤ 512 ∧ crc16 (requestBytes goodFrame) = goodFrame.crc ∧
      requestLength goodFrame.code = some 2 ∧ goodFrame.payload.length = 2) ∧
    5 ≤ ({ goodFrame with address := 5 } : RawFrame).address.toNat ∧
    512 < ({ goodFrame with payload := List.replicate 513 0 } : RawFrame).payload.length ∧
    crc16 (requestBytes { goodFrame with tag := 2 }) ≠ ({ goodFrame with tag := 2 } : RawFrame).crc ∧
    requestLength ({ goodFrame with payload := [1] } : RawFrame).code = some 2 ∧
    ({ goodFrame with payload := [1] } : RawFrame).payload.length ≠ 2 := by
  have hunts : plant.receiver = .hunting false := rfl
  have waits : overdue.receiver = .assembling [0, 1] 0 := rfl
  refine ⟨hunts, rfl, rfl, by decide, by decide, ⟨waits, fun bytes h => ?_⟩, ?_⟩
  · rw [hunts] at h; cases h
  · decide +kernel

/-- R178 (2): a start byte after a gap above 5 ms abandons the partial frame, which is counted, and begins a frame. -/
theorem test_late_byte_abandons_the_frame :
    (let t := after (.receivedByte 0xA5 true) overdue
     (t.receiver, t.discardedFrames)) = (.assembling [] 6, 1) := by decide +kernel

theorem test_witness_TerminalsAndUnknownCodesAreRefused :
    (Instr.commission terminal).wellFormed = true ∧ encode (.commission terminal) = some (terminal, 0x16, []) ∧ stationCode 0x16 = true ∧ terminal.sender ≠ 0 ∧
    requestLength 0x26 = none := by decide

/-! #### Configuration -/

/-- WRITE_SITE with many fields at a limit of their values. -/
def siteFields : SiteLayout where
  authWindow := 600
  minAuthAmount := 1
  pulseOpening := 1000
  pulseTime := 500
  ventTime := 10
  coolWaitTime := 60
  leakTolerance := 200
  worstAmbient := 3730
  maxFillH70 := 60
  maxFillH35 := 1
  openDiff := 2000
  floorH70 := 9500
  floorH35 := 0
  supplyMin := 9000
  supplyHyst := 10
  dischargeLimit := 3700
  limitG1 := 2000
  limitG2 := 2001
  limitG3 := 3730
  approach := 500
  slotCount := 4
  fallbackWindow := 5
  eventMask := 0xFFFFFFFF

theorem test_witness_WriteSiteReplacesTheRecord :
    station.sender = 0 ∧ plant.commissioned = true ∧ closedSite.commissioned = false ∧ siteInRange siteFields ∧
    ¬siteInRange { siteFields with fallbackWindow := 4 } := by
  and_intros <;> (try unfold siteInRange) <;> decide +kernel

def positionFields : PositionLayout := ⟨3, 1, 2, 1, 1, 31, 255, 0xF, 2, 60, 600, 3, 0⟩

theorem test_witness_WritePositionReplacesTheRecord :
    station.sender = 0 ∧ plant.commissioned = true ∧ closedSite.commissioned = false ∧ positionInRange positionFields ∧
    ¬positionInRange { positionFields with position := 4 } ∧ ¬positionInRange { positionFields with pDisp := 32 } := by
  and_intros <;> (try unfold positionInRange) <;> (try unfold namesChannel) <;> decide +kernel

def profileFields : ProfileLayout :=
  ⟨15, 1, 1, 3, 0, 2000, 3730, 1, 2500, 1000, 8750, 3580, 990, 1000, 1, 200, 2000, 255, 0⟩

theorem test_witness_WriteProfileReplacesTheEntry :
    station.sender = 0 ∧ plant.commissioned = true ∧ closedSite.commissioned = false ∧
    16 ≤ ({ profileFields with index := 16 } : ProfileLayout).index.toNat ∧
    2 ≤ ({ profileFields with inUse := 2 } : ProfileLayout).inUse.toNat ∧
    (profileFields.inUse.toNat = 1 ∧ ¬profileInRange { profileFields with gain := 0 }) ∧
    (({ profileFields with inUse := 0 } : ProfileLayout).inUse.toNat = 0 ∧ (15 : Fin 16).val = profileFields.index.toNat) ∧
    profileInRange profileFields ∧ profileInRange { profileFields with commMode := 1, endSoc := 0 } ∧
    ¬profileInRange { profileFields with endSoc := 0 } := by
  and_intros <;> (try unfold profileInRange) <;> decide +kernel

def bankFields : BankLayout := ⟨5, 1, 3, 9500, 20000, 9500, 9499, 12, 13⟩

theorem test_witness_WriteBankReplacesTheConfiguration :
    station.sender = 0 ∧ plant.commissioned = true ∧ closedSite.commissioned = false ∧
    ¬bankInRange { bankFields with bank := 6 } ∧ ¬bankInRange { bankFields with refillStart := 9500 } ∧
    bankInRange bankFields ∧ (5 : Fin 6).val = bankFields.bank.toNat := by
  and_intros <;> (try unfold bankInRange) <;> (try unfold namesChannel) <;> decide +kernel

def channelFields : ChannelLayout := ⟨31, 4, 0, 140, 0, 10000, 500⟩

/-- The plant out of service, as after an accepted DECOMMISSION. -/
def idleSite : State := { plantWith (fun q => { q with state := .closed, active := none }) with
  commissioned := false
  tickets := setAt plant.tickets 0 (some { ticket with state := .ended, attachment := .detached, window := none }) }

theorem test_witness_WriteChannelReplacesTheConfiguration :
    station.sender = 0 ∧ plant.commissioned = true ∧ idleSite.commissioned = false ∧
    ¬channelInRange { channelFields with channel := 32 } ∧ ¬channelInRange { channelFields with windowMax := 10001 } ∧
    channelInRange channelFields ∧ (31 : Fin 32).val = channelFields.channel.toNat ∧
    (channelInRange { channelFields with kind := 1, windowMin := 2000, windowMax := 3730 } ∧
      channelFields.user.toNat ≠ 0) ∧
    ((4 : Fin 32) ≠ 31 ∧ (idleSite.chanCfg 4).user = some (.pDisp 0) ∧ (Role.pDisp 0).code = 1 ∧
      channelInRange { channelFields with user := 1 }) ∧
    channelInRange { channelFields with user := 0 } ∧
    (∀ j, j ≠ 31 → ∀ r ∈ (idleSite.chanCfg j).user,
      r.code ≠ channelFields.user.toNat ∧ (idleSite.chanCfg j).source ≠ channelFields.source.toNat) := by
  and_intros <;> (try unfold channelInRange) <;> decide +kernel

theorem test_witness_WriteTerminalReplacesTheSet :
    station.sender = 0 ∧ plant.commissioned = true ∧ closedSite.commissioned = false ∧ (0 : Byte).toNat = 0 ∧
    5 ≤ (5 : Byte).toNat ∧ (3 : Fin 4).val + 1 = (4 : Byte).toNat := by decide +kernel

theorem test_witness_ClockIsSetAndTicks : station.sender = 0 := rfl

/-- R185: the clock goes from 4,294,967,295 to 0. -/
theorem test_clock_wraps : (after .siteClockTick { plant with clock := 0xFFFFFFFF }).clock = 0 := by decide +kernel

/-- R9, R185: a window of 120 s ends 120 s later by the clock. -/
theorem test_window_end_time :
    ((after (.authWindowExpiry 1) plant).tickets.get 0).bind Ticket.endTime = some 120 := by decide +kernel

/-- R19, R185: the clock counts the seconds with main power off, and the endings at restart carry it. -/
theorem test_restart_end_time :
    (((after (.restart ⟨7, quietLines⟩) plant).tickets.get 0).bind Ticket.endTime, (after (.restart ⟨7, quietLines⟩) plant).clock) =
      (some 7, 7) := by decide +kernel

/-! #### Commissioning -/

/-- Position 3 in service with no pulse weight. -/
def weightless : State :=
  { idleSite with
    positionConfig :=
      setAt idleSite.positionConfig 3 { PositionConfig.factory with inService := true, pDisp := some 30, tGas := some 31 }
    channelConfig := setAt (setAt idleSite.channelConfig 30 (channelFor (.pDisp 3) 30)) 31 (channelFor (.tGas 3) 31) }

theorem test_witness_CommissionTestsAndStartsTheBlocks :
    station.sender = 0 ∧ plant.commissioned = true ∧
    (closedSite.commissioned = false ∧ closedSite.tradeLockOpen = true) ∧
    (weightless.commissioned = false ∧ weightless.tradeLockOpen = false ∧ positionFault weightless 3 = 3 ∧
      ∀ q, q < 3 → positionFault weightless q = 0) ∧
    ((∀ p, positionFault { idleSite with bankConfig := setAt idleSite.bankConfig 5 { BankConfig.factory with inService := true } } p = 0) ∧
      bankPasses { idleSite with bankConfig := setAt idleSite.bankConfig 5 { BankConfig.factory with inService := true } } 5 = false ∧
      ∀ c, c < 5 → bankPasses { idleSite with bankConfig := setAt idleSite.bankConfig 5 { BankConfig.factory with inService := true } } c = true) ∧
    (idleSite.commissioned = false ∧ idleSite.tradeLockOpen = false ∧ (∀ p, positionFault idleSite p = 0) ∧
      (∀ b, bankPasses idleSite b = true) ∧ idleSite.precool.holders = .empty ∧ idleSite.precool.waitQueue = [] ∧
      idleSite.compressor.queue = [] ∧ idleSite.compressor.activeBank = none) ∧ idleSite.coolantValue = some 2300 := by
  decide +kernel

/-- R154, R160: COMMISSION offers the grade of the coolant value as it stands; 2,300 gives G2 with the default limits. -/
theorem test_commission_recomputes_the_offer :
    (after (.commission station)
      { idleSite with
        precool := { Precool.atRestart false with chiller := .ready, offered := .g3, coolantSeen := true } }).precool.offered =
      .g2 := by decide +kernel

/-- COMMISSION of the plant opens position 0 in IDLE, its nozzle being holstered (R47). -/
theorem test_commission_opens_the_position :
    ((after (.commission station) idleSite).commissioned, ((after (.commission station) idleSite).pos 0).state) =
      (true, .idle) := by decide +kernel

theorem test_witness_DecommissionClosesTheSite :
    station.sender = 0 ∧ closedSite.commissioned = false ∧
    ((plantAt .ending).commissioned = true ∧ ((plantAt .ending).pos 0).state.busy = true) ∧
    (plant.commissioned = true ∧ ∀ p, (plant.pos p).state.busy = false) := by decide +kernel

theorem test_witness_FactoryClearEmptiesTheRecords :
    station.sender = 0 ∧ plant.commissioned = true ∧
    (State.reset.commissioned = false ∧ State.reset.tradeLockOpen = false) ∧
    (closedSite.commissioned = false ∧ closedSite.tradeLockOpen = true) := by decide +kernel

/-! #### Tickets -/

def position3 : State :=
  { plant with positionConfig := setAt plant.positionConfig 3 { PositionConfig.factory with inService := true } }

theorem test_witness_OpenTicketCreatesATicket :
    4 ≤ (4 : Byte).toNat ∧ (3 : Fin 4).val = (3 : Byte).toNat ∧ ¬mayActOn plant terminal 3 ∧ mayActOn plant terminal 0 ∧
    (mayActOn closedSite station 3 ∧ closedSite.commissioned = false) ∧ (plant.cfg 3).inService = false ∧
    ((plantWith fun q => { q with staged := some 2 }).pos 0).staged.isSome = true ∧
    (let full : State := { position3 with tickets := Vector.replicate 32 (some ticket) }
     mayActOn full station 3 ∧ full.commissioned = true ∧ (full.cfg 3).inService = true ∧ (full.pos 3).staged = none ∧
       ∀ i, (full.tickets.get i).isSome = true) ∧
    (position3.commissioned = true ∧ (position3.cfg 3).inService = true ∧ (position3.pos 3).staged = none ∧
      position3.tickets.get 1 = none ∧ ∀ j, j < 1 → (position3.tickets.get j).isSome = true) := by
  unfold mayActOn
  decide +kernel

/-- R3: after number 65,535 the number 1 is tried, which ticket 1 holds, so the new ticket is number 2. -/
theorem test_open_ticket_wraps :
    (after (.openTicket station 3) { position3 with ticketCounter := 65535 }).ticketCounter = 2 := by decide +kernel

/-- The plant with its ticket OPEN and nothing held. -/
def opened : State :=
  { plantTicket (fun k => { k with
      state := .opened, authorizer := none, account := none, presetAmount := none, hold := none, price := none
      metrologyCount := none, window := none }) with
    accounts := setAt plant.accounts 0 (some { account with held := 0 }) }

/-- AUTHORIZE of ticket 1 against account 5 with a preset mass of 20,000 g. -/
def authorizeFields : AuthorizeLayout := ⟨1, 3, 5, 20000, 0⟩

def supervised : State :=
  { opened with
    positionConfig := setAt opened.positionConfig 0 { PositionConfig.factory with inService := true, authMode := .supervised } }

/-- The tests of AUTHORIZE for these fields and a ticket of position 0, with their results. -/
def authorizeTests (h : Header) (k : Ticket) (s : State) : List (Bool × Result) :=
  [(decide (k.state = .opened), .refusedState), (!s.esdLatch, .refusedState),
   (decide ((s.cfg k.position).authMode = .autonomous) || h.sender == 0, .notPermitted), (!s.tradeLockOpen, .locked),
   ((some 20000).all (fun m => decide (1 ≤ m) && decide (m ≤ 4294967)) && (none : Option Nat).all (fun a => decide (1 ≤ a)),
     .badValue),
   (decide ((s.cfg k.position).authMode = .supervised) || (some 5).isSome, .badValue),
   ((some 5).all fun n => (s.account n).isSome, .notFound),
   ((some 5).all fun n => (s.account n).any fun a => decide (a.status = .active), .refusedState),
   ((some 5).all fun n => (s.account n).any fun a => a.permits k.nozzleClass, .notPermitted),
   ((some 20000).isNone || decide (500 ≤ s.usableInventory k.nozzleClass), .noStock),
   ((some 5).all fun n => (s.account n).any fun a =>
      decide (s.site.minAuthAmount ≤
        holdOf none ((some 20000).map fun m => min m (s.usableInventory k.nozzleClass))
          ((s.price k.nozzleClass).getD 0) a), .insufficient)]

theorem test_witness_AuthorizeTestsInOrder :
    firstFailing (authorizeTests station { ticket with state := .opened } { opened with esdLatch := true }) =
      some .refusedState ∧
    firstFailing (authorizeTests station { ticket with state := .opened }
      { opened with site := { opened.site with minAuthAmount := 50001 } }) = some .insufficient ∧
    opened.ticket 2 = none ∧ (opened.ticket 1).isSome = true ∧
    (opened.ticket 1).any (fun k => decide (k.position = 0)) = true ∧
    ¬mayActOn { opened with terminals := Vector.replicate 4 .empty } terminal 0 ∧ mayActOn opened station 0 := by
  unfold mayActOn
  decide +kernel

/-- R27: what the tests of AUTHORIZE answer, one after another. -/
theorem test_authorize_results :
    [after (.authorize station authorizeFields) plant,
     after (.authorize station authorizeFields) { opened with esdLatch := true },
     after (.authorize terminal authorizeFields) { supervised with tradeLockOpen := true },
     after (.authorize station authorizeFields) { opened with tradeLockOpen := true },
     after (.authorize station { authorizeFields with presetMass := 4294968 }) opened,
     after (.authorize station { authorizeFields with presence := 2 }) opened,
     after (.authorize station { authorizeFields with account := 6 }) opened,
     after (.authorize station authorizeFields) { opened with site := { opened.site with minAuthAmount := 50001 } }].map
      (fun t => t.reply.map Reply.result) =
    [some .refusedState, some .refusedState, some .notPermitted, some .locked, some .badValue, some .badValue,
     some .notFound, some .insufficient] := by decide +kernel

/-- 8.9, R28, R29: the preset is cut to 14,887 g, and the hold is its price, 20,618. -/
theorem test_authorize_cuts_the_preset :
    ((after (.authorize station authorizeFields) opened).reply.map Reply.result,
      ((after (.authorize station authorizeFields) opened).ticket 1).map fun k => (k.presetMass, k.hold, k.reduced)) =
      (some .okReduced, some (some 14887, some 20618, true)) := by decide +kernel

theorem test_witness_AuthorizeCarriesOut :
    (∀ s ∈ [opened, supervised], s.ticketSlot 1 = some 0 ∧ mayActOn s station 0 ∧ s.esdLatch = false ∧
      s.tradeLockOpen = false ∧ (s.tickets.get 0).any (fun k => k.state == .opened && k.position == 0) = true) ∧
    (opened.cfg 0).authMode = .autonomous ∧ (supervised.cfg 0).authMode = .supervised ∧ station.sender = 0 ∧
    (1 ≤ 20000 ∧ 20000 ≤ 4294967 ∧ 500 ≤ opened.usableInventory .h70) ∧
    (opened.accountSlot 5 = some 0 ∧ opened.accounts.get 0 = some { account with held := 0 } ∧
      account.status = .active ∧ account.permits .h70 = true ∧
      opened.site.minAuthAmount ≤ holdOf none (some 14887) 138500 { account with held := 0 }) := by
  unfold mayActOn
  decide +kernel

/-- A ticket staged behind the ACTIVE one. -/
def staged : State :=
  { plantWith (fun q => { q with staged := some 2 }) with
    tickets := setAt plant.tickets 1 (some { ticket with number := 2, attachment := .staged, window := none }) }

theorem test_witness_WindowExpiryEndsTheTicketAndPromotes :
    (staged.windowLeft (1 : Word16).toNat = some 120000 ∧ (staged.elapse 120000).ticketSlot 1 = some 0 ∧
      ((staged.elapse 120000).tickets.get 0).isSome = true) ∧
    (plant.pos 0).staged = none ∧
    ((staged.pos 0).staged = some 2 ∧ staged.ticketSlot 2 = some 1 ∧ (staged.tickets.get 1).isSome = true) := by
  decide +kernel

/-- R9, R13: the expired ticket is ENDED, and the STAGED one is ACTIVE with a full window. -/
theorem test_window_expiry_promotes :
    (let t := after (.authWindowExpiry 1) staged
     ((t.ticket 1).map fun k => (k.state, k.endReason), (t.pos 0).active, (t.ticket 2).bind Ticket.window)) =
      (some (.ended, some .authExpired), some 2, some 120000) := by decide +kernel

theorem test_witness_CancelTicketRetiresIt :
    plant.ticket 9 = none ∧ (plant.ticketSlot 1 = some 0 ∧ plant.tickets.get 0 = some ticket) ∧
    ¬mayActOn { plant with terminals := Vector.replicate 4 .empty } terminal 0 ∧ mayActOn plant terminal 0 ∧
    fuelling.tickets.get 0 = some { ticket with state := .fuelling, window := none } ∧ ticket.state = .authorized ∧
    (ticket.account = some 5 ∧ plant.accountSlot 5 = some 0 ∧ plant.accounts.get 0 = some account) ∧
    (opened.tickets.get 0).any (fun k => k.state == .opened && k.account == none) = true := by
  unfold mayActOn
  decide +kernel

/-- The plant with a delivered ticket still ACTIVE at its ENDED position. -/
def delivered : State :=
  (plantTicket fun k => { k with state := .ended, mass := 4217030, amount := 5841, window := none }).modPos 0
    fun q => { q with state := .ended }

theorem test_witness_SettleTicketChargesAndRetires :
    delivered.ticket 9 = none ∧ delivered.ticketSlot 1 = some 0 ∧ mayActOn delivered terminal 0 ∧
    ¬mayActOn { delivered with terminals := Vector.replicate 4 .empty } terminal 0 ∧ ticket.state ≠ .ended ∧
    (delivered.tickets.get 0).any (fun k => k.state == .ended && k.account == some 5) = true ∧
    (delivered.accountSlot 5 = some 0 ∧ delivered.accounts.get 0 = some account) ∧
    ((delivered.modTicket 1 fun k => { k with account := none, hold := none }).tickets.get 0).any
      (fun k => k.state == .ended && k.account == none) = true := by
  unfold mayActOn
  decide +kernel

/-- R31: the balance falls by 5,841 and the held total by 6,000. -/
theorem test_settle_charges :
    ((after (.settleTicket terminal 1) delivered).account 5).map (fun a => (a.money, a.held)) =
      some (.prepaid 44159, 0) := by decide +kernel

theorem test_witness_TicketsAreReadAndListed :
    plant.ticket 9 = none ∧ plant.ticket 1 = some ticket ∧ mayActOn plant terminal 0 ∧
    ¬mayActOn { plant with terminals := Vector.replicate 4 .empty } terminal 0 := by
  unfold mayActOn
  decide +kernel

/-! #### Accounts, prices and metrology -/

def accountFields : AccountLayout := ⟨5, 0, 0, 1, 3, 1, #v[0x20, 0x7E, 0x41, 0x42, 0x43, 0x44, 0x45, 0x46], 2147483647⟩

theorem test_witness_WriteAccountCreatesOrChanges :
    station.sender = 0 ∧ accountInRange accountFields ∧ ¬accountInRange { accountFields with money := 2147483648 } ∧
    closedSite.account 5 = none ∧
    (({ closedSite with accounts := Vector.replicate 64 (some { account with number := 9 }) } : State).account 5 = none ∧
      ∀ i : Fin 64, ((Vector.replicate 64 (some account)).get i).isSome = true) ∧
    (closedSite.accounts.get 0 = none ∧ ∀ j : Fin 64, j < 0 → (closedSite.accounts.get j).isSome = true) ∧
    (plant.accountSlot 5 = some 0 ∧ plant.accounts.get 0 = some account) ∧
    (accountInRange { accountFields with kind := 1 } ∧ account.money = .prepaid 50000 ∧ account.held ≠ 0) := by
  and_intros <;> (try unfold accountInRange) <;> decide +kernel

theorem test_witness_CreditAccountPaysIn :
    (0 : Word32).toNat = 0 ∧ (1 : Word32).toNat ≠ 0 ∧ plant.account 6 = none ∧ plant.accountSlot 5 = some 0 ∧
    plant.accounts.get 0 = some account := by decide +kernel

/-- R34 (1): the balance saturates at 2,147,483,647. -/
theorem test_credit_saturates :
    ((after (.creditAccount terminal 5 4294967295) plant).account 5).map Account.money = some (.prepaid 2147483647) := by
  decide +kernel

theorem test_witness_CloseAccountRetires :
    terminal.sender ≠ 0 ∧ station.sender = 0 ∧ plant.account 6 = none ∧
    (plant.accountSlot 5 = some 0 ∧ plant.accounts.get 0 = some account ∧ account.held ≠ 0) ∧
    (opened.accountSlot 5 = some 0 ∧ opened.accounts.get 0 = some { account with held := 0 }) := by decide +kernel

theorem test_witness_AvailableMoneyByKind :
    account.money = .prepaid 50000 ∧
    (let owing : Account := { account with money := .credit 100 101 }
     owing.money = .credit 100 101 ∧ owing.inDebt = true) := by decide

theorem test_witness_ReadAccountShowsTheRecord :
    plant.account 6 = none ∧ plant.account 5 = some account := by decide +kernel

theorem test_witness_PricesAndMetrologyAreWrittenAndRead :
    terminal.sender ≠ 0 ∧ station.sender = 0 ∧ (3 ≤ (3 : Byte).toNat ∧ 10000000 < (10000001 : Word32).toNat) ∧
    (1 ≤ (10000000 : Word32).toNat ∧ (10000000 : Word32).toNat ≤ 10000000 ∧ (1 : Byte).toNat = 1 ∧ (2 : Byte).toNat = 2) ∧
    plant.tradeLockOpen = false ∧ closedSite.tradeLockOpen = true ∧
    (4 ≤ (4 : Byte).toNat ∧ (9 : Word16).toNat < 10 ∧ 10000 < (10001 : Word16).toNat) ∧
    (10 ≤ (10 : Word16).toNat ∧ (10000 : Word16).toNat ≤ 10000 ∧ (3 : Fin 4).val = (3 : Byte).toNat) ∧
    ((plantAt .ending).pos 0).state.busy = true ∧ (closedSite.pos 3).state.busy = false := by decide +kernel

theorem test_witness_BillingRoundsHalfUp :
    (4217 = ({ ticket with mass := 4217030 } : Ticket).grams ∧ ticket.price = some 138500) ∧
    ({ ticket with mass := 4217030 } : Ticket).billed < 4294967295 := by decide

/-! #### Operating requests -/

/-- The position 0 of the fuelling plant in another state of its fill. -/
def fillAt (x : PosState) (factors : FactorSet) : State :=
  fuelling.modPos 0 fun q => { q with state := x, drawBank := none, factors := factors }

def supervisorOnly : FactorSet := { FactorSet.empty with supervisor := true }

theorem test_witness_HoldAndStopPositionByState :
    station.sender = 0 ∧ 4 ≤ (4 : Byte).toNat ∧ (3 : Fin 4).val = (3 : Byte).toNat ∧
    (∀ s ∈ [plant, fuelling, fillAt (.starting .settle) .empty, fillAt (.held .delay) .empty], noGrantDue s) ∧
    (plant.pos 3).state.filling = false ∧ (fuelling.pos 0).state.filling = true ∧
    ((fillAt (.held .factorWait) supervisorOnly).pos 0).factors.supervisor = true ∧
    (((fillAt (.starting .settle) .empty).pos 0).state = .starting .settle ∧
      ((fillAt (.starting .settle) .empty).pos 0).factors.supervisor = false) ∧
    (((fillAt (.held .delay) .empty).pos 0).state = .held .delay ∧
      ((fillAt (.held .delay) .empty).pos 0).factors.supervisor = false) ∧
    ((fuelling.pos 0).state = .fuelling ∧ (fuelling.pos 0).factors.supervisor = false) := by
  unfold noGrantDue
  decide +kernel

theorem test_witness_ResumePositionByState :
    station.sender = 0 ∧ 4 ≤ (4 : Byte).toNat ∧ (0 : Fin 4).val = (0 : Byte).toNat ∧
    (((fillAt (.starting .pulse) supervisorOnly).pos 0).state = .starting .pulse ∧
      ((fillAt (.starting .pulse) supervisorOnly).pos 0).factors.supervisor = true) ∧
    (((fillAt (.held .factorWait) supervisorOnly).pos 0).state = .held .factorWait ∧
      ((fillAt (.held .factorWait) supervisorOnly).pos 0).factors = supervisorOnly ∧
      (plant.cfg 0).clearMode = .manual ∧
      (({ plant with positionConfig := setAt plant.positionConfig 0 { PositionConfig.factory with clearMode := .timed } } : State).cfg
        0).clearMode ≠ .manual) ∧
    ((fillAt (.held .demandWait) .empty).pos 0).state = .held .demandWait ∧
    ((fillAt (.held .factorWait) { supervisorOnly with sensor := true }).pos 0).factors.sensor = true ∧
    ((fillAt (.held .delay) .empty).pos 0).state = .held .delay ∧ (plant.pos 3).state.filling = false := by decide +kernel

def heldSite : State := fillAt (.held .demandWait) .empty

/-- The held plant with its bank too low to draw on. -/
def heldLow : State := { heldSite with banks := setAt heldSite.banks 0 ⟨2299, 3032, 0, false⟩ }

theorem test_witness_ResumeReturnsToFuelling :
    (∀ s ∈ [heldSite, heldLow], (s.pos 0).state = .held .demandWait ∧ (s.pos 0).factors = .empty ∧ noGrantDue s) ∧
    heldSite.selectedBank 0 none = some 0 ∧
    (heldLow.selectedBank 0 none = none ∧ (heldLow.cfg 0).bankLow = .holdFill) ∧
    (let ends : State := { heldLow with positionConfig := setAt heldLow.positionConfig 0 { heldLow.cfg 0 with bankLow := .endFill } }
     (ends.selectedBank 0 none = none ∧ (ends.cfg 0).bankLow = .endFill) ∧ (ends.pos 0).factors = .empty ∧ noGrantDue ends) := by
  unfold noGrantDue
  decide +kernel

/-- R117: a resume taken before the expiry that falls together with it stops short of the total of 180 s, and the ticket
shows the same figure. -/
theorem test_resume_stops_short :
    (let s := heldSite.modPos 0 fun q => { q with holdTime := 180000 }
     let t := after (.resumePosition station 0) s
     s.selectedBank 0 none = some 0 ∧ (s.cfg 0).maxHold * 1000 ≤ (s.pos 0).holdTime ∧ (t.pos 0).state = .fuelling ∧
       (t.pos 0).holdTime < 180000 ∧ (t.activeTicket 0).map Ticket.holdUsed = some ((t.pos 0).holdTime / 1000)) := by
  decide +kernel

/-- R116 (1): a resume rebases the ramp at ten times P_disp. -/
theorem test_resume_rebases :
    (let t := after (.resumePosition station 0) heldSite
     ((t.pos 0).state, (t.pos 0).ramp.base, (t.pos 0).ramp.stepTimer)) = (.fuelling, 20000, some 250) := by decide +kernel

/-! #### The compressor, the banks and the chiller -/

def compressorAt (c : Compressor) : State := { plant with compressor := c }

/-- A compressor with bank 0 queued and a CLEAR supply. -/
def ready : Compressor := { Compressor.atRestart false with queue := [0], supply := .clear }

theorem test_witness_RefillIsSuspendedAndResumed :
    station.sender = 0 ∧ (compressorAt ready).compressor.state = .stopped ∧
    (compressorAt { ready with state := .suspended }).compressor.state = .suspended ∧
    (compressorAt { ready with state := .lockout }).compressor.state = .lockout ∧
    (compressorAt { ready with state := .unloaded }).compressor.state = .unloaded := by decide +kernel

theorem test_witness_CompressorStartTest :
    ((compressorAt { ready with state := .unloaded }).compressor.state ≠ .stopped) ∧
    ((compressorAt ready).compressor.state = .stopped ∧ (compressorAt ready).commissioned = true ∧
      (∃ b ∈ (compressorAt ready).compressor.queue,
        (compressorAt ready).compressor.activeBank ≠ some b ∧ ∀ p, ((compressorAt ready).pos p).drawBank ≠ some b) ∧
      (compressorAt ready).compressor.supply = .clear ∧ (compressorAt ready).compressor.esdCause = false ∧
      0 < (compressorAt ready).compressor.credits) ∧
    (compressorAt { ready with credits := 0, returns := [1, 2, 3, 4, 5, 6] }).compressor.credits = 0 ∧
    (compressorAt { ready with queue := [] }).compressor.queue = [] := by decide +kernel

theorem test_witness_BanksAreIsolatedAndReturned :
    station.sender = 0 ∧ 6 ≤ (6 : Byte).toNat ∧ (0 : Fin 6).val = (0 : Byte).toNat ∧ (5 : Fin 6).val = (5 : Byte).toNat ∧
    ((fuelling.bank 0).isolated = false ∧ fuelling.compressor.queue.Nodup) ∧
    (let apart : State := { plant with banks := setAt plant.banks 0 ⟨9500, 3580, 0, true⟩ }
     (apart.bank 0).isolated = true ∧ ((apart.bankCfg 0).pChannel = some 10 ∧ (apart.chan 10).state = .ok) ∧
       ((apart.bankCfg 0).tChannel = some 11 ∧ (apart.chan 11).state = .ok) ∧ (apart.bank 0).p ≤ (apart.bankCfg 0).rated ∧
       (apart.bank 0).t ≤ 3580 ∧ apart.compressor.activeBank ≠ some 0 ∧ apart.waiting.has 0 = false) ∧
    (let back : State := { heldLow with banks := setAt plant.banks 0 ⟨9500, 3580, 0, false⟩, waiting := ⟨true, false, false, false⟩ }
     back.waiting.has 0 = true ∧ back.eligible 0 none 0 = true) := by decide +kernel

def chillerAt (c : Precool) : State := { plant with precool := c }

def cold : Precool := { Precool.atRestart false with coolantSeen := true }

theorem test_witness_ChillerIsSwitchedOnAndOff :
    station.sender = 0 ∧
    (chillerAt { cold with chiller := .ready }).precool.chiller = .ready ∧
    ((chillerAt { cold with chiller := .fault, faultLine := true }).precool.chiller = .fault ∧
      (chillerAt { cold with chiller := .fault, faultLine := true }).precool.faultLine = true) ∧
    ((chillerAt { cold with coolantCause := true }).precool.chiller = .off ∧
      (chillerAt { cold with coolantCause := true }).precool.coolantCause = true ∧
      ∀ p ∈ (chillerAt { cold with coolantCause := true }).precool.waitQueue,
        (chillerAt { cold with coolantCause := true }).precool.holders.has p = false) ∧
    (plant.precool.chiller = .off ∧ plant.precool.faultLine = false ∧ plant.precool.coolantCause = false ∧
      plant.precool.coolantSeen = false) ∧
    ((chillerAt cold).precool.coolantSeen = true ∧ (chillerAt cold).coolantValue = some 2300 ∧
      2300 ≤ (chillerAt cold).site.limitG3 - (chillerAt cold).site.approach) ∧
    (let waits : State := { fillAt (.starting .settle) .empty with precool := { cold with chiller := .ready, waitQueue := [0] } }
     0 ∈ waits.precool.waitQueue ∧ waits.precool.holders.has 1 = false ∧ 1 ∉ waits.precool.waitQueue) ∧
    (let holds : State :=
      { fillAt (.starting .settle) .empty with precool := { cold with chiller := .ready, holders := ⟨true, false, false, false⟩ } }
     holds.precool.holders.has 0 = true ∧ (holds.pos 0).state = .starting .settle) := by decide +kernel

/-- Position 0 waits for a slot of a READY chiller that offers G1, in a substate and with or without VEHICLE_HALT; entry 1 holds
its NONCOMM profile at G1. -/
def grantable (sub : Substate) (halt : Bool) : State :=
  { (fillAt (.starting sub) { FactorSet.empty with vehicleHalt := halt }).modPos 0 fun q =>
      { q with coolWaitTimer := some 3, pInit := some 2000, drawBank := none } with
    profiles := setAt plant.profiles 1 (some { profile with comm := none, grade := .g1 })
    precool := { cold with chiller := .ready, offered := .g1, waitQueue := [0] } }

theorem test_witness_grants :
    noGrantDue plant ∧
    (∀ x ∈ [(Substate.settle, false), (.coolWait, true), (.coolWait, false)],
      (grantable x.1 x.2).precool.waitQueue = 0 :: [] ∧ (grantable x.1 x.2).slotFree = true ∧
        ((grantable x.1 x.2).pos 0).state = .starting x.1 ∧ ((grantable x.1 x.2).pos 0).factors.vehicleHalt = x.2) ∧
    (2682 ≤ plant.site.limitG3 - plant.site.approach ∧ plant.site.limitG3 - plant.site.approach < 2683 ∧
      (plant.chanCfg 22).windowMin ≤ 2682 ∧ 2683 ≤ (plant.chanCfg 22).windowMax ∧
      (chillerAt { cold with chiller := .pulldown }).precool.chiller = .pulldown) := by
  unfold noGrantDue
  decide +kernel

/-- R56 (4), R162 (1) to (3): a grant in COOL_WAIT stops the timer, and the fill starts on the profile of the offered grade; under
VEHICLE_HALT it waits; in SETTLE the grade is kept. -/
theorem test_grant_tells_the_position :
    (let t := (grantable .coolWait false).makeGrants
     ((t.pos 0).state, (t.pos 0).ramp.profile, (t.pos 0).coolWaitTimer, t.grade 0, t.precool.waitQueue)) =
      (.fuelling, some 1, none, some .g1, []) ∧
    (let t := (grantable .coolWait true).makeGrants
     ((t.pos 0).state, (t.pos 0).coolWaitTimer, t.grade 0)) = (.starting .coolWait, none, some .g1) ∧
    (let t := (grantable .settle false).makeGrants
     ((t.pos 0).state, (t.pos 0).coolWaitTimer, t.grade 0)) = (.starting .settle, some 3, some .g1) := by decide +kernel

/-- R162: an entry into READY with two free slots and three waiters grants to the first two; the third stays at the head. -/
theorem test_ready_grants_in_order :
    (let t := after (.sampleArrival 220 2250) (chillerAt { cold with chiller := .pulldown, waitQueue := [2, 0, 1] })
     (t.precool.holders, t.precool.waitQueue, t.grade 2, t.grade 1)) =
      (⟨true, false, true, false⟩, [1], some .g1, none) := by decide +kernel

/-- Position 0 in a state, holding a cooling slot at grade G1. -/
def slotAt (x : PosState) (factors : FactorSet) (l : LinkContext) : State :=
  { (fillAt x factors).modPos 0 fun q => { q with link := l } with
    precool :=
      { cold with
        chiller := .ready, holders := ⟨true, false, false, false⟩
        grades := setAt plant.precool.grades 0 (some .g1), fallback := setAt plant.precool.fallback 0 (some 9) } }

/-- A state with its disposition for PRECOOL at position 0. -/
def precoolEnds (s : State) (d : Disposition) : State :=
  { s with positionConfig := setAt s.positionConfig 0 { s.cfg 0 with precool := d } }

/-- The holders that lose their slot, in each clause of R74 and R157 (2), and the waiters that CHILLER_OFF withdraws. -/
theorem test_witness_lost_slots :
    (∀ x ∈ [PosState.fuelling, .held .factorWait, .starting .settle],
      (slotAt x .empty stream).precool.holders.has 0 = true ∧ 0 ∉ (slotAt x .empty stream).precool.waitQueue ∧
        ((slotAt x .empty stream).pos 0).state = x ∧ (slotAt x .empty stream).precool.chiller ≠ .fault ∧
        (slotAt x .empty stream).precool.coolantCause = false) ∧
    ((slotAt .fuelling .empty stream).lookupProfile 0 (some .g0) .comm).isSome = true ∧
    (slotAt .fuelling .empty .off).lookupProfile 0 (some .g0) .noncomm = none ∧
    (∀ d ∈ [Disposition.holdFill, .endFill], ((precoolEnds (slotAt .fuelling .empty .off) d).cfg 0).precool = d ∧
      ((precoolEnds (slotAt .fuelling .empty .off) d).pos 0).factors.precool = false) ∧
    ((slotAt (.held .factorWait) { FactorSet.empty with precool := true } .off).pos 0).factors.precool = true ∧
    ((fuelling.pos 0).active = some 1 ∧ fuelling.ticketSlot 1 = some 0 ∧ (fuelling.tickets.get 0).isSome = true ∧
      ∀ q, q ≠ 0 → (fuelling.pos q).active ≠ some 1) ∧
    ∀ x ∈ [(Substate.settle, false), (.coolWait, true), (.coolWait, false)],
      (let waits : State :=
        { fillAt (.starting x.1) { FactorSet.empty with vehicleHalt := x.2 } with
          precool := { cold with chiller := .ready, waitQueue := [0] } }
       waits.precool.waitQueue = [0] ∧ waits.precool.holders = .empty ∧ (waits.pos 0).state = .starting x.1 ∧
         (waits.pos 0).factors.vehicleHalt = x.2) := by decide +kernel

/-- R74 (2): a fault with no profile for G0: the grade is G0, PRECOOL holds the fill, the profile is kept. -/
theorem test_fault_holds_a_cooled_fill :
    (let t := after (.debounceExpiry .chillerFault)
        { slotAt .fuelling .empty .off with
          debouncers := plant.debouncers.put .chillerFault ⟨false, true, some 5⟩ }
     (t.precool.chiller, (t.pos 0).state, (t.pos 0).factors.precool, t.grade 0, (t.pos 0).ramp.profile)) =
      (.fault, .held .factorWait, true, some .g0, some 0) := by decide +kernel

/-- The fuelling plant with a second bank of 9,200 rated 9,500, of which position 0 may draw. -/
def twoBanks : State :=
  { fuelling with
    bankConfig := setAt plant.bankConfig 1 (plant.bankCfg 0)
    banks := setAt plant.banks 1 ⟨9200, 3032, 0, false⟩ }

/-- A position that draws on bank 0 when it is isolated, with and without another bank, in FUELLING and in PULSE. -/
theorem test_witness_displaced :
    ((twoBanks.bank 0).isolated = false ∧ twoBanks.compressor.queue.Nodup ∧ twoBanks.compressor.activeBank ≠ some 0 ∧
      (twoBanks.pos 0).state = .fuelling ∧ (twoBanks.pos 0).drawBank = some 0 ∧ (twoBanks.pos 0).factors.bankLow = false ∧
      (∀ o, o ≠ 0 → (twoBanks.pos o).drawBank ≠ some 0)) ∧
    ((twoBanks.modBank 0 fun b => { b with isolated := true }).eligible 0 none 1 = true ∧
      (twoBanks.modBank 0 fun b => { b with isolated := true }).selectedBank 0 none = some 1) ∧
    (∀ a, (fuelling.modBank 0 fun b => { b with isolated := true }).eligible 0 none a = false) ∧
    (fuelling.cfg 0).bankLow = .holdFill ∧
    (let ends : State :=
      { fuelling with positionConfig := setAt fuelling.positionConfig 0 { fuelling.cfg 0 with bankLow := .endFill } }
     (ends.cfg 0).bankLow = .endFill ∧ (ends.pos 0).state = .fuelling ∧
       ∀ a, (ends.modBank 0 fun b => { b with isolated := true }).eligible 0 none a = false) ∧
    (let pulses := fuelling.modPos 0 fun q => { q with state := .starting .pulse }
     (pulses.pos 0).state = .starting .pulse ∧ (pulses.pos 0).drawBank = some 0) := by decide +kernel

/-- Bank 0 under refill and undrawn, with bank 1 queued behind it. -/
def refillingTwo : State :=
  { twoBanks.modPos 0 fun q => { q with drawBank := none } with
    compressor := { ready with state := .running, queue := [0, 1], activeBank := some 0 } }

/-- The choices of the compressor: an ACTIVE bank with another one choosable behind it and with none, a bank that asks for a refill
in STOPPED and in UNLOADED and one that does not, and a draw set that empties. -/
theorem test_witness_refill_choices :
    (refillingTwo.compressor.activeBank = some 0 ∧ (∀ p, (refillingTwo.pos p).drawBank ≠ some 0) ∧
      (refillingTwo.bank 0).isolated = false ∧ refillingTwo.compressor.queue = [0] ++ 1 :: [] ∧
      ∀ p, (refillingTwo.pos p).drawBank ≠ some 1) ∧
    (let alone : State := { refillingTwo with compressor := { refillingTwo.compressor with queue := [0] } }
     alone.compressor.activeBank = some 0 ∧ alone.compressor.queue.erase 0 = []) ∧
    (∀ x ∈ [CompressorState.stopped, .unloaded, .starting],
      let low : State := { compressorAt { ready with queue := [], state := x } with
        banks := setAt plant.banks 0 ⟨7999, 3032, 0, false⟩ }
      low.compressor.state = x ∧ low.commissioned = true ∧ (low.bankCfg 0).inService = true ∧ (low.bank 0).isolated = false ∧
        (low.bankCfg 0).pChannel = some 10 ∧ (low.chan 10).taken = true ∧ (low.chan 10).state ≠ .failed ∧
        (low.bank 0).p < (low.bankCfg 0).refillStart ∧ low.compressor.activeBank ≠ some 0 ∧ 0 ∉ low.compressor.queue) ∧
    ((fuelling.pos 0).drawBank = some 0 ∧ ∀ o, o ≠ 0 → (fuelling.pos o).drawBank ≠ some 0) ∧
    (0 ∈ ({ fuelling with compressor := ready } : State).compressor.queue ∧ 0 ∉ fuelling.compressor.queue) := by
  decide +kernel

/-- R132 (2), R140 (2), R141: at the isolation of the ACTIVE bank the next queued bank becomes ACTIVE, and the motor runs on. -/
theorem test_isolation_refills_the_next :
    (let t := after (.isolateBank station 0) refillingTwo
     (t.compressor.state, t.compressor.activeBank, t.compressor.queue)) = (.running, some 1, [1]) := by decide +kernel

/-- R132 (3): a position in FUELLING goes on from the other bank, with both counts at 0. -/
theorem test_isolation_switches :
    (let t := after (.isolateBank station 0) (twoBanks.modPos 0 fun q => { q with ramp := { q.ramp with starved := 1 } })
     ((t.pos 0).state, (t.pos 0).drawBank, (t.pos 0).ramp.starved)) = (.fuelling, some 1, 0) := by decide +kernel

/-- R160: at a coolant value of 2,300 with an approach of 50, G2 is offered (2,350 lies above 2,331). -/
theorem test_chiller_on_offers_g2 : (after (.chillerOn station) (chillerAt cold)).precool.offered = .g2 := by
  decide +kernel

theorem test_witness_EsdLatchIsSetAndCleared :
    (plant.esdLine = false ∧ plant.esdLatch = false ∧ plant.compressor.state.motorOn = false) ∧
    (compressorAt { ready with state := .running, activeBank := some 0 }).compressor.state.motorOn = true ∧
    ((fuelling.pos 0).state.filling = true ∧ (fuelling.pos 3).state.filling = false ∧ fuelling.esdLine = false ∧
      fuelling.esdLatch = false ∧ (fuelling.pos 0).active = some 1 ∧ fuelling.ticketSlot 1 = some 0 ∧
      (fuelling.tickets.get 0).isSome = true ∧ fuelling.precool.waitQueue.Nodup ∧
      ∀ p, (fuelling.pos p).state.filling = true → ∀ n ∈ (fuelling.pos p).active, fuelling.ticketSlot n ≠ some 31) ∧
    station.sender = 0 ∧
    (let latched : State := { plant with esdLatch := true, esdLine := true }
     latched.esdLatch = true ∧ latched.esdLine = true) ∧
    (let latched : State := { plant with esdLatch := true }
     latched.esdLatch = true ∧ latched.esdLine = false) := by decide +kernel

/-- R64, R162: the ESD latch ends the fill of a slot holder and of a position that waits for the slot, which is not granted on. -/
theorem test_esd_ends_a_waiter :
    (let s : State := (fuelling.modPos 1 fun q =>
        { q with state := .starting .coolWait, coolWaitTimer := some 9000, active := some 2 }).modPcl fun c =>
          { c with chiller := .ready, holders := ⟨true, true, false, false⟩, waitQueue := [1] }
     let s : State := { s with tickets := setAt s.tickets 1 (some { ticket with number := 2, state := .fuelling, position := 1 }) }
     let t := after (.esdLineChange true) s
     (t.activeTicket 0).bind Ticket.endReason = some .esd ∧ (t.activeTicket 1).bind Ticket.endReason = some .esd ∧
       t.precool.waitQueue = []) := by decide +kernel

theorem test_witness_StatusRequestsShowTheState :
    4 ≤ (4 : Byte).toNat ∧ (3 : Fin 4).val = (3 : Byte).toNat ∧ ¬mayActOn plant terminal 3 ∧ mayActOn plant station 3 ∧
    station.sender = 0 ∧ 6 ≤ (6 : Byte).toNat ∧ (5 : Fin 6).val = (5 : Byte).toNat ∧
    (plant.compressor.queue.length ≤ 6 ∧ plant.compressor.returns.length ≤ 6) ∧ plant.precool.waitQueue.length ≤ 4 ∧
    32 ≤ (32 : Byte).toNat ∧ (31 : Fin 32).val = (31 : Byte).toNat := by
  unfold mayActOn
  decide +kernel

/-! #### The field lines and the vehicle link -/

theorem test_witness_SamplesAndGraceTimesMoveChannels :
    (∀ c, (plant.chanCfg c).user.isSome = true → (plant.chanCfg c).source ≠ (41 : Byte).toNat) ∧
    (∀ x ∈ [((4 : Fin 32), Role.pDisp 0, (40 : Byte)), (10, .bankP 0, 100), (20, .supply, 200), (21, .discharge, 210)],
      (plant.chanCfg x.1).user = some x.2.1 ∧ (plant.chanCfg x.1).source = x.2.2.toNat ∧
        ∀ d, d < x.1 → ¬((plant.chanCfg d).user.isSome = true ∧ (plant.chanCfg d).source = x.2.2.toNat)) ∧
    ((plant.chanCfg 4).windowMin ≤ 10000 ∧ 10000 ≤ (plant.chanCfg 4).windowMax) ∧
    (let narrow : State := { plant with channelConfig := setAt plant.channelConfig 4 { plant.chanCfg 4 with windowMax := 9999 } }
     ¬(10000 ≤ (narrow.chanCfg 4).windowMax) ∧ (narrow.chan 4).state = .ok) ∧
    (plant.chan 20).state ≠ .ok ∧ (plant.chan 4).grace = some 2000 ∧
    ((fuelling.chanCfg 4).user = some (.pDisp 0) ∧ (fuelling.pos 0).state.filling = true) ∧
    ((plant.pos 0).state.filling = false ∧ noGrantDue (plant.elapse 2000)) ∧ noGrantDue plant ∧
    (∀ x ∈ [((5 : Fin 32), Role.tGas 0, (50 : Byte)), (11, .bankT 0, 110), (22, .coolant, 220)],
      (plant.chanCfg x.1).user = some x.2.1 ∧ (plant.chanCfg x.1).source = x.2.2.toNat ∧
        ∀ d, d < x.1 → ¬((plant.chanCfg d).user.isSome = true ∧ (plant.chanCfg d).source = x.2.2.toNat)) := by
  unfold noGrantDue
  decide +kernel

/-- The values of the roles at the boundaries of their clauses. -/
theorem test_witness_samples_by_role :
    ((plant.chan 4).state = .ok ∧ ((plant.setChan 4 .atRestart).chan 4).state ≠ .ok ∧
      ((plant.setChan 4 ⟨.held, 0, true, some 1⟩).cfg 0).pDisp = some 4) ∧
    ((plant.bankCfg 0).rated < 9501 ∧ (plant.bank 0).isolated = false ∧ 9500 ≤ (plant.bankCfg 0).rated ∧
      ({ plant with banks := setAt plant.banks 0 ⟨9500, 3580, 0, true⟩ } : State).banks = setAt plant.banks 0 ⟨9500, 3580, 0, true⟩) ∧
    (0 ∈ (compressorAt ready).compressor.queue ∧ (compressorAt ready).compressor.queue.Nodup ∧
      (plant.bankCfg 0).refillTarget ≤ 9000 ∧ (plant.bankCfg 0).refillStart ≤ 9000) ∧
    (plant.commissioned = true ∧ (plant.bankCfg 0).inService = true ∧ (plant.bankCfg 0).pChannel = some 10 ∧
      7999 < (plant.bankCfg 0).refillStart ∧ 7999 < (plant.bankCfg 0).refillTarget ∧ plant.compressor.activeBank ≠ some 0) ∧
    (plant.site.supplyMin = 200 ∧ 199 < plant.site.supplyMin ∧ plant.compressor.supply ≠ .below) ∧
    (plant.site.dischargeLimit < 3631 ∧ 3630 ≤ plant.site.dischargeLimit ∧
      (compressorAt { ready with state := .lockout }).compressor.state = .lockout ∧
      (compressorAt { ready with state := .suspended }).compressor.state = .suspended) ∧
    (chillerAt { cold with chiller := .pulldown }).precool.chiller = .pulldown ∧ plant.precool.chiller = .off ∧
    (plant.compressor.supply = .noValue ∧ (after (.sampleArrival 200 200) plant).compressor.supply = .clear ∧
      (after (.sampleArrival 200 200) (compressorAt ready)).compressor.supply = (compressorAt ready).compressor.supply ∧
      (compressorAt ready).compressor.supply ≠ .noValue) ∧
    ((plant.chan 22).grace = some 2000 ∧ plant.precool.coolantCause = false ∧
      (chillerAt { cold with chiller := .fault }).precool.chiller = .fault ∧
      (chillerAt { cold with coolantCause := true }).precool.coolantCause = true) ∧
    (∀ c ∈ [(5 : Fin 32), 11, 21], ((plant.setChan c ⟨.held, 2900, true, some 3⟩).chan c).grace = some 3) := by
  decide +kernel

/-- R11, R165 (1): a T_gas value of 2,400 at grade G1 (limit 2,331) is the peak of the ticket and starts the window of 10 s. -/
theorem test_warm_gas_starts_the_window :
    (let t := after (.sampleArrival 50 2400)
        { fuelling with precool := { cold with chiller := .ready, grades := setAt plant.precool.grades 0 (some .g1) } }
     ((t.activeTicket 0).bind Ticket.peakTGas, t.precool.fallback.get 0)) = (some 2400, some 10000) := by decide +kernel

/-- The plant with a debounce timer that runs towards a raw level. -/
def bouncing (line : SwitchLine) (raw : Bool) (s : State) : State :=
  { s with debouncers := s.debouncers.put line ⟨!raw, raw, some 5⟩ }

theorem test_witness_SwitchLinesAreDebouncedAndAct :
    (∀ x ∈ [(SwitchLine.metrology, true), (.metrology, false), (.chillerFault, true), (.chillerFault, false),
        (.holster 0, false), (.holster 0, true), (.coupling 0, true), (.coupling 0, false)],
      ((bouncing x.1 x.2 plant).debouncers.at x.1).timer = some 5 ∧
        ((bouncing x.1 x.2 plant).debouncers.at x.1).raw = x.2) ∧
    (true ≠ (plant.debouncers.at (.coupling 0)).raw ∧ true ≠ (plant.debouncers.at (.coupling 0)).level) ∧
    (let half := bouncing (.coupling 0) true plant
     false ≠ (half.debouncers.at (.coupling 0)).raw ∧ false = (half.debouncers.at (.coupling 0)).level) ∧
    (plant.precool.faultLine = false ∧ plant.precool.chiller ≠ .fault) ∧
    ((plantAt .idle).pos 0).state = .idle ∧ (plant.pos 0).state = .calling ∧
    (let none_ := plantWith fun q => { q with state := .ended, active := none }
     (none_.pos 0).state = .ended ∧ (none_.pos 0).active = none) ∧
    ((delivered.pos 0).state = .ended ∧ (delivered.pos 0).active = some 1 ∧ delivered.ticketSlot 1 = some 0 ∧
      (delivered.tickets.get 0).any (fun k => k.state == .ended) = true) ∧
    (fuelling.pos 0).state.filling = true ∧ ((plant.pos 0).state.filling = false ∧ noGrantDue (plant.elapse 5)) := by
  unfold noGrantDue
  decide +kernel

/-- R173: a holster line whose debounce time ends at open takes position 0 from IDLE to CALLING (R48). -/
theorem test_lift_calls :
    ((after (.debounceExpiry (.holster 0)) (bouncing (.holster 0) false (plantAt .idle))).pos 0).state = .calling := by
  decide +kernel

theorem test_witness_MeterLinesCountPulses :
    ((fuelling.pos 0).meterA = false ∧ (fuelling.pos 0).meterB = false) ∧
    [(false, false, true, false), (true, false, true, true), (true, true, false, true), (false, true, false, false)].contains
      (false, false, true, false) = true ∧
    [(true, false, false, false), (true, true, true, false), (false, true, true, true), (false, false, false, true)].contains
      (false, false, false, true) = true ∧
    (let full := fuelling.modPos 0 fun q => { q with quarter := 3 }
     (full.pos 0).quarter + 1 = 4 ∧ (full.pos 0).state.busy = true ∧ (full.pos 0).active = some 1 ∧
       full.ticketSlot 1 = some 0 ∧ (full.tickets.get 0).isSome = true) ∧
    (let back := fuelling.modPos 0 fun q => { q with quarter := -3 }
     (back.pos 0).quarter + -1 = -4) ∧
    ((plant.pos 0).state.busy = false ∧ ((plantWith fun q => { q with quarter := 3 }).pos 0).quarter + 1 = 4) ∧
    (let twice := fuelling.modPos 0 fun q => { q with phaseFaults := 2 }
     true ≠ (twice.pos 0).meterA ∧ true ≠ (twice.pos 0).meterB ∧ (twice.pos 0).state.busy = true ∧
       min 255 ((twice.pos 0).phaseFaults + 1) = 3 ∧ noGrantDue twice ∧ (twice.pos 0).state = .fuelling ∧
       (twice.pos 0).factors.meter = false ∧ (twice.cfg 0).meter = .holdFill) ∧
    min 255 ((fuelling.pos 0).phaseFaults + 1) ≠ 3 ∧
    (let ends : State := { fuelling with positionConfig := setAt fuelling.positionConfig 0 { fuelling.cfg 0 with meter := .endFill } }
     (ends.cfg 0).meter = .endFill ∧ (ends.pos 0).state = .fuelling ∧ (ends.pos 0).factors.meter = false) ∧
    (let holds := (fillAt (.held .delay) .empty).modPos 0 fun q => { q with phaseFaults := 2 }
     (holds.pos 0).state.filling = true ∧ (holds.pos 0).state.busy = true ∧ min 255 ((holds.pos 0).phaseFaults + 1) = 3 ∧
       noGrantDue holds) ∧
    ((fillAt .ending .empty).pos 0).state = .ending ∧
    ((fillAt (.starting .settle) .empty).pos 0).state = .starting .settle := by
  unfold noGrantDue
  decide +kernel

/-- A vehicle frame of class H70: its kind, bit and command byte, P 6,850, T 3,182, V 150, a tag of eight letters A, and the
checksum that makes the sum of the bytes 0. -/
def vehicleBytes (first : Byte) : Vector Byte 16 :=
  #v[first, 0x1A, 0xC2, 0x0C, 0x6E, 0, 150, 0x41, 0x41, 0x41, 0x41, 0x41, 0x41, 0x41, 0x41,
    0 - (first + 0x1A + 0xC2 + 0x0C + 0x6E + 150 + 8 * 0x41)]

/-- 12.6.6: the bits of the first byte, and the fields in their places. -/
theorem test_parse_ident_frame :
    parseVehicleFrame (vehicleBytes 0x04).toArray.toList =
      some ⟨false, false, .h70, .run, 6850, 3182, 150, Vector.replicate 8 0x41⟩ := by decide +kernel

/-- 12.6.6: bit 0 is the kind, bit 1 the alternation bit, bits 4 and 5 the command. -/
theorem test_parse_halt_frame :
    (parseVehicleFrame (vehicleBytes 0x17).toArray.toList).map (fun f => (f.isData, f.bit, f.command)) =
      some (true, true, .halt) := by decide +kernel

theorem test_witness_VehicleFrameLayout :
    ((vehicleBytes 0x04).toArray.toList.map BitVec.toNat).sum % 256 = 0 ∧
    ((Vector.replicate 16 (1 : Byte)).toArray.toList.map BitVec.toNat).sum % 256 ≠ 0 := by decide +kernel

def linked (l : LinkContext) (s : State) : State := s.modPos 0 fun q => { q with link := l }

theorem test_witness_VehicleFramesMoveTheLink :
    (plant.pos 0).link.state = .off ∧
    (((linked stream plant).pos 0).link.state ≠ .off ∧
      parseVehicleFrame (Vector.replicate 16 (1 : Byte)).toArray.toList = none) ∧
    ((linked { stream with state := .lost } plant).pos 0).link.state = .lost ∧
    (∀ x ∈ [(0x05 : Byte), 0x07, 0x17, 0x27],
      (parseVehicleFrame (vehicleBytes x).toArray.toList).any (fun f => f.isData && f.vehicleClass == .h70) = true) ∧
    (((linked stream plant).pos 0).link.vehicleClass = some .h70 ∧ ((linked stream plant).pos 0).link.expectedBit = some true ∧
      (parseVehicleFrame (vehicleBytes 0x05).toArray.toList).map VehicleFrame.bit = some false ∧
      (parseVehicleFrame (vehicleBytes 0x07).toArray.toList).map VehicleFrame.bit = some true) ∧
    ((linked { LinkContext.off with state := .listen } plant).pos 0).link.state = .listen ∧
    ((parseVehicleFrame (vehicleBytes 0x04).toArray.toList).map VehicleFrame.isData = some false ∧
      (plant.pos 0).state.filling = false ∧ noGrantDue plant) ∧
    ((parseVehicleFrame (vehicleBytes 0x17).toArray.toList).map VehicleFrame.command = some .halt ∧
      ((linked stream fuelling).pos 0).state = .fuelling ∧ ((linked stream fuelling).pos 0).factors.vehicleHalt = false ∧
      noGrantDue (linked stream fuelling)) ∧
    (parseVehicleFrame (vehicleBytes 0x27).toArray.toList).map VehicleFrame.command = some .abort ∧
    (let waits : State := { linked stream heldSite with
        positionConfig := setAt plant.positionConfig 0 { plant.cfg 0 with clearMode := .timedDemand } }
     (waits.pos 0).state = .held .demandWait ∧ (waits.cfg 0).clearMode = .timedDemand ∧
       (waits.pos 0).factors.vehicleHalt = false) ∧
    ((linked stream plant).freshnessLeft 0 = some 820 ∧ (linked stream fuelling).freshnessLeft 0 = some 820) ∧
    (let halted := linked stream (fillAt (.held .factorWait) { FactorSet.empty with vehicleHalt := true })
     halted.freshnessLeft 0 = some 820 ∧ ((halted.elapse 820).pos 0).factors.vehicleHalt = true) ∧
    (((linked stream fuelling).elapse 820).lookupProfile 0 (((linked stream fuelling).elapse 820).grade 0) .noncomm = none) ∧
    (let open_ : State := { linked stream fuelling with
        profiles := setAt plant.profiles 1 (some { profile with comm := none })
        precool := { plant.precool with grades := setAt plant.precool.grades 0 (some .g0) } }
     ((open_.elapse 820).lookupProfile 0 ((open_.elapse 820).grade 0) .noncomm).isSome = true ∧
       noGrantDue (open_.elapse 820)) ∧
    ((parseVehicleFrame (vehicleBytes 0x04).toArray.toList).map VehicleFrame.isData = some false ∧
      ((linked stream fuelling).pos 0).link.state = .stream) ∧
    ((parseVehicleFrame (vehicleBytes 0x07).toArray.toList).map VehicleFrame.command = some .run ∧
      (parseVehicleFrame (vehicleBytes 0x13).toArray.toList).map VehicleFrame.command = none) := by
  unfold noGrantDue
  decide +kernel

/-- Position 0 in a start substate under VEHICLE_HALT, its link in STREAM. -/
def haltedAt (sub : Substate) (f : Position → Position) : State :=
  linked stream (fillAt (.starting sub) { FactorSet.empty with vehicleHalt := true }) |>.modPos 0 f

theorem test_witness_commands_in_a_fill :
    (let holds := linked stream (fillAt (.held .delay) .empty)
     (holds.pos 0).state.filling = true ∧ noGrantDue holds ∧ (holds.pos 0).state = .held .delay) ∧
    (∀ sub ∈ [Substate.pulse, .settle, .leakCheck, .coolWait], ((haltedAt sub id).pos 0).state = .starting sub ∧ ((haltedAt sub id).pos 0).factors.vehicleHalt = true ∧
      ((haltedAt sub id).pos 0).link.state = .stream ∧ noGrantDue (haltedAt sub id)) ∧
    ((haltedAt .settle fun q => { q with substateTimer := some 3 }).pos 0).substateTimer.isSome = true ∧
    ((haltedAt .coolWait fun q => { q with coolWaitTimer := some 3 }).pos 0).coolWaitTimer.isSome = true ∧
    (let pulseOnly := haltedAt .settle fun q => { q with substateTimer := none, variant := some .pulseOnly }
     (pulseOnly.pos 0).substateTimer = none ∧ (pulseOnly.pos 0).variant = some .pulseOnly) ∧
    (let checks := haltedAt .settle fun q => { q with substateTimer := none, variant := some .pulseCheck }
     (checks.pos 0).substateTimer = none ∧ (checks.pos 0).variant ≠ some .pulseOnly) ∧
    ((haltedAt .leakCheck fun q => { q with substateTimer := none }).pos 0).substateTimer = none ∧
    ((haltedAt .coolWait fun q => { q with coolWaitTimer := none }).pos 0).coolWaitTimer = none := by
  unfold noGrantDue
  decide +kernel

/-- R58 (3): a RUN lets a position that has ended its settle time go on to the leak check. -/
theorem test_run_releases_the_advance :
    ((after (.vehicleFrameArrival 0 (vehicleBytes 0x07))
      (haltedAt .settle fun q => { q with substateTimer := none, variant := some .pulseCheck })).pos 0).state =
      .starting .leakCheck := by decide +kernel

/-! #### The start sequence and the fill -/

/-- The plant with its coupling closed. -/
def coupled : State := { plant with debouncers := plant.debouncers.put (.coupling 0) ⟨true, true, none⟩ }

theorem test_witness_StartTestOpensAFill :
    ((coupled.pos 0).state = .calling ∧ coupled.activeTicket 0 = some ticket ∧ ticket.state = .authorized ∧
      (coupled.debouncers.coupling.get 0).level = true ∧ coupled.esdLatch = false ∧ coupled.tradeLockOpen = false ∧
      coupled.commissioned = true) ∧
    (plant.debouncers.coupling.get 0).level = false ∧
    (let failed : State := coupled.setChan 4 .atRestart
     (failed.cfg 0).pDisp = some 4 ∧ (failed.chan 4).state = .failed) ∧
    (({ coupled with banks := setAt coupled.banks 0 ⟨0, 0, 0, true⟩ } : State).selectedBank 0 none = none) ∧
    (coupled.selectedBank 0 none = some 0 ∧ (coupled.pos 0).active = some 1 ∧ coupled.ticketSlot 1 = some 0 ∧
      coupled.tickets.get 0 = some ticket ∧ (∀ q, q ≠ 0 → (coupled.pos q).active ≠ some 1)) ∧
    ((coupled.cfg 0).cooling = false ∧ noGrantDue coupled) ∧
    (let cools : State := { coupled with positionConfig := setAt plant.positionConfig 0 { plant.cfg 0 with cooling := true } }
     (cools.cfg 0).cooling = true ∧ cools.slotFree = false ∧
       ({ cools with precool := { cold with chiller := .ready } } : State).slotFree = true) := by
  unfold noGrantDue
  decide +kernel

/-- The plant with an ambient channel of value 2,932 in a state; without it there is none. -/
def ambientAt (x : ChannelState) : State :=
  { plant with
    channelConfig := setAt plant.channelConfig 23 (channelFor .ambient 230)
    channels := setAt plant.channels 23 ⟨x, 2932, true, none⟩ }

/-- R69: the ambient that a lookup reads, with no channel, with one that is FAILED, and with one that is HELD. -/
theorem test_witness_ambientRead :
    ambientRead plant 3232 ∧ ambientRead (ambientAt .failed) 3232 ∧ ambientRead (ambientAt .held) 2932 := by
  unfold ambientRead
  decide +kernel

/-- R70: the lookup of the plant finds entry 0 at grade G0 and nothing at G1. -/
theorem test_lookup_by_grade :
    (let s := plant.modPos 0 fun q => { q with link := stream }
     ((s.lookupProfile 0 (some .g0) .comm).map Prod.fst, (s.lookupProfile 0 (some .g1) .comm).map Prod.fst)) =
      (some 0, none) := by decide +kernel

/-- R129 (1), (2): of two banks of one rating the lower index is selected, unless it is ACTIVE. -/
theorem test_selection_leaves_the_active_bank :
    (twoBanks.selectedBank 0 none, refillingTwo.selectedBank 0 none) = (some 0, some 1) := by decide +kernel

/-- R52: the opening pulse of 200 permille for 1,000 ms (R44). -/
theorem test_start_enters_pulse :
    (((coupled.startTest 0).pos 0).state, ((coupled.startTest 0).pos 0).valve, ((coupled.startTest 0).pos 0).substateTimer) =
      (.starting .pulse, 200, some 1000) := by decide +kernel

/-- R52, R129 (3), R145: a start on the ACTIVE bank, which no other bank replaces, suspends its refill. -/
theorem test_start_suspends_the_refill :
    (let c := (({ coupled with compressor := { ready with state := .running, activeBank := some 0 } } : State).startTest 0).compressor
     (c.state, c.activeBank, c.queue, c.timer)) = (.unloaded, none, [0], some 30000) := by decide +kernel

/-- The start sequence of position 0 in a substate, 3 ms before its end. -/
def starting (sub : Substate) (f : Position → Position) : State :=
  fuelling.modPos 0 fun q =>
    f { q with state := .starting sub, drawBank := none, substateTimer := some 3, ramp := .cleared, pInit := some 2000
               leakTolerance := some 50 }

def halted (q : Position) : Position := { q with factors := { FactorSet.empty with vehicleHalt := true } }

theorem test_witness_StartSequenceAdvances :
    (starting .pulse id).substateLeft 0 .pulse = some 3 ∧ (starting .settle id).substateLeft 0 .settle = some 3 ∧
    (starting .leakCheck id).substateLeft 0 .leakCheck = some 3 ∧
    (((starting .settle id).setChan 4 ⟨.ok, 49, true, none⟩).elapse 3).pDisp 0 < 50 ∧
    (50 ≤ ((starting .settle halted).elapse 3).pDisp 0 ∧
      (((starting .settle halted).elapse 3).pos 0).factors.vehicleHalt = true ∧
      noGrantDue ((starting .settle halted).elapse 3)) ∧
    ((((starting .settle id).elapse 3).pos 0).factors.vehicleHalt = false ∧
      ((((starting .settle id).elapse 3).lookupVariant 0).map FillProfile.variant).getD .pulseCheck = .pulseCheck) ∧
    ((((starting .leakCheck id).setChan 4 ⟨.ok, 1949, true, none⟩).elapse 3).pDisp 0 + 50 < 2000) ∧
    (¬(((starting .leakCheck halted).elapse 3).pDisp 0 + 50 < 2000) ∧ noGrantDue ((starting .leakCheck halted).elapse 3)) ∧
    (let bound := (starting .leakCheck id).modTicket 1 fun k => { k with expectedTag := some (Vector.replicate 8 0x41) }
     ((bound.elapse 3).activeTicket 0).any (fun k => k.expectedTag.isSome) = true ∧
       ((bound.elapse 3).pos 0).link.state ≠ .stream) ∧
    (let cools : State := { starting .leakCheck id with
        positionConfig := setAt plant.positionConfig 0 { plant.cfg 0 with cooling := true } }
     ((cools.elapse 3).cfg 0).cooling = true ∧ (cools.elapse 3).precool.holders.has 0 = false ∧
       ((cools.elapse 3).pos 0).coolWaitExpired = false ∧ noGrantDue (cools.elapse 3) ∧
       ((cools.elapse 3).activeTicket 0).any (fun k => k.expectedTag.isNone) = true) ∧
    (let only : State := { starting .settle id with profiles := setAt plant.profiles 0 (some { profile with variant := .pulseOnly }) }
     only.substateLeft 0 .settle = some 3 ∧ 50 ≤ (only.elapse 3).pDisp 0 ∧
       ((only.elapse 3).lookupVariant 0).map FillProfile.variant = some .pulseOnly ∧ ((only.elapse 3).cfg 0).cooling = false) := by
  unfold noGrantDue
  decide +kernel

/-- R53 (4), R55 to R57: with start variant PULSE_ONLY and no cooling, the settle time ends in FUELLING. -/
theorem test_settle_end_starts_the_fill :
    ((after (.settleTimeEnd 0)
      { (starting .settle id).setGrade 0 (some .g0) with
        profiles := setAt plant.profiles 1 (some { profile with comm := none, variant := .pulseOnly }) |> fun v =>
          setAt v 0 (some { profile with variant := .pulseOnly }) }).pos 0).state = .fuelling := by decide +kernel

/-- Position 0 in COOL_WAIT, its NONCOMM profile at grade G0 in entry 1. -/
def coolWait : State :=
  { starting .coolWait (fun q => { q with coolWaitTimer := some 3 }) with
    profiles := setAt plant.profiles 1 (some { profile with comm := none })
    precool := { cold with chiller := .pulldown, waitQueue := [0] } }

theorem test_witness_CoolWaitEndsInTheStartLookup :
    coolWait.coolWaitLeft 0 = some 3 ∧
    ((coolWait.elapse 3).lookupProfile 0 (some .g0) .noncomm = some (1, { profile with comm := none }) ∧
      ((coolWait.elapse 3).pos 0).factors = .empty ∧ ((coolWait.elapse 3).pos 0).link.state ≠ .stream ∧
      ((coolWait.elapse 3).pos 0).pInit.getD 0 < profile.endPressure ∧ (coolWait.elapse 3).selectedBank 0 none = some 0 ∧
      noGrantDue (coolWait.elapse 3) ∧ (coolWait.elapse 3).precool.waitQueue.Nodup) ∧
    ((({ coolWait with profiles := plant.profiles } : State).elapse 3).lookupProfile 0 (some .g0) .noncomm = none) ∧
    profile.endPressure ≤ ((coolWait.modPos 0 fun q => { q with pInit := some 8750 }).pos 0).pInit.getD 0 ∧
    ((coolWait.modPos 0 halted).pos 0).factors.vehicleHalt = true := by
  unfold noGrantDue
  decide +kernel

theorem test_witness_ControlStepRunsTheFill :
    fuelling.stepLeft 0 = some 250 ∧
    ((fuelling.elapse 250).pos 0).ramp.profile = some 0 ∧ (fuelling.elapse 250).profiles.get 0 = some profile ∧
    noGrantDue (fuelling.elapse 250) ∧
    (profile.endPressure ≤ ((fuelling.setChan 4 ⟨.ok, 8750, true, none⟩).elapse 250).pDisp 0) ∧
    ((∀ b ∈ ((fuelling.elapse 250).pos 0).drawBank,
        ¬((fuelling.elapse 250).bank b).p < (fuelling.elapse 250).pDisp 0 + profile.switchDiff) ∧
      ¬(profile.endPressure ≤ (fuelling.elapse 250).pDisp 0) ∧
      ¬(fuelling.site.maxFillH70 * 60000 ≤ ((fuelling.elapse 250).pos 0).fillTime) ∧
      (((fuelling.elapse 250).activeTicket 0).any fun k => decide (k.presetAmount = some 6000) && k.amount == 0) = true) ∧
    (let low := (fuelling.modBank 0 fun b => { b with p := 2299 }).modPos 0 fun q => { q with ramp := { q.ramp with starved := 1 } }
     ((low.elapse 250).bank 0).p < (low.elapse 250).pDisp 0 + profile.switchDiff ∧
       (low.elapse 250).selectedBank 0 ((low.elapse 250).pos 0).drawBank = none ∧ (low.cfg 0).bankLow = .holdFill ∧
       ((low.elapse 250).pos 0).factors.bankLow = false ∧ noGrantDue (low.elapse 250) ∧
       (({ low with positionConfig := setAt low.positionConfig 0 { low.cfg 0 with bankLow := .endFill } } : State).cfg
         0).bankLow = .endFill) ∧
    (let low := (twoBanks.modBank 0 fun b => { b with p := 2299 }).modPos 0 fun q => { q with ramp := { q.ramp with starved := 1 } }
     ((low.elapse 250).bank 0).p < (low.elapse 250).pDisp 0 + profile.switchDiff ∧
       (low.elapse 250).selectedBank 0 ((low.elapse 250).pos 0).drawBank = some 1 ∧ noGrantDue (low.elapse 250)) := by
  unfold noGrantDue
  decide +kernel

/-- Position 0 in ENDING, 3 ms before the end of its vent time. -/
def venting : State := (fillAt .ending .empty).modPos 0 fun q => { q with substateTimer := some 3 }

def delayed : State := (fillAt (.held .delay) .empty).modPos 0 fun q => { q with resumeTimer := some 3, holdTime := 179999 }

theorem test_witness_VentAndHoldTimersAct :
    (venting.ventLeft 0 = some 3 ∧ ((venting.elapse 3).pos 0).active = some 1 ∧ (venting.elapse 3).ticketSlot 1 = some 0 ∧
      ((venting.elapse 3).tickets.get 0).isSome = true ∧ ((venting.elapse 3).debouncers.holster.get 0).level = true) ∧
    (({ venting with debouncers := venting.debouncers.put (.holster 0) ⟨false, false, none⟩ } : State).debouncers.holster.get
      0).level = false ∧
    delayed.delayLeft 0 = some 3 ∧
    (let timed (m : ClearMode) : State := { delayed with positionConfig := setAt plant.positionConfig 0 { plant.cfg 0 with clearMode := m } }
     ((timed .timed).cfg 0).clearMode = .timed ∧ ((timed .timedDemand).cfg 0).clearMode = .timedDemand) ∧
    ((delayed.modPos 0 fun q => { q with holdTime := 999 }).holdSecondLeft 0 = some 1 ∧
      delayed.holdTotalLeft 0 = some 1 ∧ (delayed.pos 0).holdTime ≤ (delayed.cfg 0).maxHold * 1000 ∧
      (delayed.elapse 1).ticketSlot 1 = some 0) := by decide +kernel

/-- R106, R117 (2): the seconds of a hold that ends with the resume delay stand in the ticket. -/
theorem test_hold_time_is_written :
    (let s : State := { (delayed.modPos 0 fun q => { q with resumeTimer := some 5000, holdTime := 2500 }) with
        positionConfig := setAt plant.positionConfig 0 { plant.cfg 0 with clearMode := .timed } }
     let t := after (.resumeDelayExpiry 0) s
     ((t.pos 0).state, (t.pos 0).holdTime, (t.activeTicket 0).map Ticket.holdUsed)) = (.fuelling, 7500, some 7) := by
  decide +kernel

/-- Position 0 fuelling at grade G1 with its fallback window running. -/
def warming : State :=
  { fuelling with precool :=
      { cold with chiller := .ready, grades := setAt plant.precool.grades 0 (some .g1)
                  fallback := setAt plant.precool.fallback 0 (some 3) } }

theorem test_witness_FallbackWarmsTheGrade :
    (warming.precool.fallback.get 0 = some 3 ∧ warming.grade 0 = some .g1 ∧ (warming.pos 0).state = .fuelling ∧
      (warming.pos 0).factors = .empty ∧ noGrantDue (warming.elapse 3)) ∧
    ((warming.elapse 3).lookupProfile 0 (some .g2) .noncomm = none ∧ (warming.cfg 0).precool = .holdFill) ∧
    ((({ warming with profiles := setAt plant.profiles 1 (some { profile with grade := .g2, comm := none }) } : State).elapse
      3).lookupProfile 0 (some .g2) .noncomm).isSome = true ∧
    (({ warming with positionConfig := setAt plant.positionConfig 0 { plant.cfg 0 with precool := .endFill } } : State).cfg
      0).precool = .endFill := by
  unfold noGrantDue
  decide +kernel

theorem test_witness_CompressorTimersAct :
    (let starts := compressorAt { ready with state := .starting, timer := some 3 }
     starts.compressorLeft .starting = some 3 ∧ starts.compressor.activeBank = none ∧
       starts.compressor.queue = [] ++ 0 :: [] ∧ ∀ p, (starts.pos p).drawBank ≠ some 0) ∧
    (let starts : State := { fuelling with compressor := { ready with state := .starting, timer := some 3 } }
     starts.compressorLeft .starting = some 3 ∧ ∀ b ∈ starts.compressor.queue, ∃ p, (starts.pos p).drawBank = some b) ∧
    (compressorAt { ready with state := .unloaded, timer := some 3 }).compressorLeft .unloaded = some 3 ∧
    (let locked := compressorAt { ready with state := .lockout, timer := some 3 }
     locked.compressorLeft .lockout = some 3 ∧ locked.roleChannel .discharge = some 21 ∧ (locked.chan 21).taken = false ∧
       ((locked.setChan 21 ⟨.ok, 3631, true, none⟩).chan 21).taken = true ∧ locked.site.dischargeLimit < 3631) ∧
    (compressorAt { ready with credits := 5, returns := [3] }).compressor.returns = 3 :: [] := by decide +kernel

/-! #### What every step keeps -/

/-- A fuelling site with the compressor RUNNING for bank 1. -/
def running : State :=
  { fuelling with
    bankConfig := setAt fuelling.bankConfig 1 { BankConfig.factory with inService := true, rated := 9000 }
    compressor :=
      { ready with
        state := .running, queue := [1], activeBank := some 1, credits := 5, returns := [599000] } }

theorem test_witness_StepKeepsTheCredits : (∃ t, step running = .next t) ∧ creditsKept running := by
  refine ⟨next_of_answersNext _ (by decide +kernel), ?_⟩
  unfold creditsKept
  decide +kernel

theorem test_witness_StepKeepsTheDraws : (∃ t, step running = .next t) ∧ drawsKept running := by
  refine ⟨next_of_answersNext _ (by decide +kernel), ?_⟩
  unfold drawsKept
  decide +kernel

theorem test_witness_StepKeepsTheRefill : (∃ t, step running = .next t) ∧ refillKept running := by
  refine ⟨next_of_answersNext _ (by decide +kernel), ?_⟩
  unfold refillKept
  decide +kernel

/-- Position 0 waits in COOL_WAIT for a slot of a chiller that is not READY. -/
def queued : State :=
  { coolWait with positionConfig := setAt plant.positionConfig 0 { plant.cfg 0 with cooling := true } }

theorem test_witness_StepKeepsTheSlots : (∃ t, step queued = .next t) ∧ slotsKept queued := by
  refine ⟨next_of_answersNext _ (by decide +kernel), ?_⟩
  unfold slotsKept noGrantDue
  decide +kernel

theorem test_ticketsKept_running : ticketsKept running := by
  refine ⟨?_, ?_, ?_, ?_⟩
  · unfold numbersDistinct
    decide +kernel
  · unfold ticketPlaced
    decide +kernel
  · unfold slotsRefer
    decide +kernel
  · unfold holdTimeKept
    decide +kernel

theorem test_witness_StepKeepsTheTickets : (∃ t, step running = .next t) ∧ ticketsKept running :=
  ⟨next_of_answersNext _ (by decide +kernel), test_ticketsKept_running⟩

theorem test_witness_StepKeepsTheLedger : (∃ t, step running = .next t) ∧ ledgerKept running ∧ ticketsKept running := by
  refine ⟨next_of_answersNext _ (by decide +kernel), ?_, test_ticketsKept_running⟩
  unfold ledgerKept numbersDistinct ticketFunded accountBalanced
  decide +kernel

end Sys2Proof.Tests
end

section
/-! PROOFS. CANCEL_TICKET (R14): the tickets and the accounts by their numbers, the request for a ticket with its tests, and
what is left when a ticket has been cancelled. -/

namespace Sys2Proof.Machine

/-! ### Tickets and accounts by number -/

section
variable {s : State} {n : Nat}

theorem ticket_of_slot {i : Fin 32} (hi : s.ticketSlot n = some i) : s.ticket n = s.tickets.get i := by
  simp [State.ticket, hi]

theorem number_of_slot {i : Fin 32} {k : Ticket} (hi : s.ticketSlot n = some i) (hk : s.tickets.get i = some k) :
    k.number = n := by
  obtain ⟨a, ha, hn⟩ := findSlot_some hi
  obtain rfl : k = a := Option.some.inj (hk.symm.trans ha)
  exact beq_iff_eq.1 hn

theorem retireTicket_of_slot {i : Fin 32} (hi : s.ticketSlot n = some i) :
    s.retireTicket n = { s with tickets := setAt s.tickets i none } := by
  simp [State.retireTicket, hi]

theorem modAccount_of_slot {j : Fin 64} (hj : s.accountSlot n = some j) (f : Account → Account) :
    s.modAccount n f = { s with accounts := modAt s.accounts j (Option.map f) } := by
  simp [State.modAccount, hj]

/-- A change of an account touches the account table alone. -/
theorem modAccount_eq (f : Account → Account) :
    s.modAccount n f = { s with accounts := (s.modAccount n f).accounts } := by
  unfold State.modAccount
  split <;> rfl

@[simp] theorem takeFrame_ticketSlot (c : Instr) : (s.takeFrame c).ticketSlot n = s.ticketSlot n := by
  simp [State.ticketSlot]

@[simp] theorem takeFrame_ticket (c : Instr) : (s.takeFrame c).ticket n = s.ticket n := by
  simp [State.ticket]

@[simp] theorem takeFrame_accountSlot (c : Instr) : (s.takeFrame c).accountSlot n = s.accountSlot n := by
  simp [State.accountSlot]

@[simp] theorem takeFrame_permitted (c : Instr) (h : Header) (p : Fin 4) :
    (s.takeFrame c).permitted h p = s.permitted h p := by
  simp [State.permitted]

end

/-! ### Requests that name a ticket -/

section
variable {h : Header} {n : Nat} {s : State} {k : Ticket}

theorem withTicket_none (hn : s.ticket n = none) (f : Ticket → Answer) : withTicket h n s f = refuse s .notFound := by
  simp [withTicket, hn]

theorem withTicket_notPermitted (hn : s.ticket n = some k) (hp : s.permitted h k.position = false) (f : Ticket → Answer) :
    withTicket h n s f = refuse s .notPermitted := by
  simp [withTicket, hn, hp]

theorem withTicket_permitted (hn : s.ticket n = some k) (hp : s.permitted h k.position = true) (f : Ticket → Answer) :
    withTicket h n s f = f k := by
  simp [withTicket, hn, hp]

end

/-! ### The effect of a cancellation -/

section
variable {s : State} {t : Ticket}

theorem cancelHold_unfunded (ht : t.account = none) : s.cancelHold t = s := by
  simp [State.cancelHold, ht]

/-- R14 (1): the account's held total falls by the ticket's hold. -/
theorem cancelHold_funded {m : Nat} {j : Fin 64} {a : Account} (ht : t.account = some m) (hj : s.accountSlot m = some j)
    (ha : s.accounts.get j = some a) :
    s.cancelHold t = { s with accounts := setAt s.accounts j (some { a with held := a.held - t.hold.getD 0 }) } := by
  simp [State.cancelHold, ht, State.releaseHoldOn, modAccount_of_slot hj, modAt, ha]

/-- R14 (1): the release of a hold touches the account table alone. -/
theorem cancelHold_eq : s.cancelHold t = { s with accounts := (s.cancelHold t).accounts } := by
  unfold State.cancelHold
  split
  · exact modAccount_eq _
  · rfl

/-- R14 (1), (2): the hold is released and the table slot is free. -/
theorem retireTicket_cancelHold {i : Fin 32} (hi : s.ticketSlot t.number = some i) :
    (s.cancelHold t).retireTicket t.number =
      { s with accounts := (s.cancelHold t).accounts, tickets := setAt s.tickets i none } := by
  have hi' : (s.cancelHold t).ticketSlot t.number = some i := by
    rw [cancelHold_eq]
    exact hi
  rw [retireTicket_of_slot hi', cancelHold_eq]

end

/-! ### The request -/

section
variable {h : Header} {n : Word16} {s : State} {k : Ticket}

theorem exec_cancelTicket : exec (.cancelTicket h n) s = execCancelTicket h n s := rfl

theorem cancelTicket_notFound (hn : s.ticket n.toNat = none) :
    exec (.cancelTicket h n) s = .next (s.answered (.cancelTicket h n) h 0x22 .notFound []) := by
  rw [exec_cancelTicket]
  exact answer_refuse (withTicket_none ((takeFrame_ticket _).trans hn) _)

theorem cancelTicket_notPermitted (hn : s.ticket n.toNat = some k) (hp : ¬mayActOn s h k.position) :
    exec (.cancelTicket h n) s = .next (s.answered (.cancelTicket h n) h 0x22 .notPermitted []) := by
  rw [exec_cancelTicket]
  have hp' : s.permitted h k.position = false := by simpa [← permitted_iff] using hp
  exact answer_refuse
    (withTicket_notPermitted ((takeFrame_ticket _).trans hn) ((takeFrame_permitted _ _ _).trans hp') _)

/-- R14: for a sender permitted at the ticket's position, the ticket's state decides. -/
theorem cancelTicket_permitted (hn : s.ticket n.toNat = some k) (hp : mayActOn s h k.position) :
    exec (.cancelTicket h n) s =
      answer (.cancelTicket h n) h 0x22 s fun s =>
        require (k.state == .opened || k.state == .authorized) .refusedState s (accept (s.cancelTicket k)) := by
  rw [exec_cancelTicket, execCancelTicket, answer, answer,
    withTicket_permitted ((takeFrame_ticket _).trans hn) ((takeFrame_permitted _ _ _).trans (permitted_iff.2 hp))]

theorem cancelTicket_refusedState (hn : s.ticket n.toNat = some k) (hp : mayActOn s h k.position)
    (hk : k.state = .fuelling ∨ k.state = .ended) :
    exec (.cancelTicket h n) s = .next (s.answered (.cancelTicket h n) h 0x22 .refusedState []) := by
  rw [cancelTicket_permitted hn hp]
  have hfail : (k.state == .opened || k.state == .authorized) = false := by rcases hk with hk | hk <;> rw [hk] <;> rfl
  exact answer_refuse (by rw [hfail, require_false])

theorem cancelTicket_accepted (hn : s.ticket n.toNat = some k) (hp : mayActOn s h k.position)
    (hk : k.state = .opened ∨ k.state = .authorized) :
    exec (.cancelTicket h n) s =
      .next { (s.takeFrame (.cancelTicket h n)).cancelTicket k with reply := some ⟨h.sender, h.tag, 0x22, .ok, []⟩ } := by
  rw [cancelTicket_permitted hn hp]
  have hpass : (k.state == .opened || k.state == .authorized) = true := by rcases hk with hk | hk <;> rw [hk] <;> rfl
  exact answer_accept (by rw [hpass, require_true])

end

/-- Settles O23: the refusals follow the order of the tests; of an accepted cancellation the account table is the one that the
release of the hold leaves, and the ticket's attachment says what becomes of its position. -/
theorem cancelTicketRetiresIt : Obligations.CancelTicketRetiresIt := by
  intro h n s c
  refine ⟨cancelTicket_notFound, fun i k hi hk => ?_⟩
  have hn : s.ticket n.toNat = some k := (ticket_of_slot hi).trans hk
  refine ⟨cancelTicket_notPermitted hn, cancelTicket_refusedState hn, fun hp hst => ?_⟩
  have hslot : (s.takeFrame c).ticketSlot k.number = some i := by simpa [number_of_slot hi hk] using hi
  refine ⟨((s.takeFrame c).cancelHold k).accounts, fun ha => ?_, fun m j a hm hj ha => ?_, ?_⟩
  · simp [cancelHold_unfunded ha]
  · rw [cancelHold_funded hm (by simpa using hj) (by simpa using ha)]
    simp
  · rw [cancelTicket_accepted hn hp hst, State.cancelTicket, retireTicket_cancelHold hslot]
    cases k.attachment with
    | active => simp [c]
    | staged => simp [c, State.modPos, modAt, State.pos]
    | detached => simp [c]

end Sys2Proof.Machine
end

section
/-! PROOFS. CLOSE_ACCOUNT, READ_ACCOUNT and the money that an account has available (R24, R35, R36): numbers read back from a
payload, the fields of the account record, and the requests that name an account. -/

namespace Sys2Proof.Machine

/-! ### Reading a payload back -/

section
variable {p q : List Byte} {i : Nat}

theorem u8_append_left (hi : i < p.length) : u8 (p ++ q) i = u8 p i := List.getD_append _ _ _ _ hi

theorem u8_append_right (hi : p.length ≤ i) : u8 (p ++ q) i = u8 q (i - p.length) := List.getD_append_right _ _ _ _ hi

theorem u32_append_left (hi : i + 4 ≤ p.length) : u32 (p ++ q) i = u32 p i := by
  simp (disch := omega) only [u32, u16, u8_append_left]

theorem u32_append_right (hi : p.length ≤ i) : u32 (p ++ q) i = u32 q (i - p.length) := by
  simp (disch := omega) only [u32, u16, u8_append_right, Nat.add_assoc, Nat.sub_add_comm hi]

theorem tagAt_append_left (hi : i + 8 ≤ p.length) : tagAt (p ++ q) i = tagAt p i := by
  simp (disch := omega) only [tagAt, u8_append_left]

theorem tagAt_append_right (hi : p.length ≤ i) : tagAt (p ++ q) i = tagAt q (i - p.length) := by
  simp (disch := omega) only [tagAt, u8_append_right, Nat.sub_add_comm hi]

end

@[simp] theorem length_bytes32 (x : Word32) : (bytes32 x).length = 4 := by simp [bytes32, bytes16]
@[simp] theorem length_out32 (x : Nat) : (out32 x).length = 4 := length_bytes32 _
@[simp] theorem length_outSigned (x : Int) : (outSigned x).length = 4 := length_bytes32 _

@[simp] theorem length_outTag (t : Option Tag) : (outTag t).length = 8 := by
  cases t with
  | none => rfl
  | some t => exact t.size_toArray

theorem u16_bytes16 (x : Word16) : u16 (bytes16 x) 0 = x := BitVec.extractLsb'_append_extractLsb' (w := 8)

/-- 12.6: the bytes of a number, most significant first, spell the number. -/
@[simp] theorem u32_bytes32 (x : Word32) : u32 (bytes32 x) 0 = x := by
  change u16 (bytes16 (x.extractLsb' 16 16)) 0 ++ u16 (bytes16 (x.extractLsb' 0 16)) 0 = x
  rw [u16_bytes16, u16_bytes16]
  exact BitVec.extractLsb'_append_extractLsb' (w := 16)

@[simp] theorem u32_out32 (x : Nat) : u32 (out32 x) 0 = BitVec.ofNat 32 x := u32_bytes32 _
@[simp] theorem u32_outSigned (x : Int) : u32 (outSigned x) 0 = BitVec.ofInt 32 x := u32_bytes32 _

/-- 12.6: an absent tag reads as eight bytes of 0. -/
@[simp] theorem tagAt_outTag (t : Option Tag) : tagAt (outTag t) 0 = t.getD (Vector.replicate 8 0) := by
  cases t with
  | none => rfl
  | some t =>
    have hread (k : Nat) (hk : k < 8) : u8 (tagBytes t) k = t[k] := by simp [u8, tagBytes, hk]
    change #v[u8 (tagBytes t) 0, u8 (tagBytes t) 1, u8 (tagBytes t) 2, u8 (tagBytes t) 3, u8 (tagBytes t) 4,
      u8 (tagBytes t) 5, u8 (tagBytes t) 6, u8 (tagBytes t) 7] = t
    ext k hk
    interval_cases k <;> simp [hread]

/-! ### The account record (12.6.5) -/

@[simp] theorem length_moneyRecord (m : Money) : m.record.length = 8 := by
  cases m <;> simp [Money.record]

/-- 12.6.5: the four single bytes of a record: the codes of the kind and the status, the classes and the marks of presence. -/
def accountCodes (a : Account) : List Byte :=
  [out8 a.money.code, out8 a.status.code, out8 (classesCode a.permitsH70 a.permitsH35),
    out8 (bitNumber [a.perFillMax.isSome, a.tag.isSome])]

@[simp] theorem length_accountCodes (a : Account) : (accountCodes a).length = 4 := by simp [accountCodes]

theorem accountRecord_eq (a : Account) :
    a.record =
      out32 a.number ++ (accountCodes a ++ (a.money.record ++
        (out32 a.held ++ (out32 (a.perFillMax.getD 0) ++ (outTag a.tag ++ out32 a.available))))) := by
  simp [Account.record, accountCodes]

/-- 12.6.8: the classes permitted, one bit each. -/
theorem classesCode_bits (h70 h35 : Bool) :
    (out8 (classesCode h70 h35)).getLsbD 0 = h70 ∧ (out8 (classesCode h70 h35)).getLsbD 1 = h35 := by
  cases h70 <;> cases h35 <;> decide

/-- 12.6: two marks of presence, one bit each. -/
theorem bitNumber_pair_bits (x y : Bool) :
    (out8 (bitNumber [x, y])).getLsbD 0 = x ∧ (out8 (bitNumber [x, y])).getLsbD 1 = y := by
  cases x <;> cases y <;> decide

section
variable (a : Account)

@[simp] theorem length_accountRecord : a.record.length = 36 := by simp [accountRecord_eq]

theorem accountRecord_number : u32 a.record 0 = BitVec.ofNat 32 a.number := by
  rw [accountRecord_eq, u32_append_left (by simp), u32_out32]

theorem accountRecord_codes :
    u8 a.record 4 = out8 a.money.code ∧ u8 a.record 5 = out8 a.status.code ∧
    u8 a.record 6 = out8 (classesCode a.permitsH70 a.permitsH35) ∧
    u8 a.record 7 = out8 (bitNumber [a.perFillMax.isSome, a.tag.isSome]) :=
  ⟨rfl, rfl, rfl, rfl⟩

theorem accountRecord_prepaid {balance : Int} (hm : a.money = .prepaid balance) :
    u8 a.record 4 = 0 ∧ u32 a.record 8 = BitVec.ofInt 32 balance ∧ u32 a.record 12 = 0 := by
  obtain ⟨hkind, -⟩ := accountRecord_codes a
  refine ⟨by rw [hkind, hm]; rfl, ?_⟩
  simp [accountRecord_eq, hm, Money.record, u32_append_left, u32_append_right]

theorem accountRecord_credit {limit spent : Nat} (hm : a.money = .credit limit spent) :
    u8 a.record 4 = 1 ∧ u32 a.record 8 = BitVec.ofNat 32 limit ∧ u32 a.record 12 = BitVec.ofNat 32 spent := by
  obtain ⟨hkind, -⟩ := accountRecord_codes a
  refine ⟨by rw [hkind, hm]; rfl, ?_⟩
  simp [accountRecord_eq, hm, Money.record, u32_append_left, u32_append_right]

theorem accountRecord_tail :
    u32 a.record 16 = BitVec.ofNat 32 a.held ∧ u32 a.record 20 = BitVec.ofNat 32 (a.perFillMax.getD 0) ∧
    tagAt a.record 24 = a.tag.getD (Vector.replicate 8 0) ∧ u32 a.record 32 = BitVec.ofNat 32 a.available := by
  simp [accountRecord_eq, u32_append_left, u32_append_right, tagAt_append_left, tagAt_append_right]

end

/-! ### The money available (R24) -/

section
variable {a : Account}

theorem available_prepaid {balance : Int} (hm : a.money = .prepaid balance) :
    (a.available : Int) = max 0 (balance - a.held) := by
  simp only [Account.available, hm]
  omega

theorem available_credit {limit spent : Nat} (hm : a.money = .credit limit spent) :
    (a.available : Int) = max 0 ((limit : Int) - spent - a.held) := by
  simp only [Account.available, hm]
  omega

theorem inDebt_iff :
    a.inDebt = true ↔
      (∃ balance, a.money = .prepaid balance ∧ balance < 0) ∨ ∃ limit spent, a.money = .credit limit spent ∧ limit < spent := by
  cases hm : a.money <;> simp [Account.inDebt, hm]

/-- R24: what is owed is not available, whatever is held. -/
theorem available_of_inDebt (hd : a.inDebt = true) : a.available = 0 := by
  rcases inDebt_iff.1 hd with ⟨balance, hm, hneg⟩ | ⟨limit, spent, hm, hover⟩
  · have := available_prepaid hm
    omega
  · have := available_credit hm
    omega

end

/-! ### Accounts by number -/

section
variable {s : State} {n : Nat}

theorem account_of_slot {j : Fin 64} (hj : s.accountSlot n = some j) : s.account n = s.accounts.get j := by
  simp [State.account, hj]

@[simp] theorem takeFrame_account (c : Instr) : (s.takeFrame c).account n = s.account n := by
  simp [State.account]

/-- Taking a frame and writing the account table do not meet. -/
theorem takeFrame_setAccounts (c : Instr) (v : Vector (Option Account) 64) :
    { s with accounts := v }.takeFrame c = { s.takeFrame c with accounts := v } := by
  unfold State.takeFrame
  dsimp only
  split
  · split <;> rfl
  · rfl

theorem retireAccount_of_slot {j : Fin 64} (hj : s.accountSlot n = some j) :
    s.retireAccount n = { s with accounts := setAt s.accounts j none } := by
  simp [State.retireAccount, hj]

theorem withAccount_none (hn : s.account n = none) (f : Account → Answer) : withAccount n s f = refuse s .notFound := by
  simp [withAccount, hn]

theorem withAccount_some {a : Account} (hn : s.account n = some a) (f : Account → Answer) : withAccount n s f = f a := by
  simp [withAccount, hn]

end

section
variable {h : Header} {number : Word32} {s : State} {a : Account}

/-- R179: an accepted request with its effect and a payload. -/
theorem answer_acceptWith_effect {c : Instr} {code : Byte} {t : State} {body : State → Answer} {payload : List Byte}
    (hb : body (s.takeFrame c) = acceptWith t payload) :
    answer c h code s body = .next { t with reply := some ⟨h.sender, h.tag, code, .ok, payload⟩ } := by
  simp [answer, hb, acceptWith]

/-! ### READ_ACCOUNT -/

theorem exec_readAccount : exec (.readAccount h number) s = execReadAccount h number s := rfl

theorem readAccount_notFound (hn : s.account number.toNat = none) :
    exec (.readAccount h number) s = .next (s.answered (.readAccount h number) h 0x33 .notFound []) := by
  rw [exec_readAccount]
  exact answer_refuse (withAccount_none ((takeFrame_account _).trans hn) _)

theorem readAccount_found (hn : s.account number.toNat = some a) :
    exec (.readAccount h number) s = .next (s.answered (.readAccount h number) h 0x33 .ok a.record) := by
  rw [exec_readAccount]
  exact answer_acceptWith (withAccount_some ((takeFrame_account _).trans hn) _)

/-! ### CLOSE_ACCOUNT -/

theorem exec_closeAccount : exec (.closeAccount h number) s = execCloseAccount h number s := rfl

theorem closeAccount_notPermitted (hs : h.sender ≠ 0) :
    exec (.closeAccount h number) s = .next (s.answered (.closeAccount h number) h 0x32 .notPermitted []) := by
  rw [exec_closeAccount]
  exact answer_refuse (stationOnly_terminal hs _ _)

theorem closeAccount_notFound (hs : h.sender = 0) (hn : s.account number.toNat = none) :
    exec (.closeAccount h number) s = .next (s.answered (.closeAccount h number) h 0x32 .notFound []) := by
  rw [exec_closeAccount]
  exact answer_refuse ((stationOnly_station hs _ _).trans (withAccount_none ((takeFrame_account _).trans hn) _))

/-- R35: for the station computer and an account in the table, the held total decides. -/
theorem closeAccount_found (hs : h.sender = 0) (hn : s.account number.toNat = some a) :
    exec (.closeAccount h number) s =
      answer (.closeAccount h number) h 0x32 s fun s =>
        require (a.held == 0) .refusedState s (acceptWith (s.retireAccount number.toNat) a.record) := by
  rw [exec_closeAccount, execCloseAccount, answer, answer, stationOnly_station hs,
    withAccount_some ((takeFrame_account _).trans hn)]

theorem closeAccount_refusedState (hs : h.sender = 0) (hn : s.account number.toNat = some a) (hheld : a.held ≠ 0) :
    exec (.closeAccount h number) s = .next (s.answered (.closeAccount h number) h 0x32 .refusedState []) := by
  rw [closeAccount_found hs hn]
  exact answer_refuse (by rw [beq_false_of_ne hheld, require_false])

theorem closeAccount_accepted {j : Fin 64} (hs : h.sender = 0) (hj : s.accountSlot number.toNat = some j)
    (hn : s.account number.toNat = some a) (hheld : a.held = 0) :
    exec (.closeAccount h number) s =
      .next ({ s with accounts := setAt s.accounts j none }.answered (.closeAccount h number) h 0x32 .ok a.record) := by
  rw [closeAccount_found hs hn, State.answered, takeFrame_setAccounts]
  refine answer_acceptWith_effect ?_
  rw [hheld, beq_self_eq_true, require_true, retireAccount_of_slot ((takeFrame_accountSlot _).trans hj), takeFrame_accounts]

end

/-! ### The obligations -/

/-- Settles O28: the tests in their order; with nothing held, the entry found by the number becomes free. -/
theorem closeAccountRetires : Obligations.CloseAccountRetires := by
  intro h number s c
  refine ⟨closeAccount_notPermitted, closeAccount_notFound, fun j a hs hj ha => ?_⟩
  have hn : s.account number.toNat = some a := (account_of_slot hj).trans ha
  exact ⟨closeAccount_refusedState hs hn, closeAccount_accepted hs hj hn⟩

/-- Settles O30: the request shows the record of the account found, whose fields read back one by one. -/
theorem readAccountShowsTheRecord : Obligations.ReadAccountShowsTheRecord := by
  refine ⟨fun h number s => ⟨readAccount_notFound, fun a => readAccount_found⟩, fun a => ?_⟩
  obtain ⟨_, hstatus, hclasses, hpresent⟩ := accountRecord_codes a
  obtain ⟨h70, h35⟩ := classesCode_bits a.permitsH70 a.permitsH35
  obtain ⟨hmax, htag⟩ := bitNumber_pair_bits a.perFillMax.isSome a.tag.isSome
  rw [hclasses, hpresent]
  refine ⟨length_accountRecord a, accountRecord_number a, hstatus, h70, h35, hmax, htag, ?_, accountRecord_tail a⟩
  cases hm : a.money with
  | prepaid balance => exact accountRecord_prepaid a hm
  | credit limit spent => exact accountRecord_credit a hm

/-- Settles O29: the two kinds by their sums, and debt leaves nothing available. -/
theorem availableMoneyByKind : Obligations.AvailableMoneyByKind := fun _ =>
  ⟨fun _ => available_prepaid, fun _ _ => available_credit, inDebt_iff, available_of_inDebt⟩

end Sys2Proof.Machine
end

section
/-! PROOFS. A step, the site clock, the billing formula, and the relations at reset. -/

namespace Sys2Proof.Machine

/-- Settles O1: the queue's front decides what a step runs. -/
theorem stepRunsFrontCommand : Obligations.StepRunsFrontCommand := fun c rest s h => by rw [step, h]

/-! ### The site clock -/

theorem exec_setClock (h : Header) (value : Word32) (s : State) : exec (.setClock h value) s = execSetClock h value s := rfl

/-- Taking a frame and setting the clock do not meet. -/
theorem takeFrame_setClock (s : State) (c : Instr) (v : Word32) :
    { s with clock := v }.takeFrame c = { s.takeFrame c with clock := v } := by
  unfold State.takeFrame
  dsimp only
  split
  · split <;> rfl
  · rfl

theorem setClock_station {h : Header} (value : Word32) (s : State) (hs : h.sender = 0) :
    exec (.setClock h value) s =
      .next ({ s with clock := value }.answered (.setClock h value) h 0x19 .ok (bytes32 s.clock)) := by
  rw [exec_setClock, State.answered, takeFrame_setClock]
  refine answer_acceptWith_effect ?_
  rw [stationOnly_station hs, takeFrame_clock]

/-- R185: the ms that the clock and its phase count together, modulo 2^32 seconds. -/
theorem elapse_clockTime (s : State) (d : Nat) :
    1000 * (s.elapse d).clock.toNat + (s.elapse d).clockPhase.val =
      (1000 * s.clock.toNat + s.clockPhase.val + d) % 4294967296000 := by
  rw [elapse_clock, elapse_clockPhase, BitVec.toNat_add, BitVec.toNat_ofNat]
  have := s.clock.isLt
  omega

/-- Settles O14: a tick passes the rest of the running second, which completes it. -/
theorem clockIsSetAndTicks : Obligations.ClockIsSetAndTicks := by
  refine ⟨fun h value s hs => setClock_station value s hs, elapse_clockTime, fun s => ⟨rfl, ?_⟩⟩
  have htime := elapse_clockTime s (1000 - s.clockPhase.val)
  have hphase : (s.elapse (1000 - s.clockPhase.val)).clockPhase.val < 1000 := Fin.isLt _
  have hnow := s.clockPhase.isLt
  have hclock := s.clock.isLt
  split <;> omega

/-! ### The billing formula -/

/-- Settles O53: the quotient of the rounded product lies between its bounds, and the cap is met where the product is. -/
theorem billingRoundsHalfUp : Obligations.BillingRoundsHalfUp := by
  rintro k g price rfl hp
  have hb : k.billed = min 4294967295 ((k.grams * price + 50000) / 100000) := by
    rw [Ticket.billed, hp]
    rfl
  rw [hb]
  generalize k.grams * price = x
  omega

/-! ### The relations at reset -/

theorem creditsKept_reset : creditsKept State.reset := ⟨by decide, by simp [State.reset, Compressor.atRestart], by simp [State.reset, Compressor.atRestart]⟩

theorem reset_tickets (i : Fin 32) : State.reset.tickets.get i = none := get_replicate none i

theorem reset_accounts (i : Fin 64) : State.reset.accounts.get i = none := get_replicate none i

theorem reset_pos (p : Fin 4) : State.reset.pos p = .atRestart false false := get_replicate _ p

theorem drawsKept_reset : drawsKept State.reset := by
  refine ⟨by decide, fun p => ?_⟩
  rw [reset_pos]
  exact ⟨by simp [Position.atRestart], by simp [Position.atRestart], fun _ => rfl⟩

theorem refillKept_reset : refillKept State.reset := by
  refine ⟨List.nodup_nil, by simp [State.reset, Compressor.atRestart], List.Pairwise.nil, by simp [State.reset, Compressor.atRestart],
    by simp [State.reset, Compressor.atRestart], fun _ => rfl, by simp [State.reset, Compressor.atRestart, CompressorState.motorOn], rfl⟩

theorem slotsKept_reset : slotsKept State.reset := by
  refine ⟨by decide, List.nodup_nil, by simp [State.reset, Precool.atRestart], fun p hp => ?_, fun _ => ⟨rfl, rfl⟩, .inr rfl⟩
  have : State.reset.precool.holders.has p = false := PosSet.has_empty p
  simp [this] at hp

theorem ticketsKept_reset : ticketsKept State.reset := by
  refine ⟨fun i j _ k hk => ?_, fun i k hk => ?_, fun p => ?_, fun p hb => ?_, fun i k hk => ?_⟩
  · simp [reset_tickets] at hk
  · simp [reset_tickets] at hk
  · simp [slotsRefer, reset_pos, Position.atRestart, PosState.busy, PosState.filling]
  · simp [reset_pos, Position.atRestart, PosState.busy, PosState.filling] at hb
  · simp [reset_tickets] at hk

theorem ledgerKept_reset : ledgerKept State.reset := by
  refine ⟨by decide, fun i j _ a ha => ?_, ticketsKept_reset.1, fun i k hk => ?_, fun i a ha => ?_⟩
  · simp [reset_accounts] at ha
  · simp [reset_tickets] at hk
  · simp [reset_accounts] at ha

/-- Settles O60: at reset the tables are empty, every position is closed, and nothing runs. -/
theorem resetHasTheKeptRelations : Obligations.ResetHasTheKeptRelations :=
  ⟨creditsKept_reset, drawsKept_reset, refillKept_reset, slotsKept_reset, ticketsKept_reset, ledgerKept_reset⟩

end Sys2Proof.Machine
end

section
/-! PROOFS. What keeps the start credits (R147) and the refill queue, the ACTIVE bank and the motor (R137 to R151): each
operation of the compressor, of the draw sets and of a fill. -/

namespace Sys2Proof.Machine

/-! ### The parts of the relation on the refill -/

/-- R139: the refill queue, with the ESD cause as the latch has it. -/
def queueKept (s : State) : Prop :=
  s.compressor.queue.Nodup ∧
  (∀ b ∈ s.compressor.queue, (s.bankCfg b).inService = true ∧ (s.bank b).isolated = false) ∧
  s.compressor.queue.Pairwise (fun a b => (s.bankCfg b).rated ≤ (s.bankCfg a).rated) ∧
  (s.commissioned = false → s.compressor.queue = []) ∧
  s.compressor.esdCause = s.esdLatch

/-- R141: the ACTIVE bank stands exactly in RUNNING; it is queued, and no position draws on it. -/
def activeKept (s : State) : Prop :=
  (s.compressor.state = .running ↔ s.compressor.activeBank.isSome = true) ∧
  ∀ b ∈ s.compressor.activeBank, b ∈ s.compressor.queue ∧ ∀ p, (s.pos p).drawBank ≠ some b

/-- R148, R151: what lets the motor run. -/
def motorAllowed (s : State) : Prop := s.compressor.supply = .clear ∧ s.compressor.esdCause = false

theorem refillKept_iff (s : State) :
    refillKept s ↔ queueKept s ∧ activeKept s ∧ (s.compressor.state.motorOn = true → motorAllowed s) := by
  unfold refillKept queueKept activeKept motorAllowed
  tauto

/-- The queue relation reads the queue, the ESD cause and latch, the banks and whether the site is commissioned. -/
theorem queueKept.frame {s t : State} (h : queueKept s) (hq : t.compressor.queue = s.compressor.queue)
    (he : t.compressor.esdCause = s.compressor.esdCause) (hl : t.esdLatch = s.esdLatch)
    (hc : t.bankConfig = s.bankConfig) (hm : t.commissioned = s.commissioned)
    (hi : ∀ b, (t.bank b).isolated = (s.bank b).isolated) : queueKept t := by
  unfold queueKept at *
  simpa only [hq, he, hl, hm, hi, State.bankCfg, hc] using h

/-- The relation on the ACTIVE bank is kept where positions at most leave draw sets. -/
theorem activeKept.frame {s t : State} (h : activeKept s) (hs : t.compressor.state = s.compressor.state)
    (ha : t.compressor.activeBank = s.compressor.activeBank) (hq : t.compressor.queue = s.compressor.queue)
    (hd : ∀ p, (t.pos p).drawBank = (s.pos p).drawBank ∨ (t.pos p).drawBank = none) : activeKept t := by
  unfold activeKept at *
  rw [hs, ha, hq]
  refine ⟨h.1, fun b hb => ⟨(h.2 b hb).1, fun p => ?_⟩⟩
  rcases hd p with hp | hp <;> rw [hp]
  · exact (h.2 b hb).2 p
  · simp

/-- Without an ACTIVE bank and outside RUNNING there is nothing to keep. -/
theorem activeKept.of_none {s : State} (hs : s.compressor.state ≠ .running) (ha : s.compressor.activeBank = none) :
    activeKept s := by
  simp [activeKept, hs, ha]

/-! ### From one state to the next -/

/-- What keeps the credits keeps, and what keeps the refill keeps. -/
def PlantKeeps (s t : State) : Prop := (creditsKept s → creditsKept t) ∧ (refillKept s → refillKept t)

namespace PlantKeeps

theorem refl (s : State) : PlantKeeps s s := ⟨id, id⟩

theorem trans {s t u : State} (h : PlantKeeps s t) (k : PlantKeeps t u) : PlantKeeps s u :=
  ⟨k.1 ∘ h.1, k.2 ∘ h.2⟩

/-- A fold of operations that each keep both relations keeps them. -/
theorem foldl {α : Type} (f : State → α → State) (h : ∀ s a, PlantKeeps s (f s a)) (l : List α) (s : State) :
    PlantKeeps s (l.foldl f s) := by
  induction l generalizing s with
  | nil => exact refl s
  | cons a l ih => exact (h s a).trans (ih _)

end PlantKeeps

/-- Outside the compressor the relations read the draw sets, the isolation of the banks, and what no event of a fill changes. -/
theorem plantKeeps_of_frame {s t : State} (hk : t.compressor = s.compressor)
    (hd : ∀ p, (t.pos p).drawBank = (s.pos p).drawBank ∨ (t.pos p).drawBank = none)
    (hi : ∀ b, (t.bank b).isolated = (s.bank b).isolated) (hc : t.bankConfig = s.bankConfig)
    (hm : t.commissioned = s.commissioned) (hl : t.esdLatch = s.esdLatch) : PlantKeeps s t := by
  refine ⟨fun h => ?_, fun h => ?_⟩
  · unfold creditsKept at *
    rwa [hk]
  · rw [refillKept_iff] at *
    obtain ⟨hq, ha, hr⟩ := h
    refine ⟨hq.frame (by rw [hk]) (by rw [hk]) hl hc hm hi, ha.frame (by rw [hk]) (by rw [hk]) (by rw [hk]) hd, ?_⟩
    unfold motorAllowed at *
    rwa [hk]

theorem commissioned_of_base {s t : State} (h : t.base = s.base) : t.commissioned = s.commissioned := by
  have := congrArg State.commissioned h
  exact this
theorem bankConfig_of_base {s t : State} (h : t.base = s.base) : t.bankConfig = s.bankConfig := by
  have := congrArg State.bankConfig h
  exact this
theorem esdLatch_of_base {s t : State} (h : t.base = s.base) : t.esdLatch = s.esdLatch := by
  have := congrArg State.esdLatch h
  exact this
theorem site_of_base {s t : State} (h : t.base = s.base) : t.site = s.site := by
  have := congrArg State.site h
  exact this
theorem positionConfig_of_base {s t : State} (h : t.base = s.base) : t.positionConfig = s.positionConfig := by
  have := congrArg State.positionConfig h
  exact this
theorem accounts_of_base {s t : State} (h : t.base = s.base) : t.accounts = s.accounts := by
  have := congrArg State.accounts h
  exact this
theorem cfg_of_base {s t : State} (h : t.base = s.base) (p : Fin 4) : t.cfg p = s.cfg p := by
  simp [State.cfg, positionConfig_of_base h]

/-- An event that keeps State.base, the compressor and the banks, and lets positions at most leave draw sets. -/
theorem plantKeeps_of_base {s t : State} (h : t.base = s.base) (hk : t.compressor = s.compressor)
    (hd : ∀ p, (t.pos p).drawBank = (s.pos p).drawBank ∨ (t.pos p).drawBank = none) (hb : t.banks = s.banks) :
    PlantKeeps s t :=
  plantKeeps_of_frame hk hd (fun b => by simp [State.bank, hb]) (bankConfig_of_base h) (commissioned_of_base h)
    (esdLatch_of_base h)

section
variable (s : State)

theorem modPos_plant (p : Fin 4) (f : Position → Position)
    (hf : ∀ q, (f q).drawBank = q.drawBank ∨ (f q).drawBank = none) : PlantKeeps s (s.modPos p f) := by
  refine plantKeeps_of_base (modPos_base s p f) rfl (fun r => ?_) rfl
  rw [modPos_pos]
  split
  · next h => subst h; exact hf _
  · exact .inl rfl

theorem modPcl_plant (f : Precool → Precool) : PlantKeeps s (s.modPcl f) :=
  plantKeeps_of_base rfl rfl (fun _ => .inl rfl) rfl

theorem raise_plant (e : EventFlag) : PlantKeeps s (s.raise e) := plantKeeps_of_base rfl rfl (fun _ => .inl rfl) rfl

theorem setWaiting_plant (p : Fin 4) (b : Bool) : PlantKeeps s (s.setWaiting p b) :=
  plantKeeps_of_base rfl rfl (fun _ => .inl rfl) rfl

theorem modActive_plant (p : Fin 4) (f : Ticket → Ticket) : PlantKeeps s (s.modActive p f) :=
  plantKeeps_of_base (modActive_base s p f) (by simp) (fun _ => .inl (by simp)) (by simp)

/-- A bank's readings change; its isolation stands. -/
theorem modBank_plant (b : Fin 6) (f : Bank → Bank) (hf : ∀ x, (f x).isolated = x.isolated) :
    PlantKeeps s (s.modBank b f) := by
  refine plantKeeps_of_frame rfl (fun _ => .inl rfl) (fun a => ?_) rfl rfl rfl
  rw [modBank_bank]
  split
  · next h => subst h; exact hf _
  · rfl

end

/-! ### The choice of a bank -/

section
variable {s : State}

/-- R141: what the choice takes is QUEUED, drawn on by no position, and not the bank that is left out. -/
theorem choosable_some {leave : Option (Fin 6)} {b : Fin 6} (h : s.choosable leave = some b) :
    b ∈ s.compressor.queue ∧ s.compressor.activeBank ≠ some b ∧ (∀ p, (s.pos p).drawBank ≠ some b) ∧ leave ≠ some b := by
  have hm : b ∈ s.compressor.queue := List.mem_of_find?_eq_some h
  have ht := List.find?_some h
  simp only [Bool.and_eq_true, beq_iff_eq, bne_iff_ne, State.drawEmpty, allPositions, State.inDrawSet, List.all_cons,
    List.all_nil, Bool.not_eq_true', beq_eq_false_iff_ne] at ht
  obtain ⟨⟨hq, h0, h1, h2, h3, -⟩, hl⟩ := ht
  refine ⟨hm, fun ha => ?_, fun p => ?_, hl⟩
  · simp [State.refillStatus, ha] at hq
  · match p with
    | 0 => exact h0
    | 1 => exact h1
    | 2 => exact h2
    | 3 => exact h3

/-- R141: a chosen bank becomes ACTIVE where the motor may run. -/
theorem refillBank_refill {leave : Option (Fin 6)} {b : Fin 6} (hq : queueKept s) (hm : motorAllowed s)
    (h : s.choosable leave = some b) : refillKept (s.refillBank b) := by
  obtain ⟨hb, -, hd, -⟩ := choosable_some h
  refine (refillKept_iff _).2 ⟨hq.frame rfl rfl rfl rfl rfl fun _ => rfl, ?_, fun _ => hm⟩
  unfold activeKept State.refillBank
  simpa using ⟨hb, hd⟩

/-- R143 to R145: where the motor may run, the choice of the next bank ends in RUNNING or UNLOADED as it should. -/
theorem chooseNext_refill (leave : Option (Fin 6)) (hq : queueKept s) (hm : motorAllowed s) :
    refillKept (s.chooseNext leave) := by
  unfold State.chooseNext
  split
  · next b h => exact refillBank_refill hq hm h
  · exact (refillKept_iff _).2
      ⟨hq.frame rfl rfl rfl rfl rfl fun _ => rfl, .of_none (by simp) (by simp), fun _ => hm⟩

theorem chooseNext_credits (leave : Option (Fin 6)) (h : creditsKept s) : creditsKept (s.chooseNext leave) := by
  unfold State.chooseNext
  split <;> exact h

/-- R141: an ACTIVE bank stands in RUNNING, where the motor may run. -/
theorem motorAllowed_of_active (h : refillKept s) {b : Fin 6} (hb : s.compressor.activeBank = some b) :
    motorAllowed s := by
  obtain ⟨-, ha, hm⟩ := (refillKept_iff s).1 h
  have hs : s.compressor.state = .running := ha.1.2 (by simp [hb])
  exact hm (by rw [hs]; rfl)

/-- Outside RUNNING there is no ACTIVE bank. -/
theorem activeBank_none (h : refillKept s) (hs : s.compressor.state ≠ .running) : s.compressor.activeBank = none := by
  obtain ⟨-, ha, -⟩ := (refillKept_iff s).1 h
  simpa using mt ha.1.2 hs

/-- A compressor that ends a stop or a start outside RUNNING keeps the relation, where its motor may run or stands. -/
theorem modCmp_refill {f : Compressor → Compressor} (h : refillKept s) (hq : (f s.compressor).queue = s.compressor.queue)
    (he : (f s.compressor).esdCause = s.compressor.esdCause) (hs : (f s.compressor).state ≠ .running)
    (ha : (f s.compressor).activeBank = none) (hm : (f s.compressor).state.motorOn = true → motorAllowed (s.modCmp f)) :
    refillKept (s.modCmp f) :=
  (refillKept_iff _).2 ⟨((refillKept_iff s).1 h).1.frame hq he rfl rfl rfl fun _ => rfl, .of_none hs ha, hm⟩

end

section
variable (s : State)

/-- The wait for a credit alone changes. -/
theorem creditWait_plant (f : Compressor → Compressor) (hf : ∀ c, ∃ w, f c = { c with creditWait := w }) :
    PlantKeeps s (s.modCmp f) := by
  obtain ⟨w, hw⟩ := hf s.compressor
  refine ⟨fun h => ?_, fun h => ?_⟩
  · simpa [creditsKept, hw] using h
  · simpa [refillKept, hw] using h

/-- R142, R147: a start spends a credit, which returns after 600 s. -/
theorem startMotor_plant (hr : s.startReady = true) (hs : s.compressor.state = .stopped) (hc : 0 < s.compressor.credits) :
    PlantKeeps s s.startMotor := by
  refine ⟨fun ⟨hsum, hord, hle⟩ => ?_, fun h => ?_⟩
  · refine ⟨?_, ?_, ?_⟩
    · simp [State.startMotor]; omega
    · simp only [State.startMotor, modCmp_compressor, List.pairwise_append, List.pairwise_singleton, true_and,
        List.mem_singleton, forall_eq, Config.creditReturnTime]
      exact ⟨hord, hle⟩
    · intro x hx
      simp only [State.startMotor, modCmp_compressor, List.mem_append, List.mem_singleton] at hx
      rcases hx with hx | rfl
      · exact hle x hx
      · simp [Config.creditReturnTime]
  · unfold State.startReady at hr
    simp only [Bool.and_eq_true, beq_iff_eq, Bool.not_eq_true'] at hr
    exact modCmp_refill h rfl rfl (by simp) (activeBank_none h (by simp [hs])) fun _ => ⟨hr.1.2, hr.2⟩

theorem waitForCredit_plant : PlantKeeps s s.waitForCredit := by
  unfold State.waitForCredit
  split
  · exact .refl s
  · exact (creditWait_plant s _ fun _ => ⟨_, rfl⟩).trans (raise_plant _ _)

theorem compressorStartTest_plant : PlantKeeps s s.compressorStartTest := by
  unfold State.compressorStartTest
  split
  · next hs =>
    split
    · next hr =>
      split
      · next hc => exact startMotor_plant s hr hs hc
      · exact waitForCredit_plant s
    · exact creditWait_plant s _ fun _ => ⟨_, rfl⟩
  · exact .refl s

theorem chooseUnloaded_plant (hs : s.compressor.state = .unloaded) : PlantKeeps s s.chooseUnloaded := by
  unfold State.chooseUnloaded
  split
  · next b hb =>
    refine ⟨id, fun h => ?_⟩
    obtain ⟨hq, -, hm⟩ := (refillKept_iff s).1 h
    exact refillBank_refill hq (hm (by rw [hs]; rfl)) hb
  · exact .refl s

theorem bankMayBeChosen_plant : PlantKeeps s s.bankMayBeChosen := by
  unfold State.bankMayBeChosen
  split
  · exact compressorStartTest_plant s
  · next hs => exact chooseUnloaded_plant s hs
  all_goals exact .refl s

/-! ### The refill queue -/

theorem mem_insertQueue (rated : Fin 6 → Nat) (b x : Fin 6) (l : List (Fin 6)) :
    x ∈ insertQueue rated b l ↔ x = b ∨ x ∈ l := by
  induction l with
  | nil => simp [insertQueue]
  | cons y l ih =>
    unfold insertQueue
    split
    · simp
    · simp only [List.mem_cons, ih]; tauto

theorem nodup_insertQueue (rated : Fin 6 → Nat) (b : Fin 6) (l : List (Fin 6)) (h : l.Nodup) (hb : b ∉ l) :
    (insertQueue rated b l).Nodup := by
  induction l with
  | nil => simp [insertQueue]
  | cons y l ih =>
    obtain ⟨hy, hl⟩ := List.nodup_cons.1 h
    simp only [List.mem_cons, not_or] at hb
    unfold insertQueue
    split
    · simpa [not_or] using ⟨hb, hy, hl⟩
    · refine List.nodup_cons.2 ⟨?_, ih hl hb.2⟩
      rw [mem_insertQueue]
      exact fun h' => h'.elim (fun e => hb.1 e.symm) hy

/-- R139 (1): a bank put into its place leaves the queue in descending order of rated pressure. -/
theorem pairwise_insertQueue (rated : Fin 6 → Nat) (b : Fin 6) (l : List (Fin 6))
    (h : l.Pairwise fun x y => rated y ≤ rated x) : (insertQueue rated b l).Pairwise fun x y => rated y ≤ rated x := by
  induction l with
  | nil => simp [insertQueue]
  | cons y l ih =>
    obtain ⟨hy, hl⟩ := List.pairwise_cons.1 h
    unfold insertQueue
    split
    · next hlt =>
      refine List.pairwise_cons.2 ⟨fun x hx => ?_, h⟩
      rcases List.mem_cons.1 hx with rfl | hx
      · omega
      · have := hy x hx; omega
    · refine List.pairwise_cons.2 ⟨fun x hx => ?_, ih hl⟩
      rcases (mem_insertQueue rated b x l).1 hx with rfl | hx
      · omega
      · exact hy x hx

/-- R134, R139: the conditions of the queue entry. -/
theorem wantsRefill_iff (b : Fin 6) :
    s.wantsRefill b = true ↔
      s.commissioned = true ∧ (s.bankCfg b).inService = true ∧ (s.bank b).isolated = false ∧
      s.bankPressureKnown b = true ∧ (s.bank b).p < (s.bankCfg b).refillStart ∧ s.compressor.activeBank ≠ some b ∧
      b ∉ s.compressor.queue := by
  have hstatus : s.refillStatus b = .none ↔ s.compressor.activeBank ≠ some b ∧ b ∉ s.compressor.queue := by
    unfold State.refillStatus
    split
    · next h => simp [h]
    · next h =>
      split
      · next h' => simp [h']
      · next h' => simp [h, h']
  simp only [State.wantsRefill, Bool.and_eq_true, Bool.not_eq_true', decide_eq_true_eq, beq_iff_eq, hstatus]
  tauto

theorem enqueueBank_plant (b : Fin 6) (h : s.wantsRefill b = true) : PlantKeeps s (s.enqueueBank b) := by
  refine ⟨id, fun hk => ?_⟩
  obtain ⟨hcom, hsrv, hiso, -, -, -, hmem⟩ := (wantsRefill_iff s b).1 h
  obtain ⟨⟨hnd, hall, hord, -, hesd⟩, ⟨hrun, hact⟩, hm⟩ := (refillKept_iff s).1 hk
  refine (refillKept_iff _).2 ⟨⟨nodup_insertQueue _ _ _ hnd hmem, fun x hx => ?_, pairwise_insertQueue _ _ _ hord,
    fun hc => ?_, hesd⟩, ⟨hrun, fun a ha => ⟨?_, (hact a ha).2⟩⟩, hm⟩
  · rcases (mem_insertQueue _ _ _ _).1 hx with rfl | hx
    · exact ⟨hsrv, hiso⟩
    · exact hall x hx
  · have : s.commissioned = false := hc
    simp [hcom] at this
  · exact (mem_insertQueue _ _ _ _).2 (.inr (hact a ha).1)

theorem addBank_plant (b : Fin 6) (h : s.wantsRefill b = true) : PlantKeeps s (s.addBank b) :=
  (enqueueBank_plant s b h).trans (bankMayBeChosen_plant _)

theorem queueEntryTest_plant (b : Fin 6) : PlantKeeps s (s.queueEntryTest b) := by
  unfold State.queueEntryTest
  split
  · next h => exact addBank_plant s b h
  · exact .refl s

theorem queueEntryAtCommission_plant (b : Fin 6) : PlantKeeps s (s.queueEntryAtCommission b) := by
  unfold State.queueEntryAtCommission
  split
  · next h => exact enqueueBank_plant s b h
  · exact .refl s

/-- R139, R140: the queue without one of its banks. -/
theorem queueKept_erase {t : State} (b : Fin 6) (h : queueKept s) (hq : t.compressor.queue = s.compressor.queue.erase b)
    (he : t.compressor.esdCause = s.compressor.esdCause) (hl : t.esdLatch = s.esdLatch)
    (hc : t.bankConfig = s.bankConfig) (hm : t.commissioned = s.commissioned)
    (hi : ∀ x, x ≠ b → (t.bank x).isolated = (s.bank x).isolated) : queueKept t := by
  obtain ⟨hnd, hall, hord, hcom, hesd⟩ := h
  have hcfg (x : Fin 6) : t.bankCfg x = s.bankCfg x := by simp [State.bankCfg, hc]
  refine ⟨hq ▸ hnd.erase b, fun x hx => ?_, ?_, fun h => ?_, by rw [he, hl, hesd]⟩
  · rw [hq] at hx
    obtain ⟨hne, hx⟩ := (List.Nodup.mem_erase_iff hnd).1 hx
    rw [hcfg, hi x hne]
    exact hall x hx
  · rw [hq]
    simp only [hcfg]
    exact hord.sublist List.erase_sublist
  · rw [hq, hcom (hm ▸ h)]
    rfl

/-- R140: a bank leaves the queue, also one whose isolation has just been written. -/
theorem removeBank_refill {r : State} (b : Fin 6) (h : refillKept r) (hk : s.compressor = r.compressor)
    (hp : s.positions = r.positions) (hl : s.esdLatch = r.esdLatch) (hc : s.bankConfig = r.bankConfig)
    (hm : s.commissioned = r.commissioned) (hi : ∀ x, x ≠ b → (s.bank x).isolated = (r.bank x).isolated) :
    refillKept (s.removeBank b) := by
  obtain ⟨hq, ⟨hrun, hact⟩, hmot⟩ := (refillKept_iff r).1 h
  unfold State.removeBank
  dsimp only
  split
  · next ha =>
    rw [hk] at ha
    refine chooseNext_refill none (queueKept_erase r b hq ?_ ?_ hl hc hm hi) ?_
    · simp [hk]
    · simp [hk]
    · have := motorAllowed_of_active h ha
      simpa [motorAllowed, hk] using this
  · next ha =>
    rw [hk] at ha
    refine (refillKept_iff _).2 ⟨queueKept_erase r b hq ?_ ?_ hl hc hm hi, ?_, ?_⟩
    · simp [hk]
    · simp [hk]
    · refine ⟨by simpa [hk] using hrun, fun a h' => ?_⟩
      have h' : a ∈ r.compressor.activeBank := by simpa [hk] using h'
      obtain ⟨hmem, hdraw⟩ := hact a h'
      refine ⟨?_, fun p => by simpa [State.pos, hp] using hdraw p⟩
      have hne : a ≠ b := fun e => ha (e ▸ h')
      simpa [hk] using (List.mem_erase_of_ne hne).2 hmem
    · simpa [motorAllowed, hk] using hmot

theorem removeBank_credits (b : Fin 6) (h : creditsKept s) : creditsKept (s.removeBank b) := by
  unfold State.removeBank
  dsimp only
  split
  · exact chooseNext_credits none h
  · exact h

theorem removeBank_plant (b : Fin 6) : PlantKeeps s (s.removeBank b) :=
  ⟨removeBank_credits s b, fun h => removeBank_refill s b h rfl rfl rfl rfl rfl fun _ _ => rfl⟩

theorem refillProgress_plant (b : Fin 6) (p : Nat) : PlantKeeps s (s.refillProgress b p) := by
  unfold State.refillProgress
  split
  · exact removeBank_plant s b
  · exact .refl s

theorem suspendForDraw_plant (b : Fin 6) : PlantKeeps s (s.suspendForDraw b) := by
  unfold State.suspendForDraw
  split
  · next ha =>
    refine ⟨fun h => chooseNext_credits _ h, fun h => chooseNext_refill _ ?_ (show motorAllowed s from motorAllowed_of_active h ha)⟩
    exact ((refillKept_iff s).1 h).1.frame rfl rfl rfl rfl rfl fun _ => rfl
  · exact .refl s

/-- R145: a bank that is being drawn is not ACTIVE. -/
theorem suspendForDraw_notActive (b : Fin 6) : (s.suspendForDraw b).compressor.activeBank ≠ some b := by
  unfold State.suspendForDraw
  split
  · unfold State.chooseNext
    split
    · next x hx =>
      have := (choosable_some hx).2.2.2
      simpa [State.refillBank, eq_comm] using this
    · simp
  · next h => exact h

theorem joinBank_plant (p : Fin 4) (b : Fin 6) : PlantKeeps s (s.joinBank p b) := by
  refine (suspendForDraw_plant s b).trans ⟨id, fun h => ?_⟩
  obtain ⟨hq, ⟨hrun, hact⟩, hm⟩ := (refillKept_iff _).1 h
  refine (refillKept_iff _).2 ⟨hq.frame rfl rfl rfl rfl rfl fun _ => rfl, ⟨hrun, fun a ha => ⟨(hact a ha).1, fun q => ?_⟩⟩, hm⟩
  rw [State.joinBank, modPos_pos]
  split
  · intro e
    obtain rfl : b = a := by simpa using e
    exact suspendForDraw_notActive s b ha
  · exact (hact a ha).2 q

theorem reportEmptyDraw_plant (b : Fin 6) : PlantKeeps s (s.reportEmptyDraw b) := by
  unfold State.reportEmptyDraw
  split
  · exact bankMayBeChosen_plant s
  · exact .refl s

theorem reportLeft_plant (b : Option (Fin 6)) : PlantKeeps s (s.reportLeft b) := by
  unfold State.reportLeft
  repeat' split
  · exact reportEmptyDraw_plant s _
  all_goals exact .refl s

theorem leaveBank_plant (p : Fin 4) : PlantKeeps s (s.leaveBank p) := modPos_plant s p _ fun _ => .inr rfl

theorem releaseDraw_plant (p : Fin 4) : PlantKeeps s (s.releaseDraw p) :=
  (leaveBank_plant s p).trans (reportLeft_plant _ _)

/-! ### Stops, the supply, the lockout and the ESD cause -/

/-- R149, R151: a stop restores what a cause has taken away from the motor. -/
theorem stopMotor_refill (hq : queueKept s) (ha : activeKept s) : refillKept s.stopMotor := by
  unfold State.stopMotor
  split
  · exact (refillKept_iff _).2
      ⟨hq.frame rfl rfl rfl rfl rfl fun _ => rfl, .of_none (by simp) (by simp), by simp [CompressorState.motorOn]⟩
  · next h => exact (refillKept_iff _).2 ⟨hq, ha, fun h' => absurd h' h⟩

theorem stopMotor_credits (h : creditsKept s) : creditsKept s.stopMotor := by
  unfold State.stopMotor
  split <;> exact h

theorem suspendMotor_plant : PlantKeeps s s.suspendMotor :=
  ⟨id, fun h => modCmp_refill h rfl rfl (by simp) rfl (by simp [CompressorState.motorOn])⟩

theorem enterStopped_plant (hs : s.compressor.state ≠ .running) : PlantKeeps s s.enterStopped := by
  unfold State.enterStopped
  refine PlantKeeps.trans ?_ (compressorStartTest_plant _)
  refine ⟨id, fun h => ?_⟩
  exact modCmp_refill h rfl rfl (by simp) (activeBank_none h hs) (by simp [CompressorState.motorOn])

theorem unloadedEnded_plant (hs : s.compressor.state ≠ .running) : PlantKeeps s s.unloadedEnded :=
  ⟨id, fun h => modCmp_refill h rfl rfl (by simp) (activeBank_none h hs) (by simp [CompressorState.motorOn])⟩

theorem enterLockout_plant : PlantKeeps s s.enterLockout := by
  unfold State.enterLockout
  refine PlantKeeps.trans ?_ (raise_plant _ _)
  refine ⟨id, fun h => ?_⟩
  exact modCmp_refill h rfl rfl (by simp) rfl (by simp [CompressorState.motorOn])

/-- The state timer alone changes. -/
theorem timer_plant (t : Option Nat) : PlantKeeps s (s.modCmp fun c => { c with timer := t }) := ⟨id, id⟩

theorem dischargeTaken_plant (v : Nat) : PlantKeeps s (s.dischargeTaken v) := by
  unfold State.dischargeTaken
  repeat' split
  all_goals first | exact .refl s | exact enterLockout_plant s

theorem dischargeFailed_plant : PlantKeeps s s.dischargeFailed := by
  unfold State.dischargeFailed
  split
  all_goals first | exact enterLockout_plant s | exact .refl s

theorem endLockout_plant (hs : s.compressor.state ≠ .running) : PlantKeeps s s.endLockout := by
  unfold State.endLockout
  split
  · exact timer_plant s _
  · exact enterStopped_plant s hs

/-- R148: a cause that is CLEAR does not keep the motor from running. -/
theorem supplyClear_plant : PlantKeeps s (s.modCmp fun c => { c with supply := .clear }) := by
  refine ⟨id, fun h => ?_⟩
  obtain ⟨hq, ha, hm⟩ := (refillKept_iff s).1 h
  exact (refillKept_iff _).2 ⟨hq.frame rfl rfl rfl rfl rfl fun _ => rfl, ha.frame rfl rfl rfl fun _ => .inl rfl,
    fun h' => ⟨rfl, (hm h').2⟩⟩

/-- R149: a cause that is not CLEAR stops the motor. -/
theorem supplyStop_plant (c : SupplyCause) (e : EventFlag) :
    PlantKeeps s ((s.modCmp fun x => { x with supply := c }).raise e).stopMotor := by
  refine ⟨fun h => stopMotor_credits _ h, fun h => ?_⟩
  obtain ⟨hq, ha, -⟩ := (refillKept_iff s).1 h
  exact stopMotor_refill _ (hq.frame rfl rfl rfl rfl rfl fun _ => rfl) (ha.frame rfl rfl rfl fun _ => .inl rfl)

theorem supplyTaken_plant (v : Nat) : PlantKeeps s (s.supplyTaken v) := by
  unfold State.supplyTaken
  dsimp only
  split
  · exact .refl s
  · split
    · next h => rw [h]; exact (supplyClear_plant s).trans (compressorStartTest_plant _)
    · exact supplyStop_plant s _ _

theorem supplyFailed_plant : PlantKeeps s s.supplyFailed := by
  unfold State.supplyFailed
  split
  · exact .refl s
  · exact supplyStop_plant s _ _

/-- R151 (1): the latch and the cause are set together, and the motor stops. -/
theorem esdCauseSet_plant : PlantKeeps s ({ s with esdLatch := true }).esdCauseSet := by
  refine ⟨fun h => stopMotor_credits _ h, fun h => ?_⟩
  obtain ⟨⟨hnd, hall, hord, hcom, -⟩, ha, -⟩ := (refillKept_iff s).1 h
  exact stopMotor_refill _ ⟨hnd, hall, hord, hcom, rfl⟩ (ha.frame rfl rfl rfl fun _ => .inl rfl)

/-- R151 (3): the latch and the cause are cleared together, and a STOPPED compressor makes its start test. -/
theorem esdCauseCleared_plant : PlantKeeps s ({ s with esdLatch := false }).esdCauseCleared := by
  unfold State.esdCauseCleared
  refine PlantKeeps.trans ?_ (compressorStartTest_plant _)
  refine ⟨id, fun h => ?_⟩
  obtain ⟨⟨hnd, hall, hord, hcom, -⟩, ha, hm⟩ := (refillKept_iff s).1 h
  exact (refillKept_iff _).2 ⟨⟨hnd, hall, hord, hcom, rfl⟩, ha.frame rfl rfl rfl fun _ => .inl rfl,
    fun h' => ⟨(hm h').1, rfl⟩⟩

/-- R147 (2): the credit whose time is reached is free again. -/
theorem returnCredit_plant (h : s.compressor.returns ≠ []) : PlantKeeps s s.returnCredit := by
  unfold State.returnCredit
  refine PlantKeeps.trans ?_ (compressorStartTest_plant _)
  refine ⟨fun ⟨hsum, hord, hle⟩ => ?_, id⟩
  obtain ⟨x, l, hl⟩ := List.exists_cons_of_ne_nil h
  simp only [hl, List.length_cons] at hsum
  refine ⟨?_, ?_, ?_⟩
  · simp [hl]; omega
  · simp only [modCmp_compressor, hl, List.tail_cons]
    exact (List.pairwise_cons.1 (hl ▸ hord)).2
  · simp only [modCmp_compressor, hl, List.tail_cons]
    exact fun y hy => hle y (hl ▸ List.mem_cons_of_mem x hy)

theorem startTimeEnded_plant (hs : s.compressor.state = .starting) : PlantKeeps s (s.chooseNext none) := by
  refine ⟨chooseNext_credits none, fun h => ?_⟩
  obtain ⟨hq, -, hm⟩ := (refillKept_iff s).1 h
  exact chooseNext_refill none hq (hm (by rw [hs]; rfl))

/-- R147: the return times run on together. -/
theorem elapse_plant (d : Nat) : PlantKeeps s (s.elapse d) := by
  by_cases hd : d = 0
  · subst hd; exact .refl s
  · have hk : (s.elapse d).compressor = s.compressor.elapse d := by simp [State.elapse, hd]
    refine ⟨fun ⟨hsum, hord, hle⟩ => ?_, fun h => ?_⟩
    · unfold creditsKept
      rw [hk]
      refine ⟨by simpa [Compressor.elapse] using hsum, ?_, fun x hx => ?_⟩
      · exact List.pairwise_map.2 (hord.imp fun h => Nat.sub_le_sub_right h d)
      · obtain ⟨y, hy, rfl⟩ := List.mem_map.1 hx
        exact (Nat.sub_le y d).trans (hle y hy)
    · obtain ⟨hq, ha, hm⟩ := (refillKept_iff s).1 h
      refine (refillKept_iff _).2 ⟨hq.frame (by simp) (by simp) (by simp) (by simp) (by simp) fun _ => by simp,
        ha.frame (by simp) (by simp) (by simp) fun p => .inl (by simp), ?_⟩
      simpa [motorAllowed] using hm

end

end Sys2Proof.Machine
end

section
/-! PROOFS. What the ends and the holds of a fill do, whole: the state after each as one record, and what each leaves alone. -/

namespace Sys2Proof.Machine

/-! ### Tables and tickets -/

@[simp] theorem setAt_setAt {α : Type} {n : Nat} (v : Vector α n) (i : Fin n) (a b : α) :
    setAt (setAt v i a) i b = setAt v i b :=
  table_ext fun j => by by_cases h : j = i <;> simp [h]

/-- A change of the ACTIVE ticket touches the ticket table alone. -/
theorem modActive_eq (s : State) (p : Fin 4) (f : Ticket → Ticket) :
    s.modActive p f = { s with tickets := (s.modActive p f).tickets } := by
  unfold State.modActive State.modTicket
  split
  · split <;> rfl
  · rfl

/-- The tickets after a change of the ACTIVE ticket depend on the tickets and on the slots of the position. -/
theorem modActive_tickets_congr {s t : State} (p : Fin 4) (f : Ticket → Ticket) (ht : t.tickets = s.tickets)
    (ha : (t.pos p).active = (s.pos p).active) : (t.modActive p f).tickets = (s.modActive p f).tickets := by
  unfold State.modActive State.modTicket State.ticketSlot
  rw [ha, ht]
  split
  · split
    · rfl
    · exact ht
  · exact ht

/-! ### The compressor depends on the draw sets alone -/

/-- Two states in which the compressor would do the same. -/
def SamePlant (s t : State) : Prop :=
  t.compressor = s.compressor ∧ (∀ p, (t.pos p).drawBank = (s.pos p).drawBank) ∧ t.commissioned = s.commissioned ∧
  t.pendingFlags = s.pendingFlags

/-- Two states whose compressor and flags agree. -/
def PlantAgrees (s t : State) : Prop := t.compressor = s.compressor ∧ t.pendingFlags = s.pendingFlags

section
variable {s t : State}

theorem SamePlant.refillStatus (h : SamePlant s t) (b : Fin 6) : t.refillStatus b = s.refillStatus b := by
  simp [State.refillStatus, h.1]

theorem SamePlant.drawEmpty (h : SamePlant s t) (b : Fin 6) : t.drawEmpty b = s.drawEmpty b := by
  simp [State.drawEmpty, State.inDrawSet, h.2.1]

theorem SamePlant.choosable (h : SamePlant s t) (leave : Option (Fin 6)) : t.choosable leave = s.choosable leave := by
  simp [State.choosable, h.1, h.refillStatus, h.drawEmpty]

theorem SamePlant.chooseNext (h : SamePlant s t) (leave : Option (Fin 6)) :
    PlantAgrees (s.chooseNext leave) (t.chooseNext leave) := by
  unfold State.chooseNext
  rw [h.choosable]
  split <;> simp [PlantAgrees, State.refillBank, h.1, h.2.2.2]

theorem SamePlant.compressorStartTest (h : SamePlant s t) : PlantAgrees s.compressorStartTest t.compressorStartTest := by
  have hr : t.startReady = s.startReady := by simp [State.startReady, h.choosable, h.1, h.2.2.1]
  unfold State.compressorStartTest State.waitForCredit State.startMotor
  rw [hr, h.1]
  repeat' split
  all_goals simp [PlantAgrees, h.1, h.2.2.2]

theorem SamePlant.bankMayBeChosen (h : SamePlant s t) : PlantAgrees s.bankMayBeChosen t.bankMayBeChosen := by
  unfold State.bankMayBeChosen
  rw [h.1]
  split
  · exact h.compressorStartTest
  · unfold State.chooseUnloaded
    rw [h.choosable]
    split <;> simp [PlantAgrees, State.refillBank, h.1, h.2.2.2]
  all_goals exact ⟨h.1, h.2.2.2⟩

theorem SamePlant.reportLeft (h : SamePlant s t) (b : Option (Fin 6)) :
    PlantAgrees (s.reportLeft b) (t.reportLeft b) := by
  unfold State.reportLeft State.reportEmptyDraw
  split
  · rw [h.drawEmpty, h.1]
    split
    · split
      · exact h.bankMayBeChosen
      · exact ⟨h.1, h.2.2.2⟩
    · exact ⟨h.1, h.2.2.2⟩
  · exact ⟨h.1, h.2.2.2⟩

/-- R130: the report of a draw set that a position has left does not read the rest of the position. -/
theorem SamePlant.releaseDraw (h : SamePlant s t) (p : Fin 4) : PlantAgrees (s.releaseDraw p) (t.releaseDraw p) := by
  have hl : SamePlant (s.leaveBank p) (t.leaveBank p) := by
    refine ⟨h.1, fun q => ?_, h.2.2⟩
    simp only [State.leaveBank, modPos_pos]
    split
    · rfl
    · exact h.2.1 q
  unfold State.releaseDraw
  rw [h.2.1 p]
  exact hl.reportLeft _

theorem SamePlant.suspendForDraw (h : SamePlant s t) (b : Fin 6) :
    PlantAgrees (s.suspendForDraw b) (t.suspendForDraw b) := by
  unfold State.suspendForDraw
  rw [h.1]
  split
  · exact SamePlant.chooseNext (s := s.modCmp _) (t := t.modCmp _) ⟨by simp [h.1], h.2.1, h.2.2⟩ _
  · exact ⟨h.1, h.2.2.2⟩

theorem suspendForDraw_pendingFlags (b : Fin 6) : (s.suspendForDraw b).pendingFlags = s.pendingFlags := by
  unfold State.suspendForDraw State.chooseNext State.refillBank
  repeat' split
  all_goals rfl

/-- R129: joining a draw set in a state whose compressor would do what that of another does. -/
theorem joinBank_congr (h : SamePlant s t) (p : Fin 4) (b : Fin 6) :
    t.joinBank p b =
      { t with
        positions := setAt t.positions p { t.pos p with drawBank := some b }
        compressor := (s.suspendForDraw b).compressor } := by
  rw [joinBank_eq, (h.suspendForDraw b).1, suspendForDraw_pendingFlags]

theorem modPos_samePlant (s : State) (p : Fin 4) (f : Position → Position)
    (hf : (f (s.pos p)).drawBank = (s.pos p).drawBank) : SamePlant s (s.modPos p f) := by
  refine ⟨rfl, fun q => ?_, rfl, rfl⟩
  rw [modPos_pos]
  split
  · next h => subst h; exact hf
  · rfl

end

/-! ### Entry into ENDING -/

/-- R12, R60, R163: entry into ENDING, whole. -/
theorem enterEndingCore_eq {s : State} {p : Fin 4} (h : (s.pos p).state.filling = true) (r : EndReason) :
    s.enterEndingCore p r = fillEnded s p r := by
  have hpl : SamePlant s ((s.modActive p fun t => { t with endReason := some r }).modPos p fun q => { q with valve := 0 }) := by
    refine ⟨by simp, fun q => ?_, by simp, by simp⟩
    rw [modPos_pos]
    split
    · next hq => subst hq; simp
    · simp
  obtain ⟨hc, hf⟩ := hpl.releaseDraw p
  simp only [State.enterEndingCore, h, if_true]
  rw [releaseDraw_eq, hc, hf, modActive_eq]
  simp [fillEnded, State.modPos, State.modPcl, State.setWaiting, Precool.releasePosition, modAt, State.pos,
    State.drawReported, State.releaseDraw, Position.toEnding, endedPosition]

/-! ### Entry into HELD -/

/-- R113: entry into HELD, whole. -/
theorem enterHeld_eq (s : State) (p : Fin 4) : fillHolds s (s.enterHeld p) p (s.pos p).factors := by
  obtain ⟨hc, hf⟩ := (modPos_samePlant s p (fun q => { q with valve := 0 }) rfl).releaseDraw p
  unfold fillHolds State.enterHeld
  rw [releaseDraw_eq, hc, hf]
  simp [State.modPos, State.modPcl, State.setFallback, State.raise, modAt, State.pos, State.drawReported,
    State.releaseDraw, heldPosition]

/-- R112, R113: a factor joins and the fill holds. -/
theorem putFactor_enterHeld_eq (s : State) (p : Fin 4) (f : Factor) :
    fillHolds s ((s.putFactor p f true).enterHeld p) p ((s.pos p).factors.put f true) := by
  obtain ⟨hc, hf⟩ := (modPos_samePlant s p (fun q => { q with factors := q.factors.put f true }) rfl).releaseDraw p
  have hk := enterHeld_eq (s.putFactor p f true) p
  unfold fillHolds State.drawReported at *
  change ((s.putFactor p f true).releaseDraw p).compressor = (s.releaseDraw p).compressor at hc
  change ((s.putFactor p f true).releaseDraw p).pendingFlags = (s.releaseDraw p).pendingFlags at hf
  rw [hk]
  change _ = { s with
    positions := _, compressor := (s.releaseDraw p).compressor, precool := _,
    pendingFlags := (s.releaseDraw p).pendingFlags ||| _ }
  rw [← hc, ← hf]
  simp [State.putFactor, State.modPos, modAt, State.pos, heldPosition, State.releaseDraw]

/-! ### Factors -/

section
variable {s : State} {p : Fin 4} {f : Factor}

theorem activateCore_outside (h : (s.pos p).state.filling = false) : s.activateCore p f = s := by
  unfold State.activateCore
  split
  · rfl
  · split <;> first | rfl | simp_all [PosState.filling]

theorem activateCore_starting {sub : Substate} (hf : (s.pos p).factors.has f = false)
    (h : (s.pos p).state = .starting sub) : s.activateCore p f = s.putFactor p f true := by
  simp [State.activateCore, hf, h]

theorem activateCore_ends {r : EndReason} (hf : (s.pos p).factors.has f = false)
    (h : (s.pos p).state = .fuelling ∨ (s.pos p).state.isHeld = true) (hr : endingReason (s.cfg p) f = some r) :
    s.activateCore p f = s.enterEndingCore p r := by
  rw [← endedBy_eq] at hr
  unfold State.activateCore
  rcases h with h | h
  · simp [hf, h, hr]
  · split
    · simp_all
    · split <;> simp_all [PosState.isHeld]

theorem activateCore_holds (hf : (s.pos p).factors.has f = false) (h : (s.pos p).state = .fuelling)
    (hr : endingReason (s.cfg p) f = none) : s.activateCore p f = (s.putFactor p f true).enterHeld p := by
  rw [← endedBy_eq] at hr
  simp [State.activateCore, hf, h, hr]

theorem activateCore_held (hf : (s.pos p).factors.has f = false) (h : (s.pos p).state.isHeld = true)
    (hr : endingReason (s.cfg p) f = none) :
    s.activateCore p f = s.modPos p fun q =>
      { q with factors := q.factors.put f true, state := .held .factorWait, resumeTimer := none } := by
  rw [← endedBy_eq] at hr
  unfold State.activateCore
  split
  · simp_all
  · split <;> simp_all [PosState.isHeld]

/-- R112: what the activation of a factor can do. -/
theorem activateCore_cases (s : State) (p : Fin 4) (f : Factor) :
    s.activateCore p f = s ∨
    ((s.pos p).factors.has f = false ∧
      ((∃ sub, (s.pos p).state = .starting sub ∧ s.activateCore p f = s.putFactor p f true) ∨
       (∃ r, (s.pos p).state.filling = true ∧ s.activateCore p f = s.enterEndingCore p r) ∨
       ((s.pos p).state = .fuelling ∧ endingReason (s.cfg p) f = none ∧
          s.activateCore p f = (s.putFactor p f true).enterHeld p) ∨
       ((s.pos p).state.isHeld = true ∧ s.activateCore p f = s.modPos p fun q =>
          { q with factors := q.factors.put f true, state := .held .factorWait, resumeTimer := none }))) := by
  cases hf : (s.pos p).factors.has f with
  | true => exact .inl (activateCore_active hf)
  | false =>
    cases hs : (s.pos p).state with
    | closed | idle | calling | ending | ended => exact .inl (activateCore_outside (by rw [hs]; rfl))
    | starting sub => exact .inr ⟨rfl, .inl ⟨sub, rfl, activateCore_starting hf hs⟩⟩
    | fuelling =>
      cases hr : endingReason (s.cfg p) f with
      | some r => exact .inr ⟨rfl, .inr (.inl ⟨r, rfl, activateCore_ends hf (.inl hs) hr⟩)⟩
      | none => exact .inr ⟨rfl, .inr (.inr (.inl ⟨rfl, rfl, activateCore_holds hf hs hr⟩))⟩
    | held rel =>
      have hh : (s.pos p).state.isHeld = true := by rw [hs]; rfl
      cases hr : endingReason (s.cfg p) f with
      | some r => exact .inr ⟨rfl, .inr (.inl ⟨r, rfl, activateCore_ends hf (.inr hh) hr⟩)⟩
      | none => exact .inr ⟨rfl, .inr (.inr (.inr ⟨rfl, activateCore_held hf hh hr⟩))⟩

end

/-! ### What an event of some fills leaves alone -/

/-- The fills of some positions move from one state to the next: the other positions stand with their places in the waiting set
and their fallback timers, no slot of a position changes, and of the tickets only those ACTIVE at these positions change. -/
structure FillsOnly (P : Fin 4 → Prop) (s t : State) : Prop where
  base : t.base = s.base
  banks : t.banks = s.banks
  pos : ∀ q, ¬P q → t.pos q = s.pos q
  slots : ∀ q, (t.pos q).active = (s.pos q).active ∧ (t.pos q).staged = (s.pos q).staged
  waiting : ∀ q, ¬P q → t.waiting.has q = s.waiting.has q
  fallback : ∀ q, ¬P q → t.precool.fallback.get q = s.precool.fallback.get q
  numbers : ∀ i, (t.tickets.get i).map Ticket.number = (s.tickets.get i).map Ticket.number
  tickets : ∀ i k, s.tickets.get i = some k → (∀ q, P q → (s.pos q).active ≠ some k.number) →
    t.tickets.get i = some k
  flags : ∀ e, s.flagPending e = true → t.flagPending e = true

namespace FillsOnly
variable {P : Fin 4 → Prop} {s t u : State}

theorem refl (P : Fin 4 → Prop) (s : State) : FillsOnly P s s where
  base := rfl
  banks := rfl
  pos _ _ := rfl
  slots _ := ⟨rfl, rfl⟩
  waiting _ _ := rfl
  fallback _ _ := rfl
  numbers _ := rfl
  tickets _ _ h _ := h
  flags _ h := h

theorem trans (h : FillsOnly P s t) (k : FillsOnly P t u) : FillsOnly P s u where
  base := k.base.trans h.base
  banks := k.banks.trans h.banks
  pos q hq := (k.pos q hq).trans (h.pos q hq)
  slots q := ⟨(k.slots q).1.trans (h.slots q).1, (k.slots q).2.trans (h.slots q).2⟩
  waiting q hq := (k.waiting q hq).trans (h.waiting q hq)
  fallback q hq := (k.fallback q hq).trans (h.fallback q hq)
  numbers i := (k.numbers i).trans (h.numbers i)
  tickets i x hx hn := k.tickets i x (h.tickets i x hx hn) fun q hq => (h.slots q).1 ▸ hn q hq
  flags e he := k.flags e (h.flags e he)

theorem mono {Q : Fin 4 → Prop} (hPQ : ∀ q, P q → Q q) (h : FillsOnly P s t) : FillsOnly Q s t where
  base := h.base
  banks := h.banks
  pos q hq := h.pos q fun hp => hq (hPQ q hp)
  slots := h.slots
  waiting q hq := h.waiting q fun hp => hq (hPQ q hp)
  fallback q hq := h.fallback q fun hp => hq (hPQ q hp)
  numbers := h.numbers
  tickets i k hk hn := h.tickets i k hk fun q hq => hn q (hPQ q hq)
  flags := h.flags

/-- A change outside the positions, the waiting set, the fallback timers and the tickets. -/
theorem of_eq (hb : t.base = s.base) (hk : t.banks = s.banks) (hp : t.positions = s.positions)
    (hw : t.waiting = s.waiting) (hf : t.precool.fallback = s.precool.fallback) (ht : t.tickets = s.tickets)
    (hg : ∀ e, s.flagPending e = true → t.flagPending e = true) : FillsOnly P s t where
  base := hb
  banks := hk
  pos _ _ := by simp [State.pos, hp]
  slots _ := by simp [State.pos, hp]
  waiting _ _ := by rw [hw]
  fallback _ _ := by rw [hf]
  numbers _ := by rw [ht]
  tickets _ _ hi _ := by rwa [ht]
  flags := hg

/-- The numbers in the table, and so the slot of each number, stand. -/
theorem ticketSlot (h : FillsOnly P s t) (n : Nat) : t.ticketSlot n = s.ticketSlot n := by
  unfold State.ticketSlot findSlot
  congr 1
  funext i
  have := h.numbers i
  cases hs : s.tickets.get i <;> cases ht : t.tickets.get i <;> simp_all

theorem site (h : FillsOnly P s t) : t.site = s.site := site_of_base h.base
theorem cfg (h : FillsOnly P s t) (p : Fin 4) : t.cfg p = s.cfg p := cfg_of_base h.base p
theorem commissioned (h : FillsOnly P s t) : t.commissioned = s.commissioned := commissioned_of_base h.base

end FillsOnly

section
variable (s : State) (p : Fin 4)

/-- The events of one fill. -/
abbrev FillOnly (p : Fin 4) (s t : State) : Prop := FillsOnly (· = p) s t

theorem flagPending_raise_of (e g : EventFlag) (h : s.flagPending g = true) : (s.raise e).flagPending g = true := by
  rw [flagPending_raise, h]; rfl

theorem raise_fills (P : Fin 4 → Prop) (e : EventFlag) : FillsOnly P s (s.raise e) :=
  .of_eq rfl rfl rfl rfl rfl rfl fun g h => flagPending_raise_of s e g h

theorem modPos_fill (f : Position → Position) (hf : (f (s.pos p)).active = (s.pos p).active ∧ (f (s.pos p)).staged = (s.pos p).staged) :
    FillOnly p s (s.modPos p f) where
  base := rfl
  banks := rfl
  pos q hq := modPos_pos_ne s f hq
  slots q := by
    rw [modPos_pos]
    split
    · next h => subst h; exact hf
    · exact ⟨rfl, rfl⟩
  waiting _ _ := rfl
  fallback _ _ := rfl
  numbers _ := rfl
  tickets _ _ h _ := h
  flags _ h := h

theorem modPcl_fills (P : Fin 4 → Prop) (f : Precool → Precool) (hf : ∀ q, ¬P q → (f s.precool).fallback.get q = s.precool.fallback.get q) :
    FillsOnly P s (s.modPcl f) where
  base := rfl
  banks := rfl
  pos _ _ := rfl
  slots _ := ⟨rfl, rfl⟩
  waiting _ _ := rfl
  fallback := hf
  numbers _ := rfl
  tickets _ _ h _ := h
  flags _ h := h

theorem setWaiting_fill (b : Bool) : FillOnly p s (s.setWaiting p b) where
  base := rfl
  banks := rfl
  pos _ _ := rfl
  slots _ := ⟨rfl, rfl⟩
  waiting q hq := by simp [State.setWaiting, PosSet.has_put, hq]
  fallback _ _ := rfl
  numbers _ := rfl
  tickets _ _ h _ := h
  flags _ h := h

theorem setFallback_fill (t : Option Nat) : FillOnly p s (s.setFallback p t) :=
  modPcl_fills s _ _ fun q hq => get_setAt_ne _ _ hq

theorem setGrade_fills (P : Fin 4 → Prop) (g : Option Grade) : FillsOnly P s (s.setGrade p g) :=
  modPcl_fills s _ _ fun _ _ => rfl

/-- The slots of the table that a change of a ticket by its number leaves alone. -/
theorem modTicket_get (n : Nat) (f : Ticket → Ticket) (i : Fin 32) :
    (s.modTicket n f).tickets.get i =
      if s.ticketSlot n = some i then (s.tickets.get i).map f else s.tickets.get i := by
  unfold State.modTicket
  split
  · next j hj =>
    rw [hj, get_modAt]
    by_cases h : i = j
    · subst h; simp
    · rw [if_neg h, if_neg fun e => h (Option.some.inj e).symm]
  · next hj => simp [hj]

/-- A change of the ACTIVE ticket, read at any slot of the table. -/
theorem modActive_get (f : Ticket → Ticket) (i : Fin 32) :
    (s.modActive p f).tickets.get i =
      if (s.pos p).active.bind s.ticketSlot = some i then (s.tickets.get i).map f else s.tickets.get i := by
  unfold State.modActive
  split
  · next n h => rw [modTicket_get, h]; rfl
  · next h => simp [h]

theorem modActive_fill (f : Ticket → Ticket) (hf : ∀ k, (f k).number = k.number) : FillOnly p s (s.modActive p f) where
  base := modActive_base s p f
  banks := by simp
  pos q _ := by simp
  slots := by simp
  waiting _ _ := by simp
  fallback _ _ := by simp
  numbers i := by
    rw [modActive_get]
    split
    · cases s.tickets.get i <;> simp [hf]
    · rfl
  tickets i k hi hn := by
    rw [modActive_get, if_neg, hi]
    intro h
    obtain ⟨n, ha, hslot⟩ := Option.bind_eq_some_iff.1 h
    exact hn p rfl (ha.trans (congrArg some (number_of_slot hslot hi).symm))
  flags _ h := by simpa [State.flagPending] using h

end

/-- An operation of the compressor that clears no flag. -/
theorem CompressorOnly.fills {s t : State} (h : CompressorOnly s t) (P : Fin 4 → Prop)
    (hg : ∀ e, s.flagPending e = true → t.flagPending e = true) : FillsOnly P s t :=
  .of_eq (by unfold CompressorOnly at h; rw [h]; rfl) h.banks h.positions h.waiting (by rw [h.precool]) h.tickets hg

section
variable (s : State) (p : Fin 4)

theorem compressorStartTest_flags (e : EventFlag) (h : s.flagPending e = true) :
    s.compressorStartTest.flagPending e = true := by
  unfold State.compressorStartTest State.waitForCredit
  repeat' split
  all_goals first | exact h | exact flagPending_raise_of _ _ _ h

theorem bankMayBeChosen_flags (e : EventFlag) (h : s.flagPending e = true) : s.bankMayBeChosen.flagPending e = true := by
  unfold State.bankMayBeChosen
  split
  · exact compressorStartTest_flags s e h
  · unfold State.chooseUnloaded
    split <;> exact h
  all_goals exact h

theorem reportLeft_fills (P : Fin 4 → Prop) (b : Option (Fin 6)) : FillsOnly P s (s.reportLeft b) := by
  refine (reportLeft_only s b).fills P fun e h => ?_
  unfold State.reportLeft State.reportEmptyDraw
  repeat' split
  all_goals first | exact bankMayBeChosen_flags s e h | exact h

theorem suspendForDraw_fills (P : Fin 4 → Prop) (b : Fin 6) : FillsOnly P s (s.suspendForDraw b) :=
  (suspendForDraw_only s b).fills P fun e h => by
    rw [State.flagPending, suspendForDraw_pendingFlags]; exact h

theorem leaveBank_fill : FillOnly p s (s.leaveBank p) := modPos_fill s p _ ⟨rfl, rfl⟩

theorem releaseDraw_fill : FillOnly p s (s.releaseDraw p) := (leaveBank_fill s p).trans (reportLeft_fills _ _ _)

theorem joinBank_fill (b : Fin 6) : FillOnly p s (s.joinBank p b) :=
  (suspendForDraw_fills s _ b).trans (modPos_fill _ p _ ⟨rfl, rfl⟩)

theorem releasePosition_fill : FillOnly p s (s.modPcl fun c => c.releasePosition p) :=
  modPcl_fills s _ _ fun _ hq => get_setAt_ne _ _ hq

theorem enterEndingCore_fill (r : EndReason) : FillOnly p s (s.enterEndingCore p r) := by
  unfold State.enterEndingCore
  split
  · have ht := modActive_fill s p (fun t => { t with endReason := some r }) fun _ => rfl
    have hv := ht.trans (modPos_fill _ p (fun q => { q with valve := 0 }) ⟨rfl, rfl⟩)
    have hd := hv.trans (releaseDraw_fill _ p)
    have hw := (hd.trans (releasePosition_fill _ p)).trans (setWaiting_fill _ p false)
    exact hw.trans (modPos_fill _ p _ ⟨rfl, rfl⟩)
  · exact .refl _ s

theorem enterHeld_fill : FillOnly p s (s.enterHeld p) :=
  ((((modPos_fill s p _ ⟨rfl, rfl⟩).trans (releaseDraw_fill _ p)).trans (setFallback_fill _ p _)).trans
    (modPos_fill _ p _ ⟨rfl, rfl⟩)).trans (raise_fills _ _ _)

theorem putFactor_fill (f : Factor) (b : Bool) : FillOnly p s (s.putFactor p f b) := modPos_fill s p _ ⟨rfl, rfl⟩

theorem activateCore_fill (f : Factor) : FillOnly p s (s.activateCore p f) := by
  rcases activateCore_cases s p f with h | ⟨-, ⟨sub, -, h⟩ | ⟨r, -, h⟩ | ⟨-, -, h⟩ | ⟨-, h⟩⟩ <;> rw [h]
  · exact .refl _ s
  · exact putFactor_fill s p f true
  · exact enterEndingCore_fill s p r
  · exact (putFactor_fill s p f true).trans (enterHeld_fill _ p)
  · exact modPos_fill s p _ ⟨rfl, rfl⟩

theorem bankLowCore_fill : FillOnly p s (s.bankLowCore p) := by
  unfold State.bankLowCore
  dsimp only
  split
  · exact (activateCore_fill s p _).trans (setWaiting_fill _ p _)
  · exact activateCore_fill s p _

@[simp] theorem clearedPosition_active (c : PositionConfig) (q : Position) (f : Factor) :
    (clearedPosition c q f).active = q.active := by
  unfold clearedPosition; dsimp only; repeat' split
  all_goals rfl

@[simp] theorem clearedPosition_staged (c : PositionConfig) (q : Position) (f : Factor) :
    (clearedPosition c q f).staged = q.staged := by
  unfold clearedPosition; dsimp only; repeat' split
  all_goals rfl

theorem clearFactor_fill (f : Factor) : FillOnly p s (s.clearFactor p f) := by
  rw [clearFactor_eq]
  exact modPos_fill s p _ (by simp)

theorem recordProfile_fill (i : Fin 16) (g : Option Grade) (m : CommMode) : FillOnly p s (s.recordProfile p i g m) :=
  modActive_fill s p _ fun _ => rfl

/-- R72: a re-lookup that finds a profile, whole. -/
theorem relookup_cases (g : Option Grade) (m : CommMode) :
    (s.lookupProfile p g m = none ∧ s.relookup p g m = none) ∨
    ∃ i f, s.lookupProfile p g m = some (i, f) ∧ s.relookup p g m =
      some (((s.modPos p fun q => { q with ramp := q.ramp.onProfile i f (10 * s.pDisp p) }).recordProfile p i g m).clearFactor
        p .precool) := by
  unfold State.relookup
  cases h : s.lookupProfile p g m with
  | none => exact .inl ⟨rfl, rfl⟩
  | some x => obtain ⟨i, f⟩ := x; exact .inr ⟨i, f, rfl, rfl⟩

theorem relookup_fill {t : State} (g : Option Grade) (m : CommMode) (h : s.relookup p g m = some t) : FillOnly p s t := by
  rcases relookup_cases s p g m with ⟨-, hn⟩ | ⟨i, f, -, hs⟩
  · simp [hn] at h
  · obtain rfl := Option.some.inj (hs.symm.trans h)
    exact ((modPos_fill s p _ ⟨rfl, rfl⟩).trans (recordProfile_fill _ p _ _ _)).trans (clearFactor_fill _ p _)

theorem relookupWarm_fill : FillOnly p s (s.relookupWarm p) := by
  unfold State.relookupWarm
  split
  · next t h => exact relookup_fill s p _ _ h
  · exact activateCore_fill s p _

theorem enterFuelling_fill (b : Fin 6) : FillOnly p s (s.enterFuelling p b) :=
  (joinBank_fill s p b).trans (modPos_fill _ p _ ⟨rfl, rfl⟩)

theorem startWithoutBank_fill : FillOnly p s (s.startWithoutBank p) := by
  unfold State.startWithoutBank
  split
  · exact enterEndingCore_fill s p _
  · exact ((putFactor_fill s p _ _).trans (enterHeld_fill _ p)).trans (setWaiting_fill _ p _)

theorem beginFill_fill (i : Fin 16) (f : FillProfile) (pInit : Nat) : FillOnly p s (s.beginFill p i f pInit) := by
  have h := (recordProfile_fill s p i (s.grade p) (s.pos p).commMode).trans
    (modPos_fill _ p (fun q => { q with valve := 0, ramp := q.ramp.onProfile i f (10 * pInit) }) ⟨rfl, rfl⟩)
  unfold State.beginFill
  dsimp only
  repeat' split
  · exact h.trans (enterEndingCore_fill _ p _)
  · exact h.trans (enterFuelling_fill _ p _)
  · exact h.trans (startWithoutBank_fill _ p)
  · exact h.trans (enterHeld_fill _ p)

theorem startLookupCore_fill : FillOnly p s (s.startLookupCore p) := by
  unfold State.startLookupCore
  dsimp only
  split
  · exact enterEndingCore_fill s p _
  split
  · exact enterEndingCore_fill s p _
  · exact beginFill_fill s p _ _ _

theorem enterCoolWaitCore_fill : FillOnly p s (s.enterCoolWaitCore p) := by
  unfold State.enterCoolWaitCore
  dsimp only
  split
  · exact (modPos_fill s p _ ⟨rfl, rfl⟩).trans (startLookupCore_fill _ p)
  · exact (modPos_fill s p _ ⟨rfl, rfl⟩).trans (modPos_fill _ p _ ⟨rfl, rfl⟩)

theorem modLink_fill (f : LinkContext → LinkContext) : FillOnly p s (s.modLink p f) := modPos_fill s p _ ⟨rfl, rfl⟩

theorem vehicleChecksCore_fill : FillOnly p s (s.vehicleChecksCore p) := by
  have h (c : Prop) [Decidable c] : FillOnly p s (if c then s.modLink p fun l => l.fail .lost else s) := by
    split
    · exact modLink_fill s p _
    · exact .refl _ s
  unfold State.vehicleChecksCore
  dsimp only
  split
  · exact (h _).trans (enterEndingCore_fill _ p _)
  · exact (h _).trans (enterCoolWaitCore_fill _ p)

theorem leaveSettleCore_fill : FillOnly p s (s.leaveSettleCore p) := by
  unfold State.leaveSettleCore
  split
  · exact vehicleChecksCore_fill s p
  · exact modPos_fill s p _ ⟨rfl, rfl⟩

theorem advanceCore_fill : FillOnly p s (s.advanceCore p) := by
  unfold State.advanceCore
  dsimp only
  repeat' split
  all_goals
    first
      | exact .refl _ s
      | exact leaveSettleCore_fill s p
      | exact vehicleChecksCore_fill s p
      | exact startLookupCore_fill s p

theorem advanceUnlessHalted_fill : FillOnly p s (s.advanceUnlessHalted p) := by
  unfold State.advanceUnlessHalted
  split
  · exact .refl _ s
  · exact advanceCore_fill s p

theorem grantSlot_fills (P : Fin 4 → Prop) : FillsOnly P s (s.grantSlot p) := modPcl_fills s _ _ fun _ _ => rfl

theorem endCoolWaitCore_fill : FillOnly p s (s.endCoolWaitCore p) := by
  unfold State.endCoolWaitCore
  split
  · exact (modPos_fill s p _ ⟨rfl, rfl⟩).trans (advanceUnlessHalted_fill _ p)
  · exact .refl _ s

end

/-! ### Grants -/

/-- R162: the induction on the grants of one event: with no grant due nothing more happens, else the head of the queue is
granted a slot and told. -/
theorem makeGrants_induction {C : State → State → Prop} (stop : ∀ s, noGrantDue s → C s s)
    (grant : ∀ s p rest t, s.precool.waitQueue = p :: rest → s.slotFree = true →
      C ((s.grantSlot p).endCoolWaitCore p) t → C s t) (s : State) : C s s.makeGrants := by
  suffices h : ∀ n s, s.precool.waitQueue.length ≤ n → C s s.makeGrants from h _ s le_rfl
  intro n
  induction n with
  | zero =>
    intro s hn
    have hd : noGrantDue s := .inr (List.length_eq_zero_iff.1 (Nat.le_zero.1 hn))
    rw [makeGrants_of_noGrantDue hd]
    exact stop s hd
  | succ n ih =>
    intro s hn
    by_cases hd : noGrantDue s
    · rw [makeGrants_of_noGrantDue hd]
      exact stop s hd
    · unfold noGrantDue at hd
      simp only [not_or, Bool.not_eq_false] at hd
      obtain ⟨hf, hq⟩ := hd
      obtain ⟨p, rest, hq⟩ := List.exists_cons_of_ne_nil hq
      rw [makeGrants_head hq hf]
      have g : (s.grantSlot p).precool.waitQueue = rest := by simp [State.grantSlot, hq]
      have l := endCoolWaitCore_waitQueue (s.grantSlot p) p
      rw [g] at l
      rw [hq] at hn
      exact grant s p rest _ hq hf (ih _ (l.trans (Nat.le_of_succ_le_succ hn)))

/-- R162: after the grants of an event no grant is due. -/
theorem makeGrants_noGrantDue (s : State) : noGrantDue s.makeGrants :=
  makeGrants_induction (C := fun _ t => noGrantDue t) (fun _ h => h) (fun _ _ _ _ _ _ h => h) s

/-- R56, R162: the grants of an event reach the positions in COOL_WAIT alone. -/
theorem makeGrants_fills (s : State) : FillsOnly (fun q => (s.pos q).state = .starting .coolWait) s s.makeGrants := by
  refine makeGrants_induction (C := fun s t => FillsOnly (fun q => (s.pos q).state = .starting .coolWait) s t)
    (fun s _ => .refl _ s) (fun s p rest t _ _ h => ?_) s
  have hg := grantSlot_fills s p fun q => (s.pos q).state = .starting .coolWait
  by_cases hc : (s.pos p).state = .starting .coolWait
  · have he := (endCoolWaitCore_fill (s.grantSlot p) p).mono (Q := fun q => (s.pos q).state = .starting .coolWait)
      fun q (hq : q = p) => hq ▸ hc
    refine (hg.trans he).trans (h.mono fun q hq => ?_)
    by_contra hn
    exact hn (he.pos q hn ▸ hq)
  · rw [endCoolWaitCore_elsewhere (s := s.grantSlot p) hc] at h
    exact hg.trans h

end Sys2Proof.Machine
end

section
/-! PROOFS. What keeps the relations on the draws, the cooling slots, the tickets and the ledger: the relations taken apart, and
what an event of one fill has to show for them. -/

namespace Sys2Proof.Machine

/-! ### The relations, position by position and ticket by ticket -/

/-- R46, R47, R106: the valve, the draw and the factors of one position by its state. -/
def DrawOk (com : Bool) (q : Position) : Prop :=
  (if q.state = .fuelling ∨ q.state = .starting .pulse then q.drawBank.isSome = true ∧ q.valve ≤ 1000
   else q.drawBank = none ∧ q.valve = 0) ∧
  ((q.state = .fuelling ∨ q.state = .held .delay ∨ q.state = .held .demandWait) → q.factors = .empty) ∧
  (com = false → q.state = .closed)

/-- R56, R161: what a waiter for a cooling slot is. -/
def Waits (s : State) (p : Fin 4) : Prop :=
  (s.pos p).state.isStarting = true ∧ (s.cfg p).cooling = true ∧ s.precool.holders.has p = false ∧
  s.grade p = none ∧ (s.pos p).coolWaitExpired = false ∧
  ((s.pos p).state = .starting .coolWait → (s.pos p).coolWaitTimer.isSome = true)

/-- R161 to R163: the relation on the cooling slots, but for the grants that are due. -/
def slotsHeld (s : State) : Prop :=
  s.precool.holders.size ≤ s.site.slotCount ∧ s.precool.waitQueue.Nodup ∧ (∀ p ∈ s.precool.waitQueue, Waits s p) ∧
  (∀ p, s.precool.holders.has p = true → (s.pos p).state.filling = true) ∧
  (s.commissioned = false → s.precool.holders = .empty ∧ s.precool.waitQueue = [])

theorem slotsKept_iff (s : State) : slotsKept s ↔ slotsHeld s ∧ noGrantDue s := by
  unfold slotsKept slotsHeld Waits
  tauto

/-- The fields of a ticket that the relations on the tickets and the ledger read. -/
def Ticket.core (k : Ticket) : Ticket :=
  { k with
    opener := 0, nozzleClass := .h70, authorizer := none, presetMass := none, presetAmount := none, reduced := false
    expectedTag := none, metrologyCount := none, profile := none, grade := none, commMode := none, pInit := none
    finalPressure := none, lastSoc := none, peakTGas := none, startTime := none, endTime := none, endReason := none }

/-- The tickets in the table stand but for fields that no relation reads. -/
def CoreStands (s t : State) : Prop := ∀ i, (t.tickets.get i).map Ticket.core = (s.tickets.get i).map Ticket.core

theorem CoreStands.refl (s : State) : CoreStands s s := fun _ => rfl
theorem CoreStands.trans {s t u : State} (h : CoreStands s t) (k : CoreStands t u) : CoreStands s u :=
  fun i => (k i).trans (h i)
theorem CoreStands.of_eq {s t : State} (h : t.tickets = s.tickets) : CoreStands s t := fun _ => by rw [h]

/-- A ticket of the later table has one of the earlier table to answer for it. -/
theorem CoreStands.back {s t : State} (h : CoreStands s t) {i : Fin 32} {k : Ticket} (hk : t.tickets.get i = some k) :
    ∃ l, s.tickets.get i = some l ∧ l.core = k.core := by
  have := h i
  rw [hk] at this
  cases hs : s.tickets.get i with
  | none => simp [hs] at this
  | some l => exact ⟨l, rfl, by simpa [hs, eq_comm] using this⟩

/-- What equal cores agree in. -/
theorem core_eq {k l : Ticket} (h : l.core = k.core) :
    l.number = k.number ∧ l.state = k.state ∧ l.position = k.position ∧ l.attachment = k.attachment ∧
    l.window = k.window ∧ l.holdUsed = k.holdUsed ∧ l.account = k.account ∧ l.hold = k.hold ∧ l.mass = k.mass ∧
    l.amount = k.amount ∧ l.price = k.price := by
  unfold Ticket.core at h
  injection h
  simp_all

theorem modActive_core (s : State) (p : Fin 4) (f : Ticket → Ticket) (hf : ∀ k, (f k).core = k.core) :
    CoreStands s (s.modActive p f) := by
  intro i
  rw [modActive_get]
  split
  · cases s.tickets.get i <;> simp [hf]
  · rfl

/-! ### From one state to the next -/

/-- What keeps the relations on the credits, the refill, the tickets and the ledger. -/
structure Flow (s t : State) : Prop where
  plant : PlantKeeps s t
  tickets : ticketsKept s → ticketsKept t
  ledger : ticketsKept s → ledgerKept s → ledgerKept t

/-- What keeps each of the six relations; the cooling slots but for the grants that are due. -/
structure Keeps (s t : State) : Prop extends Flow s t where
  draws : drawsKept s → drawsKept t
  slots : slotsHeld s → slotsHeld t

theorem Flow.refl (s : State) : Flow s s := ⟨.refl s, id, fun _ h => h⟩

theorem Flow.trans {s t u : State} (h : Flow s t) (k : Flow t u) : Flow s u where
  plant := h.plant.trans k.plant
  tickets := k.tickets ∘ h.tickets
  ledger ht hl := k.ledger (h.tickets ht) (h.ledger ht hl)

theorem Keeps.refl (s : State) : Keeps s s := ⟨.refl s, id, id⟩

theorem Keeps.trans {s t u : State} (h : Keeps s t) (k : Keeps t u) : Keeps s u :=
  ⟨h.toFlow.trans k.toFlow, k.draws ∘ h.draws, k.slots ∘ h.slots⟩

/-! ### Tickets and ledger, where the tickets stand -/

/-- What the relation on the tickets reads of a position: whether it is in a fill, at its end or closed, its slots, and its
hold accumulator. -/
def SamePlace (q r : Position) : Prop :=
  r.active = q.active ∧ r.staged = q.staged ∧ r.holdTime = q.holdTime ∧ r.state.busy = q.state.busy ∧
  ((q.state ≠ .ended ∧ q.state ≠ .closed) ∨ r.state = q.state)

theorem SamePlace.refl (q : Position) : SamePlace q q := ⟨rfl, rfl, rfl, rfl, .inr rfl⟩

/-- What the relation on the tickets reads of a ticket, but for its hold time. -/
def Ticket.place (k : Ticket) : Nat × TicketState × Fin 4 × Attachment × Bool :=
  (k.number, k.state, k.position, k.attachment, k.window.isSome)

/-- The tickets in the table stand but for what does not place them. -/
def PlacesStand (s t : State) : Prop := ∀ i, (t.tickets.get i).map Ticket.place = (s.tickets.get i).map Ticket.place

/-- What equal places agree in. -/
theorem place_eq {k l : Ticket} (h : l.place = k.place) :
    l.number = k.number ∧ l.state = k.state ∧ l.position = k.position ∧ l.attachment = k.attachment ∧
    l.window.isSome = k.window.isSome := by
  simpa [Ticket.place] using h

theorem PlacesStand.back {s t : State} (h : PlacesStand s t) {i : Fin 32} {k : Ticket} (hk : t.tickets.get i = some k) :
    ∃ l, s.tickets.get i = some l ∧ l.place = k.place := by
  have := h i
  rw [hk] at this
  cases hs : s.tickets.get i with
  | none => simp [hs] at this
  | some l => exact ⟨l, rfl, by simpa [hs, eq_comm] using this⟩

theorem PlacesStand.ticketSlot {s t : State} (h : PlacesStand s t) (n : Nat) : t.ticketSlot n = s.ticketSlot n := by
  unfold State.ticketSlot findSlot
  congr 1
  funext i
  have := h i
  cases hs : s.tickets.get i with
  | none => cases ht : t.tickets.get i <;> simp_all
  | some l =>
    cases ht : t.tickets.get i with
    | none => simp_all
    | some k =>
      rw [hs, ht] at this
      have hn : k.number = l.number := (place_eq (Option.some.inj this)).1
      simp [hn]

theorem PlacesStand.ticket {s t : State} (h : PlacesStand s t) (n : Nat) :
    (t.ticket n).map Ticket.place = (s.ticket n).map Ticket.place := by
  unfold State.ticket
  rw [h.ticketSlot]
  cases s.ticketSlot n with
  | none => rfl
  | some i => exact h i

/-- The relation on the tickets is kept where the tickets keep their places, the positions their slots, and the hold times
agree. -/
theorem ticketsKept_of_moves {s t : State} (hc : PlacesStand s t)
    (hp : ∀ p, (t.pos p).active = (s.pos p).active ∧ (t.pos p).staged = (s.pos p).staged ∧
      (t.pos p).state.busy = (s.pos p).state.busy)
    (hend : ∀ i k, s.tickets.get i = some k → k.attachment = .active → k.state = .ended → (s.pos k.position).state = .ended →
      (t.pos k.position).state = .ended)
    (hclosed : s.commissioned = false → ∀ p, (s.pos p).state = .closed → (t.pos p).state = .closed)
    (hcom : t.commissioned = s.commissioned) (hhold : ticketsKept s → holdTimeKept t) (h : ticketsKept s) : ticketsKept t := by
  have hh := hhold h
  obtain ⟨hnum, hpl, href, -⟩ := h
  refine ⟨fun i j hij k hk l hl => ?_, fun i k hk => ?_, fun p => ?_, hh⟩
  · obtain ⟨k', hk', ek⟩ := hc.back hk
    obtain ⟨l', hl', el⟩ := hc.back hl
    rw [← (place_eq ek).1, ← (place_eq el).1]
    exact hnum i j hij k' hk' l' hl'
  · obtain ⟨k', hk', ek⟩ := hc.back hk
    obtain ⟨en, es, ep, ea, ew⟩ := place_eq ek
    have := hpl i k' hk'
    obtain ⟨h1, h2, h4⟩ := hp k'.position
    unfold ticketPlaced at this ⊢
    rw [← en, ← es, ← ep, ← ea, ← ew, h1, h2, h4]
    obtain ⟨a, b, c, d, e, f, g, w⟩ := this
    exact ⟨a, b, c, d, e, f, fun ha he => hend i k' hk' ha he (g ha he), w⟩
  · obtain ⟨h1, h2, h4⟩ := hp p
    obtain ⟨r1, r2, r3, r4⟩ := href p
    have hany (n : Nat) (h : (s.ticket n).any (fun k => decide (k.position = p)) = true) :
        (t.ticket n).any (fun k => decide (k.position = p)) = true := by
      have := hc.ticket n
      cases hs : s.ticket n with
      | none => simp [hs] at h
      | some k =>
        cases ht : t.ticket n with
        | none => simp [hs, ht] at this
        | some l =>
          rw [hs, ht] at this
          have e := (place_eq (Option.some.inj this)).2.2.1
          simpa [hs, e] using h
    unfold slotsRefer
    rw [h1, h2, h4, hcom]
    refine ⟨fun n hn => hany n (r1 n hn), fun n hn => hany n (r2 n hn), r3, fun hc => ?_⟩
    obtain ⟨e1, e2, e3⟩ := r4 hc
    exact ⟨hclosed hc p e1, e2, e3⟩

/-- What the relation on the tickets reads of a position, but for its hold time. -/
def SameSlots (q r : Position) : Prop :=
  r.active = q.active ∧ r.staged = q.staged ∧ r.state.busy = q.state.busy ∧
  ((q.state ≠ .ended ∧ q.state ≠ .closed) ∨ r.state = q.state)

/-- The relation on the tickets is kept where the tickets and the positions keep their places and the hold times agree. -/
theorem ticketsKept_of_places {s t : State} (hc : PlacesStand s t) (hp : ∀ p, SameSlots (s.pos p) (t.pos p))
    (hcom : t.commissioned = s.commissioned) (hhold : ticketsKept s → holdTimeKept t) (h : ticketsKept s) : ticketsKept t := by
  refine ticketsKept_of_moves hc (fun p => ?_) (fun i k _ _ _ he => ?_) (fun _ p hp' => ?_) hcom hhold h
  · obtain ⟨h1, h2, h3, -⟩ := hp p
    exact ⟨h1, h2, h3⟩
  · obtain ⟨-, -, -, h4 | h4⟩ := hp k.position
    · exact absurd he h4.1
    · rw [h4, he]
  · obtain ⟨-, -, -, h4 | h4⟩ := hp p
    · exact absurd hp' h4.2
    · rw [h4, hp']

theorem CoreStands.places {s t : State} (h : CoreStands s t) : PlacesStand s t := by
  intro i
  have := h i
  cases hs : s.tickets.get i with
  | none => cases ht : t.tickets.get i <;> simp_all
  | some l =>
    cases ht : t.tickets.get i with
    | none => simp_all
    | some k =>
      rw [hs, ht] at this
      obtain ⟨e1, e2, e3, e4, e5, -⟩ := core_eq (Option.some.inj this)
      simp [Ticket.place, e1, e2, e3, e4, e5]

/-- The relation on the tickets is kept where no ticket and no position changes what it reads. -/
theorem ticketsKept_of_core {s t : State} (hc : CoreStands s t) (hp : ∀ p, SamePlace (s.pos p) (t.pos p))
    (hcfg : ∀ p, (t.cfg p).maxHold = (s.cfg p).maxHold) (hcom : t.commissioned = s.commissioned) (h : ticketsKept s) :
    ticketsKept t := by
  refine ticketsKept_of_places hc.places (fun p => ?_) hcom (fun hs => ?_) h
  · obtain ⟨h1, h2, -, h4, h5⟩ := hp p
    exact ⟨h1, h2, h4, h5⟩
  obtain ⟨-, -, -, hmax, hused⟩ := hs
  refine ⟨fun p hb => ?_, fun i k hk hst => ?_⟩
  · obtain ⟨-, -, h3, h4, -⟩ := hp p
    rw [h3, hcfg]
    exact hmax p (h4 ▸ hb)
  · obtain ⟨k', hk', ek⟩ := hc.back hk
    obtain ⟨-, es, ep, -, -, eu, -⟩ := core_eq ek
    rw [← eu, ← ep, (hp k'.position).2.2.1]
    exact hused i k' hk' (es.trans hst)

/-- What the held totals read of a ticket. -/
def Ticket.claim (k : Ticket) : Nat × Option Nat × Option Nat := (k.number, k.account, k.hold)

/-- The tickets in the table stand in what the held totals read. -/
def ClaimsStand (s t : State) : Prop := ∀ i, (t.tickets.get i).map Ticket.claim = (s.tickets.get i).map Ticket.claim

theorem claim_eq {k l : Ticket} (h : l.claim = k.claim) : l.number = k.number ∧ l.account = k.account ∧ l.hold = k.hold := by
  simpa [Ticket.claim] using h

theorem ClaimsStand.back {s t : State} (h : ClaimsStand s t) {i : Fin 32} {k : Ticket} (hk : t.tickets.get i = some k) :
    ∃ l, s.tickets.get i = some l ∧ l.claim = k.claim := by
  have := h i
  rw [hk] at this
  cases hs : s.tickets.get i with
  | none => simp [hs] at this
  | some l => exact ⟨l, rfl, by simpa [hs, eq_comm] using this⟩

theorem ClaimsStand.holdsOf {s t : State} (h : ClaimsStand s t) (n : Nat) : t.holdsOf n = s.holdsOf n := by
  unfold State.holdsOf
  congr 2
  funext i
  have := h i
  cases hs : s.tickets.get i with
  | none => cases ht : t.tickets.get i <;> simp_all
  | some l =>
    cases ht : t.tickets.get i with
    | none => simp_all
    | some k =>
      rw [hs, ht] at this
      obtain ⟨-, e1, e2⟩ := claim_eq (Option.some.inj this)
      by_cases hn : l.account = some n <;> simp [Option.filter, e1, e2, hn]

/-- The ledger is kept where the holds and the accounts stand and every ticket is funded. -/
theorem ledgerKept_of_claims {s t : State} (hc : ClaimsStand s t) (ha : t.accounts = s.accounts)
    (hs : t.site.minAuthAmount = s.site.minAuthAmount)
    (hfund : ledgerKept s → ∀ i, ∀ k ∈ t.tickets.get i, ticketFunded t k) (h : ledgerKept s) : ledgerKept t := by
  have hf := hfund h
  obtain ⟨hmin, hacc, hnum, -, hbal⟩ := h
  refine ⟨hs ▸ hmin, ha ▸ hacc, fun i j hij k hk l hl => ?_, hf, fun i a hi => ?_⟩
  · obtain ⟨k', hk', ek⟩ := hc.back hk
    obtain ⟨l', hl', el⟩ := hc.back hl
    rw [← (claim_eq ek).1, ← (claim_eq el).1]
    exact hnum i j hij k' hk' l' hl'
  · unfold accountBalanced
    rw [hc.holdsOf]
    exact hbal i a (ha ▸ hi)

theorem account_congr {s t : State} (h : t.accounts = s.accounts) (n : Nat) : t.account n = s.account n := by
  simp [State.account, State.accountSlot, h]

theorem CoreStands.claims {s t : State} (h : CoreStands s t) : ClaimsStand s t := by
  intro i
  have := h i
  cases hs : s.tickets.get i with
  | none => cases ht : t.tickets.get i <;> simp_all
  | some l =>
    cases ht : t.tickets.get i with
    | none => simp_all
    | some k =>
      rw [hs, ht] at this
      obtain ⟨e1, -, -, -, -, -, e2, e3, -⟩ := core_eq (Option.some.inj this)
      simp [Ticket.claim, e1, e2, e3]

/-- The ledger is kept where the tickets' money and the accounts stand. -/
theorem ledgerKept_of_core {s t : State} (hc : CoreStands s t) (ha : t.accounts = s.accounts)
    (hs : t.site.minAuthAmount = s.site.minAuthAmount) (h : ledgerKept s) : ledgerKept t := by
  refine ledgerKept_of_claims hc.claims ha hs (fun ⟨_, _, _, hfund, _⟩ i k hk => ?_) h
  obtain ⟨k', hk', ek⟩ := hc.back hk
  obtain ⟨-, es, -, -, -, -, e1, e2, e3, e4, e5⟩ := core_eq ek
  have := hfund i k' hk'
  unfold ticketFunded at this ⊢
  rw [← es, ← e1, ← e2, ← e3, ← e4, ← e5]
  simpa only [account_congr ha] using this

/-! ### Cooling slots -/

theorem PosSet.size_le {a b : PosSet} (h : ∀ q, a.has q = true → b.has q = true) : a.size ≤ b.size := by
  have h0 := h 0
  have h1 := h 1
  have h2 := h 2
  have h3 := h 3
  simp only [PosSet.has] at h0 h1 h2 h3
  have le (x y : Bool) (h : x = true → y = true) : x.toNat ≤ y.toNat := by cases x <;> cases y <;> simp_all
  unfold PosSet.size
  have := le _ _ h0
  have := le _ _ h1
  have := le _ _ h2
  have := le _ _ h3
  omega

theorem PosSet.eq_empty {a : PosSet} (h : ∀ q, a.has q = false) : a = .empty := by
  obtain ⟨p0, p1, p2, p3⟩ := a
  have h0 := h 0
  have h1 := h 1
  have h2 := h 2
  have h3 := h 3
  simp only [PosSet.has] at h0 h1 h2 h3
  simp [PosSet.empty, h0, h1, h2, h3]

/-- The cooling slots of one position move: no slot is given, the other positions keep their grades and their places in the
wait queue. -/
structure SlotsOnly (p : Fin 4) (s t : State) : Prop where
  holders : ∀ q, t.precool.holders.has q = true → s.precool.holders.has q = true
  others : ∀ q, q ≠ p → t.grade q = s.grade q
  queue : t.precool.waitQueue.Sublist s.precool.waitQueue

theorem SlotsOnly.of_eq {p : Fin 4} {s t : State} (h : t.precool.holders = s.precool.holders)
    (hq : t.precool.waitQueue = s.precool.waitQueue) (hg : ∀ q, q ≠ p → t.grade q = s.grade q) : SlotsOnly p s t :=
  ⟨fun _ hh => h ▸ hh, hg, hq ▸ List.Sublist.refl _⟩

/-- What an event of the fill of one position has to show for the cooling slots. -/
structure SlotsAt (p : Fin 4) (s t : State) : Prop where
  only : SlotsOnly p s t
  waits : slotsHeld s → p ∈ t.precool.waitQueue → Waits t p
  fills : slotsHeld s → t.precool.holders.has p = true → (t.pos p).state.filling = true

/-- An event of the fill of one position keeps the relation on the cooling slots. -/
theorem slotsHeld_at {p : Fin 4} {s t : State} (hf : FillOnly p s t) (hs : SlotsAt p s t) (h : slotsHeld s) :
    slotsHeld t := by
  have hh := h
  obtain ⟨hsz, hnd, hw, hfl, hcom⟩ := h
  refine ⟨?_, hnd.sublist hs.only.queue, fun q hq => ?_, fun q hq => ?_, fun hc => ?_⟩
  · rw [hf.site]
    exact (PosSet.size_le hs.only.holders).trans hsz
  · by_cases hqp : q = p
    · subst hqp; exact hs.waits hh hq
    · have := hw q (hs.only.queue.subset hq)
      unfold Waits at this ⊢
      rw [hf.pos q hqp, hf.cfg, hs.only.others q hqp]
      refine ⟨this.1, this.2.1, ?_, this.2.2.2⟩
      have := mt (hs.only.holders q)
      simp_all
  · by_cases hqp : q = p
    · subst hqp; exact hs.fills hh hq
    · rw [hf.pos q hqp]
      exact hfl q (hs.only.holders q hq)
  · obtain ⟨e1, e2⟩ := hcom (hf.commissioned ▸ hc)
    refine ⟨PosSet.eq_empty fun q => ?_, List.sublist_nil.1 (e2 ▸ hs.only.queue)⟩
    have := mt (hs.only.holders q)
    rw [e1] at this
    simpa using this

/-- The cooling slots stand, and the position stays in its start sequence or its fill. -/
theorem SlotsAt.same {p : Fin 4} {s t : State} (h : t.precool.holders = s.precool.holders)
    (hq : t.precool.waitQueue = s.precool.waitQueue) (hg : t.precool.grades = s.precool.grades) (hc : t.cfg p = s.cfg p)
    (hst : (t.pos p).state.filling = (s.pos p).state.filling)
    (hw : (s.pos p).state.isStarting = true → (t.pos p).state.isStarting = true ∧
      (t.pos p).coolWaitExpired = (s.pos p).coolWaitExpired ∧
      ((t.pos p).state = .starting .coolWait →
        (s.pos p).state = .starting .coolWait ∧ (t.pos p).coolWaitTimer = (s.pos p).coolWaitTimer ∨
        (t.pos p).coolWaitTimer.isSome = true)) : SlotsAt p s t := by
  refine ⟨.of_eq h hq fun _ _ => by simp [State.grade, hg], fun hs hp => ?_, fun hs hp => ?_⟩
  · obtain ⟨w1, w2, w3, w4, w5, w6⟩ := hs.2.2.1 p (hq ▸ hp)
    obtain ⟨k1, k2, k3⟩ := hw w1
    refine ⟨k1, hc ▸ w2, h ▸ w3, by simpa [State.grade, hg] using w4, k2 ▸ w5, fun e => ?_⟩
    rcases k3 e with ⟨e1, e2⟩ | e
    · rw [e2]; exact w6 e1
    · exact e
  · rw [hst]
    exact hs.2.2.2.1 p (h ▸ hp)

/-- The cooling slots stand, and the position does not wait for one. -/
theorem SlotsAt.notWaiting {p : Fin 4} {s t : State} (h : t.precool.holders = s.precool.holders)
    (hq : t.precool.waitQueue = s.precool.waitQueue) (hg : ∀ q, q ≠ p → t.grade q = s.grade q)
    (hst : (s.pos p).state.filling = true → (t.pos p).state.filling = true) (hw : slotsHeld s → p ∉ s.precool.waitQueue) :
    SlotsAt p s t := by
  refine ⟨.of_eq h hq hg, fun hs hp => absurd (hq ▸ hp) (hw hs), fun hs hp => hst ?_⟩
  exact hs.2.2.2.1 p (h ▸ hp)

/-- A position outside its start sequence does not wait for a slot. -/
theorem notWaiting_of_state {s : State} {p : Fin 4} (h : (s.pos p).state.isStarting = false) :
    slotsHeld s → p ∉ s.precool.waitQueue := fun hs hp => by
  have := (hs.2.2.1 p hp).1
  simp [h] at this

/-- An event of the fill of one position keeps the relation on the draws where the position comes to meet it. -/
theorem drawsKept_at {p : Fin 4} {s t : State} (hf : FillOnly p s t) (hd : drawsKept s → DrawOk s.commissioned (t.pos p))
    (h : drawsKept s) : drawsKept t := by
  refine ⟨by rw [hf.site]; exact h.1, fun q => ?_⟩
  change DrawOk t.commissioned (t.pos q)
  rw [hf.commissioned]
  by_cases hq : q = p
  · subst hq; exact hd h
  · rw [hf.pos q hq]; exact h.2 q

/-- What an event of the fill of one position has to show for the credits, the refill, the tickets and the ledger. -/
theorem flow_at {p : Fin 4} {s t : State} (hf : FillOnly p s t) (hp : PlantKeeps s t) (hc : CoreStands s t)
    (ht : SamePlace (s.pos p) (t.pos p)) : Flow s t where
  plant := hp
  tickets := ticketsKept_of_core hc (fun q => by
    by_cases hq : q = p
    · subst hq; exact ht
    · rw [hf.pos q hq]; exact .refl _) (fun q => by rw [hf.cfg]) hf.commissioned
  ledger _ := ledgerKept_of_core hc (accounts_of_base hf.base) (by rw [hf.site])

/-- What an event of the fill of one position has to show for the six relations. -/
theorem keeps_at {p : Fin 4} {s t : State} (hf : FillOnly p s t) (hp : PlantKeeps s t) (hc : CoreStands s t)
    (ht : SamePlace (s.pos p) (t.pos p)) (hd : drawsKept s → DrawOk s.commissioned (t.pos p)) (hs : SlotsAt p s t) :
    Keeps s t :=
  ⟨flow_at hf hp hc ht, drawsKept_at hf hd, slotsHeld_at hf hs⟩

/-! ### The events that move one position within its fill -/

/-- What the relations read of a position stands. -/
def SameView (q r : Position) : Prop :=
  r.state = q.state ∧ r.drawBank = q.drawBank ∧ r.factors = q.factors ∧ r.coolWaitTimer = q.coolWaitTimer ∧
  r.coolWaitExpired = q.coolWaitExpired ∧ r.active = q.active ∧ r.staged = q.staged ∧ r.holdTime = q.holdTime

theorem SameView.place {q r : Position} (h : SameView q r) : SamePlace q r := by
  obtain ⟨h1, -, -, -, -, h2, h3, h4⟩ := h
  exact ⟨h2, h3, h4, by rw [h1], .inr h1⟩

section
variable (s : State) (p : Fin 4)

/-- A change of a position that the relations do not read, but for its valve. -/
theorem modPos_keeps (f : Position → Position) (hf : SameView (s.pos p) (f (s.pos p)))
    (hv : (f (s.pos p)).valve = (s.pos p).valve ∨ (f (s.pos p)).valve = 0) : Keeps s (s.modPos p f) := by
  have hfill := modPos_fill s p f ⟨hf.2.2.2.2.2.1, hf.2.2.2.2.2.2.1⟩
  obtain ⟨h1, h2, h3, h4, h5, -⟩ := id hf
  refine keeps_at hfill ?_ (.of_eq rfl) (by rw [modPos_pos_self]; exact hf.place) (fun hd => ?_) (.same rfl rfl rfl rfl ?_ fun _ => ?_)
  · refine plantKeeps_of_base rfl rfl (fun q => .inl ?_) rfl
    rw [modPos_pos]
    split
    · next h => subst h; exact h2
    · rfl
  · rw [modPos_pos_self]
    have hd := hd.2 p
    change DrawOk _ _ at hd
    unfold DrawOk at hd ⊢
    rw [h1, h2, h3]
    refine ⟨?_, hd.2⟩
    have := hd.1
    split
    · next h =>
      rw [if_pos h] at this
      exact ⟨this.1, by rcases hv with hv | hv <;> rw [hv]; exact this.2; exact Nat.zero_le _⟩
    · next h =>
      rw [if_neg h] at this
      exact ⟨this.1, by rcases hv with hv | hv <;> rw [hv]; exact this.2⟩
  · rw [modPos_pos_self, h1]
  · rw [modPos_pos_self, h1, h4, h5]
    tauto

/-- A change of the ACTIVE ticket in fields that no relation reads. -/
theorem modActive_keeps (f : Ticket → Ticket) (hf : ∀ k, (f k).core = k.core) : Keeps s (s.modActive p f) := by
  have hn (k : Ticket) : (f k).number = k.number := (core_eq (hf k)).1
  refine keeps_at (modActive_fill s p f hn) (modActive_plant s p f) (modActive_core s p f hf) ?_ (fun h => ?_) (.same ?_ ?_ ?_ ?_ ?_ ?_)
  · simpa using SamePlace.refl _
  · rw [modActive_pos]; exact h.2 p
  all_goals simp +contextual

/-- An operation of the compressor that keeps its relations. -/
theorem compressor_keeps {t : State} (h : CompressorOnly s t) (hp : PlantKeeps s t) : Keeps s t where
  plant := hp
  draws hd := by unfold CompressorOnly at h; rw [h]; exact hd
  slots hs := by unfold CompressorOnly at h; rw [h]; exact hs
  tickets ht := by unfold CompressorOnly at h; rw [h]; exact ht
  ledger _ hl := by unfold CompressorOnly at h; rw [h]; exact hl

theorem raise_keeps (e : EventFlag) : Keeps s (s.raise e) := compressor_keeps s rfl (raise_plant s e)

theorem setWaiting_keeps (b : Bool) : Keeps s (s.setWaiting p b) :=
  ⟨⟨setWaiting_plant s p b, id, fun _ h => h⟩, id, id⟩

theorem setFallback_keeps (t : Option Nat) : Keeps s (s.setFallback p t) := ⟨⟨modPcl_plant s _, id, fun _ h => h⟩, id, id⟩

end

end Sys2Proof.Machine
end

section
/-! PROOFS. The ends, the holds and the start sequence of a fill keep the six relations. -/

namespace Sys2Proof.Machine

/-! ### Ends and holds -/

theorem filling_busy {q : PosState} (h : q.filling = true) : q.busy = true := by simp [PosState.busy, h]

theorem filling_running {q : PosState} (h : q.filling = true) : q ≠ .ended ∧ q ≠ .closed := by
  constructor <;> rintro rfl <;> simp [PosState.filling] at h

section
variable (s : State) (p : Fin 4)

theorem enterEndingCore_plant (r : EndReason) : PlantKeeps s (s.enterEndingCore p r) := by
  unfold State.enterEndingCore
  split
  · have hv := (modActive_plant s p fun t => { t with endReason := some r }).trans
      (modPos_plant _ p (fun q => { q with valve := 0 }) fun _ => .inl rfl)
    have hd := (hv.trans (releaseDraw_plant _ p)).trans (modPcl_plant _ fun c => c.releasePosition p)
    exact (hd.trans (setWaiting_plant _ p false)).trans (modPos_plant _ p _ fun _ => .inl rfl)
  · exact .refl s

theorem enterEndingCore_keeps (r : EndReason) : Keeps s (s.enterEndingCore p r) := by
  cases h : (s.pos p).state.filling with
  | false => rw [enterEndingCore_idle h]; exact .refl s
  | true =>
    have hpos := enterEndingCore_pos h r
    refine keeps_at (enterEndingCore_fill s p r) (enterEndingCore_plant s p r) ?_ ?_ (fun hd => ?_) ⟨⟨?_, ?_, ?_⟩, ?_, ?_⟩
    · rw [enterEndingCore_eq h]
      exact modActive_core s p _ fun _ => rfl
    · rw [hpos]
      exact ⟨rfl, rfl, rfl, by rw [filling_busy h]; rfl, .inl (filling_running h)⟩
    · rw [hpos]
      have hcom : s.commissioned = true := by
        by_contra hn
        have := (hd.2 p).2.2 (by simpa using hn)
        simp [this, PosState.filling] at h
      simp [DrawOk, endedPosition, hcom]
    all_goals rw [enterEndingCore_eq h]
    · intro q hq
      have : (s.precool.holders.put p false).has q = true := hq
      rw [PosSet.has_put] at this
      split at this <;> simp_all
    · intro q hq; rfl
    · exact List.erase_sublist
    · intro hs hp
      exact absurd hp fun hp => ((List.Nodup.mem_erase_iff hs.2.1).1 hp).1 rfl
    · intro hs hp
      have : (s.precool.holders.put p false).has p = true := hp
      simp [PosSet.has_put] at this

theorem enterHeld_plant : PlantKeeps s (s.enterHeld p) := by
  unfold State.enterHeld
  have hd := (modPos_plant s p (fun q => { q with valve := 0 }) fun _ => .inl rfl).trans (releaseDraw_plant _ p)
  have hf := hd.trans (modPcl_plant _ fun q => { q with fallback := setAt q.fallback p none })
  refine .trans ?_ (raise_plant _ _)
  exact hf.trans (modPos_plant _ p _ fun _ => .inl rfl)

theorem putFactor_plant (f : Factor) (b : Bool) : PlantKeeps s (s.putFactor p f b) := modPos_plant s p _ fun _ => .inl rfl

/-- R113: entry into HELD from FUELLING or from the end of the start sequence, whatever factors have joined. -/
theorem fillHolds_keeps {t : State} {fs : FactorSet} (h : fillHolds s t p fs) (hp : PlantKeeps s t)
    (hf : (s.pos p).state.filling = true) (hw : slotsHeld s → p ∉ s.precool.waitQueue) : Keeps s t := by
  unfold fillHolds at h
  have hpos : t.pos p = heldPosition (s.pos p) fs := by rw [h]; exact get_setAt_self _ _ _
  refine keeps_at (p := p) ?_ hp (.of_eq (by rw [h])) ?_ (fun hd => ?_) ?_
  · refine ⟨by rw [h]; rfl, by rw [h], fun q hq => ?_, fun q => ?_, fun q _ => by rw [h], fun q hq => ?_, fun i => by rw [h],
      fun i k hk _ => by rw [h]; exact hk, fun e he => ?_⟩
    · rw [h]; exact get_setAt_ne _ _ hq
    · by_cases hq : q = p
      · subst hq; rw [hpos]; exact ⟨rfl, rfl⟩
      · have : t.pos q = s.pos q := by rw [h]; exact get_setAt_ne _ _ hq
        rw [this]; exact ⟨rfl, rfl⟩
    · rw [h]; exact get_setAt_ne _ _ hq
    · have hr := (releaseDraw_fill s p).flags e he
      rw [h]
      simp only [State.flagPending, BitVec.getLsbD_or, Bool.or_eq_true]
      exact .inl hr
  · rw [hpos]
    exact ⟨rfl, rfl, rfl, by rw [filling_busy hf]; rfl, .inl (filling_running hf)⟩
  · rw [hpos]
    have hcom : s.commissioned = true := by
      by_contra hn
      have := (hd.2 p).2.2 (by simpa using hn)
      simp [this, PosState.filling] at hf
    simp [DrawOk, heldPosition, hcom]
  · refine .notWaiting (by rw [h]) (by rw [h]) (fun q _ => by rw [h]; rfl) (fun _ => ?_) hw
    rw [hpos]; rfl

theorem enterHeld_keeps (hf : (s.pos p).state.filling = true) (hw : slotsHeld s → p ∉ s.precool.waitQueue) :
    Keeps s (s.enterHeld p) := fillHolds_keeps s p (enterHeld_eq s p) (enterHeld_plant s p) hf hw

theorem putFactor_enterHeld_keeps (f : Factor) (hf : (s.pos p).state.filling = true)
    (hw : slotsHeld s → p ∉ s.precool.waitQueue) : Keeps s ((s.putFactor p f true).enterHeld p) :=
  fillHolds_keeps s p (putFactor_enterHeld_eq s p f) ((putFactor_plant s p f true).trans (enterHeld_plant _ p)) hf hw

/-! ### Factors -/

/-- A position changes its factors or its release condition within STARTING or within HELD. -/
theorem modPos_keeps_factors (f : Position → Position)
    (hf : ∀ q, (f q).drawBank = q.drawBank ∧ (f q).valve = q.valve ∧ (f q).coolWaitTimer = q.coolWaitTimer ∧
      (f q).coolWaitExpired = q.coolWaitExpired ∧ (f q).active = q.active ∧ (f q).staged = q.staged ∧
      (f q).holdTime = q.holdTime)
    (hst : (∃ sub, (s.pos p).state = .starting sub ∧ (f (s.pos p)).state = .starting sub) ∨
      (s.pos p).state.isHeld = true ∧ ∃ r, (f (s.pos p)).state = .held r ∧
        (r = .factorWait ∨ (drawsKept s → (f (s.pos p)).factors = .empty))) :
    Keeps s (s.modPos p f) := by
  obtain ⟨hdb, hv, hct, hce, ha, hs, hh⟩ := hf (s.pos p)
  have hfill : (s.pos p).state.filling = true ∧ (f (s.pos p)).state.filling = true := by
    rcases hst with ⟨sub, h, k⟩ | ⟨h, r, k, -⟩
    · rw [h, k]; exact ⟨rfl, rfl⟩
    · rw [k]
      cases hp : (s.pos p).state <;> simp_all [PosState.isHeld, PosState.filling]
  refine keeps_at (modPos_fill s p f ⟨ha, hs⟩) (modPos_plant s p f fun q => .inl (hf q).1) (.of_eq rfl) ?_ (fun hd => ?_) ?_
  · rw [modPos_pos_self]
    exact ⟨ha, hs, hh, by rw [filling_busy hfill.1, filling_busy hfill.2], .inl (filling_running hfill.1)⟩
  · rw [modPos_pos_self]
    have hfac : (s.pos p).state.isHeld = true → ∀ r, (f (s.pos p)).state = .held r →
        (r = .factorWait ∨ (drawsKept s → (f (s.pos p)).factors = .empty)) → DrawOk s.commissioned (f (s.pos p)) := by
      intro hheld r hr hx
      have hk := hd.2 p
      change DrawOk _ _ at hk
      have hcom : s.commissioned = true := by
        by_contra hn
        have := hk.2.2 (by simpa using hn)
        simp [this, PosState.isHeld] at hheld
      have hnd : ¬((s.pos p).state = .fuelling ∨ (s.pos p).state = .starting .pulse) := by
        rintro (h | h) <;> simp [h, PosState.isHeld] at hheld
      have h1 := hk.1
      rw [if_neg hnd] at h1
      unfold DrawOk
      rw [hdb, hv, hr]
      refine ⟨by simpa using h1, fun h => ?_, by simp [hcom]⟩
      rcases hx with rfl | hx
      · simp at h
      · exact hx hd
    rcases hst with ⟨sub, h, k⟩ | ⟨h, r, k, hx⟩
    · have hk := hd.2 p
      change DrawOk _ _ at hk
      unfold DrawOk at hk ⊢
      rw [hdb, hv, k]
      rw [h] at hk
      exact ⟨hk.1, by simp, hk.2.2⟩
    · exact hfac h r k hx
  · refine .same rfl rfl rfl rfl ?_ fun hw => ?_
    · rw [modPos_pos_self]
      rcases hst with ⟨sub, h, k⟩ | ⟨h, r, k, -⟩
      · rw [h, k]
      · rw [k]
        cases hp : (s.pos p).state <;> simp_all [PosState.isHeld, PosState.filling]
    · rw [modPos_pos_self]
      rcases hst with ⟨sub, h, k⟩ | ⟨h, r, k, -⟩
      · rw [h, k, hct, hce]
        exact ⟨rfl, rfl, fun e => .inl ⟨e, rfl⟩⟩
      · cases hp : (s.pos p).state <;> simp_all [PosState.isHeld, PosState.isStarting]

theorem activateCore_keeps (f : Factor) : Keeps s (s.activateCore p f) := by
  rcases activateCore_cases s p f with h | ⟨-, ⟨sub, hs, h⟩ | ⟨r, -, h⟩ | ⟨hs, -, h⟩ | ⟨hs, h⟩⟩ <;> rw [h]
  · exact .refl s
  · exact modPos_keeps_factors s p _ (fun _ => ⟨rfl, rfl, rfl, rfl, rfl, rfl, rfl⟩) (.inl ⟨sub, hs, hs⟩)
  · exact enterEndingCore_keeps s p r
  · exact putFactor_enterHeld_keeps s p f (by rw [hs]; rfl) (notWaiting_of_state (by rw [hs]; rfl))
  · exact modPos_keeps_factors s p _ (fun _ => ⟨rfl, rfl, rfl, rfl, rfl, rfl, rfl⟩) (.inr ⟨hs, .factorWait, rfl, .inl rfl⟩)

theorem bankLowCore_keeps : Keeps s (s.bankLowCore p) := by
  unfold State.bankLowCore
  dsimp only
  split
  · exact (activateCore_keeps s p _).trans (setWaiting_keeps _ p _)
  · exact activateCore_keeps s p _

theorem put_empty (f : Factor) : FactorSet.empty.put f false = .empty := by cases f <;> rfl

/-- R112, R115: the clearing of a factor keeps the relations. -/
theorem clearFactor_keeps (f : Factor) : Keeps s (s.clearFactor p f) := by
  cases hf : (s.pos p).factors.has f with
  | false =>
    have : s.clearFactor p f = s := by simp [State.clearFactor, hf]
    rw [this]; exact .refl s
  | true =>
    rw [clearFactor_eq]
    have hview : ∀ q, (clearedPosition (s.cfg p) q f).drawBank = q.drawBank ∧ (clearedPosition (s.cfg p) q f).valve = q.valve ∧
        (clearedPosition (s.cfg p) q f).coolWaitTimer = q.coolWaitTimer ∧
        (clearedPosition (s.cfg p) q f).coolWaitExpired = q.coolWaitExpired ∧
        (clearedPosition (s.cfg p) q f).active = q.active ∧ (clearedPosition (s.cfg p) q f).staged = q.staged ∧
        (clearedPosition (s.cfg p) q f).holdTime = q.holdTime := by
      intro q; unfold clearedPosition; dsimp only; repeat' split
      all_goals exact ⟨rfl, rfl, rfl, rfl, rfl, rfl, rfl⟩
    cases hs : (s.pos p).state with
    | starting sub =>
      refine modPos_keeps_factors s p _ hview (.inl ⟨sub, hs, ?_⟩)
      simp [clearedPosition, hs]
    | held rel =>
      refine modPos_keeps_factors s p _ hview (.inr ⟨by rw [hs]; rfl, ?_⟩)
      unfold clearedPosition
      dsimp only
      split
      · next h => split
                  · exact ⟨.demandWait, rfl, .inr fun _ => h.2.2⟩
                  · exact ⟨.delay, rfl, .inr fun _ => h.2.2⟩
      · refine ⟨rel, hs, ?_⟩
        cases rel with
        | factorWait => exact .inl rfl
        | delay | demandWait =>
          refine .inr fun hd => ?_
          have : (s.pos p).factors = .empty := (hd.2 p).2.1 (by simp [hs])
          simp [this, put_empty]
    | fuelling | closed | idle | calling | ending | ended =>
      have e : clearedPosition (s.cfg p) (s.pos p) f = { s.pos p with factors := (s.pos p).factors.put f false } := by
        simp [clearedPosition, hs]
      refine keeps_at (modPos_fill s p _ (by simp)) (modPos_plant s p _ fun q => .inl (hview q).1) (.of_eq rfl) ?_ (fun hd => ?_) ?_
      · rw [modPos_pos_self, e]; exact ⟨rfl, rfl, rfl, rfl, .inr rfl⟩
      · rw [modPos_pos_self, e]
        have hk := hd.2 p
        change DrawOk _ _ at hk
        refine ⟨hk.1, fun h => ?_, hk.2.2⟩
        have := hk.2.1 h
        change (s.pos p).factors.put f false = _
        rw [this, put_empty]
      · refine .same rfl rfl rfl rfl ?_ fun hw => ?_
        · rw [modPos_pos_self, e]
        · simp [hs, PosState.isStarting] at hw

theorem recordProfile_keeps (i : Fin 16) (g : Option Grade) (m : CommMode) : Keeps s (s.recordProfile p i g m) :=
  modActive_keeps s p _ fun _ => rfl

theorem relookup_keeps {t : State} (g : Option Grade) (m : CommMode) (h : s.relookup p g m = some t) : Keeps s t := by
  rcases relookup_cases s p g m with ⟨-, hn⟩ | ⟨i, f, -, hs⟩
  · simp [hn] at h
  · obtain rfl := Option.some.inj (hs.symm.trans h)
    exact ((modPos_keeps s p _ ⟨rfl, rfl, rfl, rfl, rfl, rfl, rfl, rfl⟩ (.inl rfl)).trans (recordProfile_keeps _ p _ _ _)).trans
      (clearFactor_keeps _ p _)

theorem relookupWarm_keeps : Keeps s (s.relookupWarm p) := by
  unfold State.relookupWarm
  split
  · next t h => exact relookup_keeps s p _ _ h
  · exact activateCore_keeps s p _

theorem relookupNonComm_keeps : Keeps s (s.relookupNonComm p) := by
  unfold State.relookupNonComm
  split
  · next t h => exact relookup_keeps s p _ _ h
  · exact enterEndingCore_keeps s p _

/-! ### From the settle time to FUELLING -/

/-- R57 (6): entry into FUELLING with no active factor, of a position that does not wait for a slot. -/
theorem enterFuelling_keeps (b : Fin 6) (hf : (s.pos p).state.filling = true) (hv : (s.pos p).valve ≤ 1000)
    (he : drawsKept s → (s.pos p).factors = .empty) (hw : slotsHeld s → p ∉ s.precool.waitQueue) :
    Keeps s (s.enterFuelling p b) := by
  have hpos : (s.enterFuelling p b).pos p =
      { s.pos p with
        state := .fuelling, drawBank := some b, substateTimer := none, coolWaitTimer := none
        ramp := { (s.pos p).ramp with stepTimer := some Config.stepTime } } := by
    simp [State.enterFuelling, joinBank_pos]
  refine keeps_at (enterFuelling_fill s p b) ((joinBank_plant s p b).trans (modPos_plant _ p _ fun _ => .inl rfl))
    (.of_eq (by simp [State.enterFuelling, joinBank_eq])) ?_ (fun hd => ?_) ?_
  · rw [hpos]
    exact ⟨rfl, rfl, rfl, by rw [filling_busy hf]; rfl, .inl (filling_running hf)⟩
  · rw [hpos]
    have hcom : s.commissioned = true := by
      by_contra hn
      have := (hd.2 p).2.2 (by simpa using hn)
      simp [this, PosState.filling] at hf
    simp [DrawOk, hcom, hv, he hd]
  · refine .notWaiting ?_ ?_ (fun q _ => ?_) (fun _ => by rw [hpos]; rfl) hw
    all_goals simp [State.enterFuelling, State.grade]

theorem startWithoutBank_keeps (hf : (s.pos p).state.filling = true) (hw : slotsHeld s → p ∉ s.precool.waitQueue) :
    Keeps s (s.startWithoutBank p) := by
  unfold State.startWithoutBank
  split
  · exact enterEndingCore_keeps s p _
  · exact (putFactor_enterHeld_keeps s p _ hf hw).trans (setWaiting_keeps _ p _)

theorem beginFill_keeps (i : Fin 16) (f : FillProfile) (pInit : Nat) (hf : (s.pos p).state.filling = true)
    (hw : slotsHeld s → p ∉ s.precool.waitQueue) : Keeps s (s.beginFill p i f pInit) := by
  unfold State.beginFill
  dsimp only
  set u := (s.recordProfile p i (s.grade p) (s.pos p).commMode).modPos p fun q =>
    { q with valve := 0, ramp := q.ramp.onProfile i f (10 * pInit) } with hu
  have h : Keeps s u := (recordProfile_keeps s p i _ _).trans
    (modPos_keeps _ p _ ⟨rfl, rfl, rfl, rfl, rfl, rfl, rfl, rfl⟩ (.inr rfl))
  have hst : (u.pos p).state.filling = true := by simpa [hu, State.recordProfile] using hf
  have hv : (u.pos p).valve ≤ 1000 := by simp [hu]
  have hq : slotsHeld u → p ∉ u.precool.waitQueue := by
    intro hs
    have hb : slotsHeld s := by
      have e : u.precool = s.precool := by simp [hu, State.recordProfile]
      have e1 : u.site = s.site := by simp [hu, State.recordProfile]
      have e2 : u.commissioned = s.commissioned := by simp [hu, State.recordProfile]
      have ec (q : Fin 4) : u.cfg q = s.cfg q := by simp [hu, State.recordProfile]
      have ep (q : Fin 4) : (u.pos q).state = (s.pos q).state ∧ (u.pos q).coolWaitExpired = (s.pos q).coolWaitExpired ∧
          (u.pos q).coolWaitTimer = (s.pos q).coolWaitTimer := by
        rw [hu, modPos_pos]
        split
        · next h => subst h; simp [State.recordProfile]
        · simp [State.recordProfile]
      unfold slotsHeld Waits State.grade at *
      simpa only [e, e1, e2, ec, ep] using hs
    simpa [hu, State.recordProfile] using hw hb
  split
  · exact h.trans (enterEndingCore_keeps _ p _)
  · split
    · next he =>
      split
      · exact h.trans (enterFuelling_keeps _ p _ hst hv (fun _ => (FactorSet.isEmpty_iff _).1 he) hq)
      · exact h.trans (startWithoutBank_keeps _ p hst hq)
    · exact h.trans (enterHeld_keeps _ p hst hq)

theorem startLookupCore_keeps (hf : (s.pos p).state.filling = true) (hw : slotsHeld s → p ∉ s.precool.waitQueue) :
    Keeps s (s.startLookupCore p) := by
  unfold State.startLookupCore
  dsimp only
  split
  · exact enterEndingCore_keeps s p _
  split
  · exact enterEndingCore_keeps s p _
  · exact beginFill_keeps s p _ _ _ hf hw

/-- A position in its start sequence, past the pulse, moves on to another substate past the pulse. -/
theorem modPos_keeps_substate (f : Position → Position) {sub sub' : Substate} (hs : (s.pos p).state = .starting sub)
    (hsub : sub ≠ .pulse) (hf : (f (s.pos p)).state = .starting sub') (hsub' : sub' ≠ .pulse)
    (hview : ∀ q, (f q).drawBank = q.drawBank ∧ (f q).valve = q.valve ∧ (f q).factors = q.factors ∧
      (f q).coolWaitExpired = q.coolWaitExpired ∧ (f q).active = q.active ∧ (f q).staged = q.staged ∧ (f q).holdTime = q.holdTime)
    (hw : slotsHeld s → p ∈ s.precool.waitQueue → sub' = .coolWait → (f (s.pos p)).coolWaitTimer.isSome = true) :
    Keeps s (s.modPos p f) := by
  obtain ⟨hdb, hv, hfa, hce, ha, hst, hh⟩ := hview (s.pos p)
  refine keeps_at (modPos_fill s p f ⟨ha, hst⟩) (modPos_plant s p f fun q => .inl (hview q).1) (.of_eq rfl) ?_ (fun hd => ?_) ?_
  · rw [modPos_pos_self]
    exact ⟨ha, hst, hh, by rw [hs, hf]; rfl, .inl (by simp [hs])⟩
  · rw [modPos_pos_self]
    have hk := hd.2 p
    change DrawOk _ _ at hk
    unfold DrawOk at hk ⊢
    rw [hf, hdb, hv]
    rw [hs] at hk
    simpa [hsub, hsub'] using hk
  · refine ⟨.of_eq rfl rfl fun _ _ => rfl, fun hk hp => ?_, fun hk hp => ?_⟩
    · obtain ⟨-, w2, w3, w4, w5, -⟩ := hk.2.2.1 p hp
      refine ⟨by rw [modPos_pos_self, hf]; rfl, w2, w3, w4, by rw [modPos_pos_self, hce, w5], fun e => ?_⟩
      rw [modPos_pos_self] at e ⊢
      exact hw hk hp (by rw [hf] at e; injection e)
    · rw [modPos_pos_self, hf]; rfl

theorem slotsHeld_congr {s t : State} (hpc : t.precool = s.precool) (hsite : t.site = s.site) (hcom : t.commissioned = s.commissioned)
    (hcfg : ∀ q, t.cfg q = s.cfg q) (hp : ∀ q, (t.pos q).state = (s.pos q).state ∧ (t.pos q).coolWaitExpired = (s.pos q).coolWaitExpired ∧
      (t.pos q).coolWaitTimer = (s.pos q).coolWaitTimer) : slotsHeld t ↔ slotsHeld s := by
  unfold slotsHeld Waits State.grade
  simp only [hpc, hsite, hcom, hcfg, hp]

theorem enterCoolWaitCore_keeps {sub : Substate} (hs : (s.pos p).state = .starting sub) (hsub : sub ≠ .pulse) :
    Keeps s (s.enterCoolWaitCore p) := by
  unfold State.enterCoolWaitCore
  dsimp only
  split
  · next hc =>
    simp only [modPos_cfg, modPos_precool, modPos_pos_self, Bool.or_eq_true, Bool.not_eq_true'] at hc
    have hw : slotsHeld s → p ∉ s.precool.waitQueue := fun h hp => by
      obtain ⟨-, w2, w3, -, w5, -⟩ := h.2.2.1 p hp
      simp [w2, w3, w5] at hc
    have hk : Keeps s (s.modPos p fun q => { q with state := .starting .coolWait, substateTimer := none }) :=
      modPos_keeps_substate s p _ hs hsub rfl (by simp) (fun _ => ⟨rfl, rfl, rfl, rfl, rfl, rfl, rfl⟩)
        fun h hp => absurd hp (hw h)
    refine hk.trans (startLookupCore_keeps _ p (by rw [modPos_pos_self]; rfl) fun h hp => ?_)
    obtain ⟨-, w2, w3, -, w5, -⟩ := h.2.2.1 p hp
    simp only [modPos_cfg, modPos_precool, modPos_pos_self] at w2 w3 w5
    simp [w2, w3, w5] at hc
  · rw [modPos_modPos]
    exact modPos_keeps_substate s p _ hs hsub rfl (by simp) (fun _ => ⟨rfl, rfl, rfl, rfl, rfl, rfl, rfl⟩)
      fun _ _ _ => rfl

theorem modLink_keeps (f : LinkContext → LinkContext) : Keeps s (s.modLink p f) :=
  modPos_keeps s p _ ⟨rfl, rfl, rfl, rfl, rfl, rfl, rfl, rfl⟩ (.inl rfl)

theorem vehicleChecksCore_keeps {sub : Substate} (hs : (s.pos p).state = .starting sub) (hsub : sub ≠ .pulse) :
    Keeps s (s.vehicleChecksCore p) := by
  unfold State.vehicleChecksCore
  dsimp only
  set u := if (s.pos p).link.state = .listen then s.modLink p fun l => l.fail .lost else s with hu
  have hk : Keeps s u ∧ (u.pos p).state = .starting sub := by
    rw [hu]; split
    · exact ⟨modLink_keeps s p _, by simpa [State.modLink] using hs⟩
    · exact ⟨.refl s, hs⟩
  split
  · exact hk.1.trans (enterEndingCore_keeps _ p _)
  · exact hk.1.trans (enterCoolWaitCore_keeps _ p hk.2 hsub)

theorem leaveSettleCore_keeps {sub : Substate} (hs : (s.pos p).state = .starting sub) (hsub : sub ≠ .pulse) :
    Keeps s (s.leaveSettleCore p) := by
  unfold State.leaveSettleCore
  split
  · exact vehicleChecksCore_keeps s p hs hsub
  · exact modPos_keeps_substate s p _ hs hsub rfl (by simp) (fun _ => ⟨rfl, rfl, rfl, rfl, rfl, rfl, rfl⟩)
      fun _ _ h => by simp at h

theorem advanceCore_keeps : Keeps s (s.advanceCore p) := by
  unfold State.advanceCore
  dsimp only
  split
  · next h => split
              · exact leaveSettleCore_keeps s p h (by simp)
              · exact .refl s
  · next h => split
              · exact vehicleChecksCore_keeps s p h (by simp)
              · exact .refl s
  · next h =>
    split
    · next ht =>
      refine startLookupCore_keeps s p (by rw [h]; rfl) fun hs hp => ?_
      have := (hs.2.2.1 p hp).2.2.2.2.2 h
      simp_all
    · exact .refl s
  all_goals exact .refl s

theorem advanceUnlessHalted_keeps : Keeps s (s.advanceUnlessHalted p) := by
  unfold State.advanceUnlessHalted
  split
  · exact .refl s
  · exact advanceCore_keeps s p

theorem endCoolWaitCore_keeps (hw : slotsHeld s → p ∉ s.precool.waitQueue) : Keeps s (s.endCoolWaitCore p) := by
  unfold State.endCoolWaitCore
  split
  · next h =>
    refine .trans ?_ (advanceUnlessHalted_keeps _ p)
    exact modPos_keeps_substate s p _ h (by simp) h (by simp) (fun _ => ⟨rfl, rfl, rfl, rfl, rfl, rfl, rfl⟩)
      fun hs hp => absurd hp (hw hs)
  · exact .refl s

/-! ### Grants -/

theorem PosSet.size_put_le (a : PosSet) (p : Fin 4) : (a.put p true).size ≤ a.size + 1 := by
  obtain ⟨x, y, z, w⟩ := a
  match p with
  | 0 | 1 | 2 | 3 => cases x <;> cases y <;> cases z <;> cases w <;> decide

/-- R162: a grant to a waiter while a slot is free. -/
theorem grantSlot_keeps (hq : p ∈ s.precool.waitQueue) (hf : s.slotFree = true) : Keeps s (s.grantSlot p) where
  plant := modPcl_plant s _
  draws := id
  tickets := id
  ledger _ h := h
  slots h := by
    obtain ⟨hsz, hnd, hw, hfl, hcom⟩ := h
    obtain ⟨w1, -⟩ := hw p hq
    have hfree : s.precool.holders.size < s.site.slotCount := by
      simp only [State.slotFree, Bool.and_eq_true, decide_eq_true_eq] at hf; exact hf.2
    refine ⟨(PosSet.size_put_le _ p).trans hfree, hnd.erase p, fun q hq' => ?_, fun q hh => ?_, fun hc => ?_⟩
    · obtain ⟨hne, hmem⟩ := (List.Nodup.mem_erase_iff hnd).1 hq'
      obtain ⟨v1, v2, v3, v4, v5⟩ := hw q hmem
      refine ⟨v1, v2, ?_, ?_, v5⟩
      · change (s.precool.holders.put p true).has q = false
        rw [PosSet.has_put, if_neg hne, v3]
      · change (setAt s.precool.grades p _).get q = none
        rw [get_setAt_ne _ _ hne]; exact v4
    · change (s.precool.holders.put p true).has q = true at hh
      rw [PosSet.has_put] at hh
      split at hh
      · next e =>
        subst e
        cases hx : (s.pos q).state <;> simp_all [PosState.isStarting]
        change (s.pos q).state.filling = true
        rw [hx]; rfl
      · exact hfl q hh
    · have := (hcom hc).2
      rw [this] at hq
      simp at hq

end

/-- R162: the grants of one event keep the relations. -/
theorem makeGrants_keeps (s : State) : Keeps s s.makeGrants := by
  refine makeGrants_induction (C := Keeps) (fun s _ => .refl s) (fun s p rest t hq hf h => ?_) s
  have hp : p ∈ s.precool.waitQueue := by simp [hq]
  refine ((grantSlot_keeps s p hp hf).trans (endCoolWaitCore_keeps _ p fun hs hm => ?_)).trans h
  have := (hs.2.2.1 p hm).2.2.1
  have e : (s.precool.holders.put p true).has p = false := this
  simp [PosSet.has_put] at e

end Sys2Proof.Machine
end

section
/-! PROOFS. The events of a position, with the grants that they call for, keep the six relations: the start test, the displacement
by an isolation, the control step, the holds, the vehicle link and the chiller. -/

namespace Sys2Proof.Machine

/-! ### Whole events -/

/-- What a whole event keeps: the six relations, and with those of the cooling slots that no grant is due. -/
structure Acts (s t : State) : Prop extends Keeps s t where
  grants : slotsKept s → noGrantDue t

namespace Acts
variable {s t u : State}

theorem refl (s : State) : Acts s s := ⟨.refl s, fun h => ((slotsKept_iff s).1 h).2⟩

theorem slotsKept (h : Acts s t) (hs : slotsKept s) : slotsKept t :=
  (slotsKept_iff t).2 ⟨h.slots ((slotsKept_iff s).1 hs).1, h.grants hs⟩

theorem trans (h : Acts s t) (k : Acts t u) : Acts s u :=
  ⟨h.toKeeps.trans k.toKeeps, fun hs => k.grants (h.slotsKept hs)⟩

theorem foldl {α : Type} (f : State → α → State) (h : ∀ s a, Acts s (f s a)) (l : List α) (s : State) : Acts s (l.foldl f s) := by
  induction l generalizing s with
  | nil => exact refl s
  | cons a l ih => exact (h s a).trans (ih _)

end Acts

/-- The grants that follow an event leave none due. -/
theorem Keeps.makeGrants {s t : State} (h : Keeps s t) : Acts s t.makeGrants :=
  ⟨h.trans (makeGrants_keeps t), fun _ => makeGrants_noGrantDue t⟩

/-- Whether a grant is due depends on the chiller, the slots, the holders and the waiters. -/
theorem noGrantDue_congr {s t : State} (hc : t.precool.chiller = s.precool.chiller) (hh : t.precool.holders = s.precool.holders)
    (hq : t.precool.waitQueue = s.precool.waitQueue) (hs : t.site.slotCount = s.site.slotCount) :
    noGrantDue t ↔ noGrantDue s := by
  simp [noGrantDue, State.slotFree, hc, hh, hq, hs]

/-- An event that does not touch the cooling slots calls for no grants. -/
theorem Keeps.acts {s t : State} (h : Keeps s t) (hc : t.precool.chiller = s.precool.chiller)
    (hh : t.precool.holders = s.precool.holders) (hq : t.precool.waitQueue = s.precool.waitQueue)
    (hs : t.site.slotCount = s.site.slotCount) : Acts s t :=
  ⟨h, fun hk => (noGrantDue_congr hc hh hq hs).2 ((slotsKept_iff s).1 hk).2⟩

/-- An operation of the compressor that keeps its relations. -/
theorem compressor_acts {s t : State} (h : CompressorOnly s t) (hp : PlantKeeps s t) : Acts s t := by
  refine (compressor_keeps s h hp).acts ?_ ?_ ?_ ?_ <;> (unfold CompressorOnly at h; rw [h])

section
variable (s : State) (p : Fin 4)

theorem endFill_acts (r : EndReason) : Acts s (s.endFill p r) := (enterEndingCore_keeps s p r).makeGrants

theorem activate_acts (f : Factor) : Acts s (s.activate p f) := (activateCore_keeps s p f).makeGrants

@[simp] theorem clearFactor_precool (f : Factor) : (s.clearFactor p f).precool = s.precool := by rw [clearFactor_eq]; rfl
@[simp] theorem clearFactor_site (f : Factor) : (s.clearFactor p f).site = s.site := by rw [clearFactor_eq]; rfl

theorem clearFactor_acts (f : Factor) : Acts s (s.clearFactor p f) :=
  (clearFactor_keeps s p f).acts (by simp) (by simp) (by simp) (by simp)

theorem raise_acts (e : EventFlag) : Acts s (s.raise e) := (raise_keeps s e).acts rfl rfl rfl rfl

theorem modPos_acts (f : Position → Position) (hf : SameView (s.pos p) (f (s.pos p)))
    (hv : (f (s.pos p)).valve = (s.pos p).valve ∨ (f (s.pos p)).valve = 0) : Acts s (s.modPos p f) :=
  (modPos_keeps s p f hf hv).acts rfl rfl rfl rfl

theorem modActive_acts (f : Ticket → Ticket) (hf : ∀ k, (f k).core = k.core) : Acts s (s.modActive p f) :=
  (modActive_keeps s p f hf).acts (by simp) (by simp) (by simp) (by simp)

/-! ### Drawing on a bank -/

@[simp] theorem releaseDraw_tickets : (s.releaseDraw p).tickets = s.tickets := by rw [releaseDraw_eq]
@[simp] theorem joinBank_tickets (b : Fin 6) : (s.joinBank p b).tickets = s.tickets := by rw [joinBank_eq]

/-- A state that differs from another in the draw bank of one position, the compressor and the flags alone: the position has left
its draw set, and the report may have been made. -/
structure DrawMoved (p : Fin 4) (s u : State) : Prop where
  fill : FillOnly p s u
  plant : PlantKeeps s u
  tickets : u.tickets = s.tickets
  pos : ∃ d, u.pos p = { s.pos p with drawBank := d }
  precool : u.precool = s.precool

theorem DrawMoved.refl : DrawMoved p s s := ⟨.refl _ s, .refl s, rfl, ⟨_, rfl⟩, rfl⟩

theorem leaveBank_pos : (s.leaveBank p).pos p = { s.pos p with drawBank := none } := modPos_pos_self s p _

theorem leaveBank_moved : DrawMoved p s (s.leaveBank p) :=
  ⟨leaveBank_fill s p, leaveBank_plant s p, rfl, ⟨none, leaveBank_pos s p⟩, rfl⟩

variable {s p} in
theorem DrawMoved.report {u : State} (h : DrawMoved p s u) (b : Option (Fin 6)) : DrawMoved p s (u.reportLeft b) :=
  have k := reportLeft_only u b
  ⟨h.fill.trans (reportLeft_fills u _ b), h.plant.trans (reportLeft_plant u b), k.tickets.trans h.tickets,
    by rw [k.pos]; exact h.pos, k.precool.trans h.precool⟩

section
variable {s u : State} {p : Fin 4}

theorem DrawMoved.state (h : DrawMoved p s u) : (u.pos p).state = (s.pos p).state := by
  obtain ⟨d, h⟩ := h.pos; rw [h]

theorem DrawMoved.slots (h : DrawMoved p s u) : slotsHeld u ↔ slotsHeld s := by
  refine slotsHeld_congr h.precool h.fill.site h.fill.commissioned h.fill.cfg fun q => ?_
  by_cases hq : q = p
  · subst hq
    obtain ⟨d, hd⟩ := h.pos
    rw [hd]; exact ⟨rfl, rfl, rfl⟩
  · rw [h.fill.pos q hq]; exact ⟨rfl, rfl, rfl⟩

theorem DrawMoved.place (h : DrawMoved p s u) : SamePlace (s.pos p) (u.pos p) := by
  obtain ⟨d, hd⟩ := h.pos
  rw [hd]; exact ⟨rfl, rfl, rfl, rfl, .inr rfl⟩

/-- R130: leaving a draw set keeps all but the relation on the draws. -/
theorem DrawMoved.flow (h : DrawMoved p s u) : Flow s u := flow_at h.fill h.plant (.of_eq h.tickets) h.place

theorem DrawMoved.noGrantDue (h : DrawMoved p s u) : noGrantDue u ↔ noGrantDue s :=
  noGrantDue_congr (by rw [h.precool]) (by rw [h.precool]) (by rw [h.precool]) (by rw [h.fill.site])

/-- A position in a fill draws on a bank, in FUELLING or in PULSE. -/
theorem draw_keeps (hu : DrawMoved p s u) (b : Fin 6) (f : Position → Position)
    (hf : ∀ q, (f q).drawBank = q.drawBank ∧ (f q).active = q.active ∧ (f q).staged = q.staged ∧ (f q).holdTime = q.holdTime)
    (hfill : (s.pos p).state.filling = true)
    (hst : (f { s.pos p with drawBank := some b }).state = .fuelling ∨
      (s.pos p).state = .starting .pulse ∧ (f { s.pos p with drawBank := some b }).state = .starting .pulse)
    (hv : drawsKept s → (f { s.pos p with drawBank := some b }).valve ≤ 1000)
    (he : drawsKept s → (f { s.pos p with drawBank := some b }).state = .fuelling →
      (f { s.pos p with drawBank := some b }).factors = .empty)
    (hce : (f { s.pos p with drawBank := some b }).coolWaitExpired = (s.pos p).coolWaitExpired)
    (hw : (f { s.pos p with drawBank := some b }).state = .fuelling → slotsHeld s → p ∉ s.precool.waitQueue) :
    Keeps s ((u.joinBank p b).modPos p f) := by
  have hpos : ((u.joinBank p b).modPos p f).pos p = f { s.pos p with drawBank := some b } := by
    obtain ⟨d, hd⟩ := hu.pos
    rw [modPos_pos_self, joinBank_pos, if_pos rfl, hd]
  obtain ⟨hdb, ha, hs, hh⟩ := hf { s.pos p with drawBank := some b }
  have hfill' : (f { s.pos p with drawBank := some b }).state.filling = true := by
    rcases hst with h | ⟨-, h⟩ <;> rw [h] <;> rfl
  have honly : FillOnly p s ((u.joinBank p b).modPos p f) :=
    (hu.fill.trans (joinBank_fill u p b)).trans (modPos_fill _ p f ⟨(hf _).2.1, (hf _).2.2.1⟩)
  refine keeps_at honly ((hu.plant.trans (joinBank_plant u p b)).trans (modPos_plant _ p f fun q => .inl (hf q).1))
    (.of_eq (by simp [hu.tickets])) ?_ (fun hd => ?_) ?_
  · rw [hpos]
    exact ⟨ha, hs, hh, by rw [filling_busy hfill, filling_busy hfill'], .inl (filling_running hfill)⟩
  · rw [hpos]
    have hcom : s.commissioned = true := by
      by_contra hn
      have := (hd.2 p).2.2 (by simpa using hn)
      simp [this, PosState.filling] at hfill
    refine ⟨?_, fun h => ?_, by simp [hcom]⟩
    · rw [if_pos (by tauto), hdb]
      exact ⟨rfl, hv hd⟩
    · rcases hst with h' | ⟨-, h'⟩
      · exact he hd h'
      · simp [h'] at h
  · refine ⟨.of_eq (by simp [hu.precool]) (by simp [hu.precool]) fun q _ => by simp [State.grade, hu.precool], fun hk hp => ?_,
      fun _ _ => by rw [hpos]; exact hfill'⟩
    have hp : p ∈ s.precool.waitQueue := by simpa [hu.precool] using hp
    rcases hst with h | ⟨h, h'⟩
    · exact absurd hp (hw h hk)
    · obtain ⟨-, w2, w3, w4, w5, -⟩ := hk.2.2.1 p hp
      refine ⟨by rw [hpos, h']; rfl, by rw [honly.cfg]; exact w2, by simpa [hu.precool] using w3,
        by simpa [State.grade, hu.precool] using w4, by rw [hpos, hce]; exact w5, fun e => ?_⟩
      rw [hpos, h'] at e
      simp at e

theorem joinBank_keeps_pulse (hu : DrawMoved p s u) (b : Fin 6) (h : (s.pos p).state = .starting .pulse) :
    Keeps s (u.joinBank p b) := by
  have e : u.joinBank p b = (u.joinBank p b).modPos p id := (modPos_self _ p id rfl).symm
  rw [e]
  refine draw_keeps hu b id (fun _ => ⟨rfl, rfl, rfl, rfl⟩) (by rw [h]; rfl) (.inr ⟨h, h⟩) (fun hd => ?_) (fun _ h' => ?_) rfl
    fun h' => ?_
  · have := (hd.2 p).1
    rw [if_pos (.inr h)] at this
    exact this.2
  · simp [h] at h'
  · simp [h] at h'

/-- R131: a position in FUELLING changes its bank. -/
theorem switchTo_keeps (hu : DrawMoved p s u) (b : Fin 6) (h : (s.pos p).state = .fuelling) : Keeps s (u.switchTo p b) := by
  refine draw_keeps hu b _ (fun _ => ⟨rfl, rfl, rfl, rfl⟩) (by rw [h]; rfl) (.inl h) (fun hd => ?_) (fun hd _ => ?_) rfl
    fun _ => notWaiting_of_state (by rw [h]; rfl)
  · have := (hd.2 p).1
    rw [if_pos (.inl h)] at this
    exact this.2
  · exact (hd.2 p).2.1 (.inl h)

/-! ### A fill that has left its draw set -/

/-- R131 (4): BANK_LOW at a position in FUELLING that has left its draw set ends or holds its fill, so that the relation on the
draws holds again. -/
theorem bankLowCore_keeps_left (hu : DrawMoved p s u) (h : (s.pos p).state = .fuelling) : Keeps s (u.bankLowCore p) := by
  have hk := bankLowCore_keeps u p
  refine ⟨hu.flow.trans hk.toFlow, drawsKept_at (hu.fill.trans (bankLowCore_fill u p)) fun hd => ?_, hk.slots ∘ hu.slots.2⟩
  have hstate : (u.pos p).state = .fuelling := hu.state.trans h
  have hfac : (u.pos p).factors.has .bankLow = false := by
    have : (s.pos p).factors = .empty := (hd.2 p).2.1 (.inl h)
    obtain ⟨d, hd⟩ := hu.pos
    rw [hd]
    simp [this]
  have hcom : s.commissioned = true := by
    by_contra hn
    have := (hd.2 p).2.2 (by simpa using hn)
    simp [this] at h
  have hpos : (u.bankLowCore p).pos p = (u.activateCore p .bankLow).pos p := by
    unfold State.bankLowCore; dsimp only; split <;> rfl
  rw [hpos]
  cases hr : endingReason (u.cfg p) .bankLow with
  | some r =>
    rw [activateCore_ends hfac (.inl hstate) hr, enterEndingCore_pos (by rw [hstate]; rfl)]
    simp [DrawOk, endedPosition, hcom]
  | none =>
    have := putFactor_enterHeld_eq u p .bankLow
    unfold fillHolds at this
    have e : (((u.putFactor p .bankLow true).enterHeld p).pos p) = heldPosition (u.pos p) ((u.pos p).factors.put .bankLow true) := by
      rw [this]; exact get_setAt_self _ _ _
    rw [activateCore_holds hfac hstate hr, e]
    simp [DrawOk, heldPosition, hcom]

end

/-! ### The end of the pulse, and a displacement -/

/-- R53 (1): the end of the pulse. -/
theorem enterSettle_pos :
    (s.enterSettle p).pos p =
      { s.pos p with state := .starting .settle, valve := 0, drawBank := none, substateTimer := some Config.settleTime } := by
  simp [State.enterSettle, releaseDraw_pos]

theorem enterSettle_fill : FillOnly p s (s.enterSettle p) :=
  ((modPos_fill s p _ ⟨rfl, rfl⟩).trans (releaseDraw_fill _ p)).trans (modPos_fill _ p _ ⟨rfl, rfl⟩)

theorem enterSettle_plant : PlantKeeps s (s.enterSettle p) := by
  unfold State.enterSettle
  have hv := (modPos_plant s p (fun q => { q with valve := 0 }) fun _ => .inl rfl).trans (releaseDraw_plant _ p)
  exact hv.trans (modPos_plant _ p _ fun _ => .inl rfl)

@[simp] theorem enterSettle_precool : (s.enterSettle p).precool = s.precool := by simp [State.enterSettle]

section
variable {s u : State} {p : Fin 4}

theorem enterSettle_acts (hu : DrawMoved p s u) (h : (s.pos p).state = .starting .pulse) : Acts s (u.enterSettle p) := by
  have hpos : (u.enterSettle p).pos p =
      { s.pos p with state := .starting .settle, valve := 0, drawBank := none, substateTimer := some Config.settleTime } := by
    obtain ⟨d, hd⟩ := hu.pos
    rw [enterSettle_pos, hd]
  have honly := hu.fill.trans (enterSettle_fill u p)
  have hkeeps : Keeps s (u.enterSettle p) := by
    refine keeps_at honly (hu.plant.trans (enterSettle_plant u p)) (.of_eq (by simp [State.enterSettle, hu.tickets])) ?_
      (fun hd => ?_) (.same (by simp [hu.precool]) (by simp [hu.precool]) (by simp [hu.precool]) (honly.cfg p) ?_ fun _ => ?_)
    · rw [hpos]
      exact ⟨rfl, rfl, rfl, by rw [h]; rfl, .inl (by simp [h])⟩
    · rw [hpos]
      have hk := hd.2 p
      change DrawOk _ _ at hk
      rw [DrawOk, h] at hk
      simpa [DrawOk] using hk.2.2
    · rw [hpos, h]; rfl
    · rw [hpos]
      exact ⟨rfl, rfl, fun e => by simp at e⟩
  exact hkeeps.acts (by simp [hu.precool]) (by simp [hu.precool]) (by simp [hu.precool]) (by rw [honly.site])

end

theorem displace_acts : Acts s (s.displace p) := by
  have hleft := leaveBank_moved s p
  have hpos := leaveBank_pos s p
  /- Outside FUELLING and PULSE the position draws on no bank already. -/
  have hidle (h : ¬((s.pos p).state = .fuelling ∨ (s.pos p).state = .starting .pulse)) : Acts s (s.leaveBank p) := by
    refine ⟨⟨hleft.flow, drawsKept_at hleft.fill fun hd => ?_, hleft.slots.2⟩, fun hk => ?_⟩
    · rw [hpos]
      have hk := hd.2 p
      change DrawOk _ _ at hk
      unfold DrawOk at hk ⊢
      rw [if_neg h] at hk
      rw [if_neg h]
      exact ⟨⟨rfl, hk.1.2⟩, hk.2⟩
    · exact hleft.noGrantDue.2 ((slotsKept_iff s).1 hk).2
  unfold State.displace
  dsimp only
  rw [hpos]
  split
  · next h =>
    split
    · refine (joinBank_keeps_pulse hleft _ h).acts ?_ ?_ ?_ ?_
      all_goals simp [joinBank_eq, State.leaveBank]
    · exact enterSettle_acts hleft h
  · next h =>
    split
    · refine (switchTo_keeps hleft _ h).acts ?_ ?_ ?_ ?_
      all_goals simp [State.switchTo, joinBank_eq, State.leaveBank]
    · exact (bankLowCore_keeps_left hleft h).makeGrants
  all_goals
    next h => exact hidle (by rw [show (s.pos p).state = _ from h]; simp)

end

end Sys2Proof.Machine
end

section
/-! PROOFS. The banks, the control step, the holds, the chiller and the vehicle link keep the six relations. -/

namespace Sys2Proof.Machine

/-! ### The banks -/

/-- An event of the compressor and the banks that keeps their relations. -/
theorem acts_of_plant {s t : State} (h : PlantKeeps s t) (hp : t.positions = s.positions) (hc : t.precool = s.precool)
    (ht : t.tickets = s.tickets) (ha : t.accounts = s.accounts) (hs : t.site = s.site)
    (hg : t.positionConfig = s.positionConfig) (hm : t.commissioned = s.commissioned) : Acts s t := by
  have hpos (p : Fin 4) : t.pos p = s.pos p := by simp [State.pos, hp]
  have hcfg (p : Fin 4) : t.cfg p = s.cfg p := by simp [State.cfg, hg]
  refine Keeps.acts ⟨⟨h, ?_, fun _ => ?_⟩, ?_, ?_⟩ (by rw [hc]) (by rw [hc]) (by rw [hc]) (by rw [hs])
  · exact ticketsKept_of_core (.of_eq ht) (fun p => by rw [hpos]; exact .refl _) (fun p => by rw [hcfg]) hm
  · exact ledgerKept_of_core (.of_eq ht) ha (by rw [hs])
  · intro hd
    refine ⟨by rw [hs]; exact hd.1, fun p => ?_⟩
    rw [hpos, hm]
    exact hd.2 p
  · exact (slotsHeld_congr hc hs hm hcfg fun q => by rw [hpos]; exact ⟨rfl, rfl, rfl⟩).2

section
variable (s : State)

theorem modBank_acts (b : Fin 6) (f : Bank → Bank) (hf : ∀ x, (f x).isolated = x.isolated) : Acts s (s.modBank b f) :=
  acts_of_plant (modBank_plant s b f hf) rfl rfl rfl rfl rfl rfl rfl

theorem recomputeInventory_acts (b : Fin 6) : Acts s (s.recomputeInventory b) := modBank_acts s b _ fun _ => rfl

theorem queueEntryTest_acts (b : Fin 6) : Acts s (s.queueEntryTest b) :=
  compressor_acts (queueEntryTest_only s b) (queueEntryTest_plant s b)

theorem refillProgress_acts (b : Fin 6) (v : Nat) : Acts s (s.refillProgress b v) :=
  compressor_acts (refillProgress_only s b v) (refillProgress_plant s b v)

theorem displaceAll_acts (b : Fin 6) : Acts s (s.displaceAll b) :=
  Acts.foldl _ (fun s p => by split; exact displace_acts s p; exact .refl s) _ s

/-- R132, R140 (2): a bank is isolated and leaves the refill queue. -/
theorem isolateBank_acts (b : Fin 6) : Acts s ((s.modBank b fun x => { x with isolated := true }).removeBank b) := by
  have h := removeBank_only (s.modBank b fun x => { x with isolated := true }) b
  unfold CompressorOnly at h
  refine acts_of_plant ⟨fun hc => removeBank_credits _ b hc, fun hr => ?_⟩ ?_ ?_ ?_ ?_ ?_ ?_ ?_
  · refine removeBank_refill _ b hr rfl rfl rfl rfl rfl fun x hx => ?_
    rw [modBank_bank_ne _ _ hx]
  all_goals rw [h]; rfl

theorem isolate_acts (b : Fin 6) : Acts s (s.isolate b) := by
  unfold State.isolate
  split
  · exact .refl s
  · exact ((isolateBank_acts s b).trans (displaceAll_acts _ b)).trans (raise_acts _ _)

theorem reportBank_acts (p : Fin 4) : Acts s (s.reportBank p) := by
  unfold State.reportBank
  split
  · exact ((setWaiting_keeps s p false).acts rfl rfl rfl rfl).trans (clearFactor_acts _ p _)
  · exact .refl s

theorem reportWaiting_acts : Acts s s.reportWaiting := Acts.foldl _ reportBank_acts _ s

theorem bankPressureTaken_acts (b : Fin 6) (v : Nat) : Acts s (s.bankPressureTaken b v) := by
  have h := (modBank_acts s b (fun x => { x with p := v }) fun _ => rfl).trans (recomputeInventory_acts _ b)
  have hq (u : State) : Acts u (if v < (u.bankCfg b).refillStart then u.queueEntryTest b else u) := by
    split
    · exact queueEntryTest_acts u b
    · exact .refl u
  unfold State.bankPressureTaken
  dsimp only
  split
  · exact h.trans (isolate_acts _ b)
  · exact ((h.trans (refillProgress_acts _ b v)).trans (hq _)).trans (reportWaiting_acts _)

theorem bankTemperatureTaken_acts (b : Fin 6) (v : Nat) : Acts s (s.bankTemperatureTaken b v) := by
  have h := (modBank_acts s b (fun x => { x with t := v }) fun _ => rfl).trans (recomputeInventory_acts _ b)
  unfold State.bankTemperatureTaken
  dsimp only
  split
  · exact h.trans (isolate_acts _ b)
  · exact h

/-- R133: a bank that returns may stand in the refill queue again. -/
theorem returnBank_acts (b : Fin 6) :
    Acts s (s.modBank b fun x => { x with isolated := false }) := by
  refine acts_of_plant ⟨id, fun hr => ?_⟩ rfl rfl rfl rfl rfl rfl rfl
  obtain ⟨⟨hnd, hall, hord, hcom, hesd⟩, ha, hm⟩ := (refillKept_iff s).1 hr
  refine (refillKept_iff _).2 ⟨⟨hnd, fun x hx => ⟨(hall x hx).1, ?_⟩, hord, hcom, hesd⟩, ha, hm⟩
  rw [modBank_bank]
  split
  · rfl
  · exact (hall x hx).2

theorem returnToReady_acts (b : Fin 6) : Acts s (s.returnToReady b) :=
  ((returnBank_acts s b).trans (queueEntryTest_acts _ b)).trans (reportWaiting_acts _)

/-! ### The control step and the meter -/

theorem newOpening_le (old : Nat) (x : Int) : newOpening old x ≤ 1000 := by
  unfold newOpening clampInt
  omega

variable (p : Fin 4)

/-- A position in FUELLING moves its valve and what the relations do not read. -/
theorem fuelling_keeps (f : Position → Position) (h : (s.pos p).state = .fuelling) (hf : SameView (s.pos p) (f (s.pos p)))
    (hv : (f (s.pos p)).valve ≤ 1000) : Keeps s (s.modPos p f) := by
  obtain ⟨h1, h2, h3, h4, h5, h6, h7, h8⟩ := hf
  refine keeps_at (modPos_fill s p f ⟨h6, h7⟩) ?_ (.of_eq rfl) ?_ (fun hd => ?_) (.same rfl rfl rfl rfl ?_ fun hw => ?_)
  · refine plantKeeps_of_base rfl rfl (fun q => .inl ?_) rfl
    rw [modPos_pos]
    split
    · next h => subst h; exact h2
    · rfl
  · rw [modPos_pos_self]
    exact ⟨h6, h7, h8, by rw [h1], .inr h1⟩
  · rw [modPos_pos_self]
    have hk := hd.2 p
    change DrawOk _ _ at hk
    unfold DrawOk at hk ⊢
    rw [h1, h2, h3]
    rw [if_pos (.inl h)] at hk ⊢
    exact ⟨⟨hk.1.1, hv⟩, hk.2⟩
  · rw [modPos_pos_self, h1]
  · rw [h] at hw
    simp [PosState.isStarting] at hw

theorem stepRamp_keeps (f : FillProfile) (h : (s.pos p).state = .fuelling) : Keeps s (s.stepRamp p f) :=
  fuelling_keeps s p _ h ⟨rfl, rfl, rfl, rfl, rfl, rfl, rfl, rfl⟩ (newOpening_le _ _)

theorem recordSoc_keeps (soc : Option Nat) : Keeps s (s.recordSoc p soc) := by
  unfold State.recordSoc
  split
  · exact modActive_keeps s p _ fun _ => rfl
  · exact .refl s

/-- The ramp context alone changes. -/
theorem ramp_keeps (f : Position → RampContext) : Keeps s (s.modPos p fun q => { q with ramp := f q }) :=
  modPos_keeps s p _ ⟨rfl, rfl, rfl, rfl, rfl, rfl, rfl, rfl⟩ (.inl rfl)

theorem restartStep_keeps : Keeps s (s.restartStep p) := ramp_keeps s p _

theorem stepTaper_keeps (f : FillProfile) (soc : Option Nat) : Keeps s (s.stepTaper p f soc) := by
  unfold State.stepTaper
  split
  · exact ramp_keeps s p _
  · exact .refl s

theorem countTests_keeps (f : FillProfile) : Keeps s (s.countTests p f) := ramp_keeps s p _

theorem countTests_state (f : FillProfile) : ((s.countTests p f).pos p).state = (s.pos p).state := by
  simp [State.countTests]

/-- A report that comes after a switch. -/
theorem reportLeft_keeps (b : Option (Fin 6)) : Keeps s (s.reportLeft b) :=
  compressor_keeps s (reportLeft_only s b) (reportLeft_plant s b)

theorem stepCascade_keeps (f : FillProfile) (soc : Option Nat) (h : (s.pos p).state = .fuelling) :
    Keeps s (s.stepCascade p f soc) := by
  have hc : ((s.countTests p f).pos p).state = .fuelling := (countTests_state s p f).trans h
  have hleft := leaveBank_moved (s.countTests p f) p
  unfold State.stepCascade
  dsimp only
  split
  · split
    · next b _ =>
      have hsw := (countTests_keeps s p f).trans (switchTo_keeps hleft b hc)
      exact ((hsw.trans (reportLeft_keeps _ _)).trans (stepTaper_keeps _ p f soc)).trans (restartStep_keeps _ p)
    · exact (countTests_keeps s p f).trans (bankLowCore_keeps_left (hleft.report _) hc)
  · exact ((countTests_keeps s p f).trans (stepTaper_keeps _ p f soc)).trans (restartStep_keeps _ p)

theorem runStep_acts (h : (s.pos p).state = .fuelling) : Acts s (s.runStep p) := by
  unfold State.runStep
  split
  · exact (restartStep_keeps s p).acts rfl rfl rfl rfl
  · next f hf =>
    dsimp only
    have hk := (stepRamp_keeps s p f h).trans (recordSoc_keeps _ p ((s.stepRamp p f).stepSoc p))
    have hs : (((s.stepRamp p f).recordSoc p ((s.stepRamp p f).stepSoc p)).pos p).state = .fuelling := by
      have e : ((s.stepRamp p f).pos p).state = .fuelling := by rw [State.stepRamp, modPos_pos_self]; exact h
      unfold State.recordSoc
      split
      · rw [modActive_pos]; exact e
      · exact e
    split
    · exact (hk.trans (enterEndingCore_keeps _ p _)).makeGrants
    · exact (hk.trans (stepCascade_keeps _ p f _ hs)).makeGrants

/-! ### The meter -/

/-- R5: the ACTIVE ticket of a position in a fill is FUELLING. -/
theorem busy_ticket {s : State} {p : Fin 4} (h : ticketsKept s) (hb : (s.pos p).state.busy = true) {n : Nat} {i : Fin 32} {k : Ticket}
    (ha : (s.pos p).active = some n) (hi : s.ticketSlot n = some i) (hk : s.tickets.get i = some k) :
    k.state = .fuelling ∧ k.attachment = .active ∧ k.position = p := by
  obtain ⟨-, hpl, href, -⟩ := h
  have hpos : k.position = p := by
    have := (href p).1 n ha
    rw [ticket_of_slot hi, hk] at this
    simpa using this
  obtain ⟨-, hact, -, hst, -⟩ := hpl i k hk
  rw [hpos, number_of_slot hi hk] at hact
  have hatt := hact.2 ha
  exact ⟨hst.2 ⟨hatt, hpos ▸ hb⟩, hatt, hpos⟩

theorem modActive_places (f : Ticket → Ticket) (hf : ∀ k, (f k).place = k.place) : PlacesStand s (s.modActive p f) := by
  intro i
  rw [modActive_get]
  split
  · cases s.tickets.get i <;> simp [hf]
  · rfl

theorem modActive_claims (f : Ticket → Ticket) (hf : ∀ k, (f k).claim = k.claim) : ClaimsStand s (s.modActive p f) := by
  intro i
  rw [modActive_get]
  split
  · cases s.tickets.get i <;> simp [hf]
  · rfl

/-- A change of the ACTIVE ticket that leaves its place, its hold time and its claim: its money is left to show. -/
theorem modActive_keeps_funded (f : Ticket → Ticket) (hp : ∀ k, (f k).place = k.place) (hc : ∀ k, (f k).claim = k.claim)
    (hu : ∀ k, (f k).holdUsed = k.holdUsed)
    (hm : ticketsKept s → ∀ n i k, (s.pos p).active = some n → s.ticketSlot n = some i → s.tickets.get i = some k →
      ticketFunded s k → ticketFunded s (f k)) : Keeps s (s.modActive p f) := by
  have hget := modActive_get s p f
  refine ⟨⟨modActive_plant s p _, ?_, fun ht => ?_⟩, fun hd => ?_, fun hs => ?_⟩
  · refine ticketsKept_of_places (modActive_places s p f hp) (fun q => ?_) (by simp) fun ⟨_, _, _, hmax, hused⟩ => ⟨?_, ?_⟩
    · rw [modActive_pos]; exact ⟨rfl, rfl, rfl, .inr rfl⟩
    · simpa using hmax
    · intro i k hk hst
      rw [modActive_pos]
      rw [hget] at hk
      split at hk
      · obtain ⟨l, hl, rfl⟩ := Option.map_eq_some_iff.1 hk
        obtain ⟨-, e1, e2, -⟩ := place_eq (hp l)
        rw [hu, e2]
        exact hused i l hl (e1 ▸ hst)
      · exact hused i k hk hst
  · refine ledgerKept_of_claims (modActive_claims s p f hc) (by simp) (by simp) fun ⟨_, _, _, hfund, _⟩ i k hk => ?_
    have hs (k : Ticket) : ticketFunded (s.modActive p f) k ↔ ticketFunded s k := by
      unfold ticketFunded
      simp [account_congr (modActive_accounts s p f)]
    rw [hs]
    rw [Option.mem_def, hget] at hk
    split at hk
    · next ha =>
      obtain ⟨l, hl, rfl⟩ := Option.map_eq_some_iff.1 hk
      obtain ⟨n, ha, hi⟩ := Option.bind_eq_some_iff.1 ha
      exact hm ht n i l ha hi hl (hfund i l hl)
    · exact hfund i k hk
  · exact drawsKept_at (modActive_fill s p f fun k => (place_eq (hp k)).1) (fun hd => by rw [modActive_pos]; exact hd.2 p) hd
  · refine (slotsHeld_congr ?_ ?_ ?_ ?_ ?_).2 hs <;> simp

/-- R88: the mass and the amount of the ticket of a fill change together. -/
theorem withMass_keeps (g : Ticket → Nat) (h : (s.pos p).state.busy = true) :
    Keeps s (s.modActive p fun k => k.withMass (g k)) := by
  refine modActive_keeps_funded s p _ (fun _ => rfl) (fun _ => rfl) (fun _ => rfl) fun ht n i k ha hi hk hf => ?_
  obtain ⟨-, h2, h3, h4, -⟩ := hf
  exact ⟨fun ho => by simp [Ticket.withMass, (busy_ticket ht h ha hi hk).1] at ho, h2, h3, h4, rfl⟩

theorem wholePulse_acts (forward : Bool) : Acts s (s.wholePulse p forward) := by
  unfold State.wholePulse
  dsimp only
  split
  · next h => exact (withMass_keeps s p _ h).acts (by simp) (by simp) (by simp) (by simp)
  · exact modPos_acts s p _ ⟨rfl, rfl, rfl, rfl, rfl, rfl, rfl, rfl⟩ (.inl rfl)

theorem phaseFault_acts : Acts s (s.phaseFault p) := by
  have h := modPos_acts s p (fun q => { q with phaseFaults := satAdd 255 (s.pos p).phaseFaults 1 })
    ⟨rfl, rfl, rfl, rfl, rfl, rfl, rfl, rfl⟩ (.inl rfl)
  unfold State.phaseFault
  dsimp only
  repeat' split
  · exact h.trans (activate_acts _ p _)
  · exact h
  · exact .refl s

theorem quarterStep_acts (forward : Bool) : Acts s (s.quarterStep p forward) := by
  unfold State.quarterStep
  dsimp only
  generalize (s.pos p).quarter + (if forward then 1 else -1) = n
  split
  · refine .trans ?_ (wholePulse_acts _ p forward)
    exact modPos_acts s p _ ⟨rfl, rfl, rfl, rfl, rfl, rfl, rfl, rfl⟩ (.inl rfl)
  · exact modPos_acts s p _ ⟨rfl, rfl, rfl, rfl, rfl, rfl, rfl, rfl⟩ (.inl rfl)

theorem meterChange_acts (a b : Bool) : Acts s (s.meterChange p a b) := by
  have h := modPos_acts s p (fun q => { q with meterA := a, meterB := b })
    ⟨rfl, rfl, rfl, rfl, rfl, rfl, rfl, rfl⟩ (.inl rfl)
  unfold State.meterChange
  dsimp only
  repeat' split
  · exact h
  · exact h.trans (quarterStep_acts _ p true)
  · exact h.trans (quarterStep_acts _ p false)
  · exact h.trans (phaseFault_acts _ p)

end

end Sys2Proof.Machine
end

section
/-! PROOFS. The hold unit, the vehicle link and the gas temperature keep the six relations. -/

namespace Sys2Proof.Machine

/-! ### The hold accumulator and its ticket -/

/-- R3: a ticket in the table is the one found by its number. -/
theorem ticketSlot_of_get {s : State} (h : numbersDistinct s) {i : Fin 32} {k : Ticket} (hk : s.tickets.get i = some k) :
    s.ticketSlot k.number = some i := by
  cases hj : s.ticketSlot k.number with
  | none =>
    have := findSlot_none.1 hj i k hk
    simp at this
  | some j =>
    obtain ⟨l, hl, hn⟩ := findSlot_some hj
    by_cases hij : j = i
    · rw [hij]
    · exact absurd (beq_iff_eq.1 hn) (h j i hij l hl k hk)

/-- R4: the ticket in the ACTIVE slot of a position is one of the position. -/
theorem active_position {s : State} (h : ticketsKept s) {p : Fin 4} {n : Nat} {i : Fin 32} {k : Ticket}
    (ha : (s.pos p).active = some n) (hi : s.ticketSlot n = some i) (hk : s.tickets.get i = some k) : k.position = p := by
  have := (h.2.2.1 p).1 n ha
  rw [ticket_of_slot hi, hk] at this
  simpa using this

section
variable (s : State) (p : Fin 4)

/-- R117: the hold accumulator of a position is put at a time, and its ticket shows the whole seconds of it. -/
theorem holdTime_keeps (x : Nat) (hx : x ≤ (s.cfg p).maxHold * 1000) :
    Keeps s ((s.modPos p fun q => { q with holdTime := x }).writeHoldTime p) := by
  set u := s.modPos p fun q => { q with holdTime := x } with hu
  have hpos : u.pos p = { s.pos p with holdTime := x } := modPos_pos_self s p _
  have hne (q : Fin 4) (hq : q ≠ p) : u.pos q = s.pos q := modPos_pos_ne s _ hq
  have hbase : FillOnly p s (u.writeHoldTime p) := (modPos_fill s p _ ⟨rfl, rfl⟩).trans (modActive_fill u p _ fun _ => rfl)
  have hposW (q : Fin 4) : (u.writeHoldTime p).pos q = u.pos q := modActive_pos ..
  have hget (i : Fin 32) := modActive_get u p (fun k => { k with holdUsed := (u.pos p).holdTime / 1000 }) i
  have hplant : PlantKeeps s (u.writeHoldTime p) :=
    (modPos_plant s p (fun q => { q with holdTime := x }) fun _ => .inl rfl).trans (modActive_plant u p _)
  refine ⟨⟨hplant, ?_, fun _ hl => ?_⟩, drawsKept_at hbase fun hd => ?_,
    fun hs => ?_⟩
  · refine ticketsKept_of_places (modActive_places u p _ fun _ => rfl) (fun q => ?_) hbase.commissioned fun ht => ⟨fun q hb => ?_, ?_⟩
    · rw [hposW]
      by_cases hq : q = p
      · subst hq; rw [hpos]; exact ⟨rfl, rfl, rfl, .inr rfl⟩
      · rw [hne q hq]; exact ⟨rfl, rfl, rfl, .inr rfl⟩
    · rw [hposW] at hb ⊢
      rw [hbase.cfg]
      by_cases hq : q = p
      · subst hq; rw [hpos]; exact hx
      · rw [hne q hq] at hb ⊢
        exact ht.2.2.2.1 q hb
    · intro i k hk hst
      rw [hposW]
      rw [State.writeHoldTime, Option.mem_def, hget] at hk
      split at hk
      · next ha =>
        obtain ⟨l, hl, rfl⟩ := Option.map_eq_some_iff.1 hk
        obtain ⟨n, ha, hi⟩ := Option.bind_eq_some_iff.1 ha
        rw [hpos] at ha
        rw [show l.position = p from active_position ht ha hi hl]
      · next ha =>
        have hk : s.tickets.get i = some k := hk
        have hkp : k.position ≠ p := by
          intro hkp
          obtain ⟨-, hact, -, hfu, -⟩ := ht.2.1 i k hk
          have hn := hact.1 (hfu.1 hst).1
          rw [hkp] at hn
          exact ha (by rw [hpos]; exact Option.bind_eq_some_iff.2 ⟨_, hn, ticketSlot_of_get ht.1 hk⟩)
        rw [hne _ hkp]
        exact ht.2.2.2.2 i k hk hst
  · refine ledgerKept_of_claims (modActive_claims u p _ fun _ => rfl) (by simp [hu, State.writeHoldTime])
      (by simp [hu, State.writeHoldTime]) (fun hl i k hk => ?_) hl
    have hfund (k : Ticket) : ticketFunded (u.writeHoldTime p) k ↔ ticketFunded s k := by
      unfold ticketFunded
      simp only [account_congr (accounts_of_base hbase.base)]
    rw [hfund]
    rw [State.writeHoldTime, Option.mem_def, hget] at hk
    split at hk
    · obtain ⟨l, hl', rfl⟩ := Option.map_eq_some_iff.1 hk
      exact hl.2.2.2.1 i l hl'
    · exact hl.2.2.2.1 i k hk
  · rw [hposW, hpos]; exact hd.2 p
  · refine (slotsHeld_congr ?_ hbase.site hbase.commissioned hbase.cfg fun q => ?_).2 hs
    · simp [State.writeHoldTime, hu]
    · rw [hposW]
      by_cases hq : q = p
      · subst hq; rw [hpos]; exact ⟨rfl, rfl, rfl⟩
      · rw [hne q hq]; exact ⟨rfl, rfl, rfl⟩

/-- R117 (2): the hold time that the accumulator shows is written again. -/
theorem writeHoldTime_acts (h : (s.pos p).holdTime ≤ (s.cfg p).maxHold * 1000) : Acts s (s.writeHoldTime p) := by
  have := holdTime_keeps s p (s.pos p).holdTime h
  rw [modPos_self s p _ rfl] at this
  refine this.acts ?_ ?_ ?_ ?_ <;> simp [State.writeHoldTime]

/-! ### The resume -/

theorem stopShort_keeps : Keeps s (s.stopShort p) := by
  unfold State.stopShort
  split
  · exact holdTime_keeps s p _ (Nat.sub_le _ _)
  · exact .refl s

theorem stopShort_pos : ∃ x, (s.stopShort p).pos p = { s.pos p with holdTime := x } := by
  unfold State.stopShort State.writeHoldTime
  split
  · exact ⟨_, by rw [modActive_pos, modPos_pos_self]⟩
  · exact ⟨_, rfl⟩

@[simp] theorem stopShort_precool : (s.stopShort p).precool = s.precool := by
  unfold State.stopShort State.writeHoldTime
  split <;> simp

@[simp] theorem stopShort_site : (s.stopShort p).site = s.site := by
  unfold State.stopShort State.writeHoldTime
  split <;> simp

/-- R116: a held position with no active factor resumes. -/
theorem resume_acts (hh : (s.pos p).state.isHeld = true)
    (hf : (s.pos p).factors = .empty ∨ (s.pos p).state = .held .delay ∨ (s.pos p).state = .held .demandWait) :
    Acts s (s.resume p) := by
  obtain ⟨x, hpos⟩ := stopShort_pos s p
  have hfill : (s.pos p).state.filling = true := by
    revert hh; cases (s.pos p).state <;> simp [PosState.isHeld, PosState.filling]
  unfold State.resume
  split
  · next b _ =>
    refine Keeps.acts (.trans (stopShort_keeps s p) ?_) ?_ ?_ ?_ ?_
    · refine draw_keeps (.refl _ p) b _ ?_ ?_ (.inl ?_) (fun _ => ?_) (fun hd _ => ?_) ?_ fun _ => notWaiting_of_state ?_
      · exact fun _ => ⟨rfl, rfl, rfl, rfl⟩
      · rw [hpos]; exact hfill
      · rfl
      · exact Nat.zero_le _
      · rcases hf with h | h
        · rw [hpos]; exact h
        · exact (hd.2 p).2.1 (.inr (by rw [hpos]; exact h))
      · rfl
      · rw [hpos]; revert hh; cases (s.pos p).state <;> simp [PosState.isHeld, PosState.isStarting]
    all_goals simp [joinBank_eq]
  · exact (bankLowCore_keeps s p).makeGrants

/-- R115: the resume delay is over. -/
theorem delayEnded_acts (h : (s.pos p).state = .held .delay) : Acts s (s.delayEnded p) := by
  have ht := modPos_acts s p (fun q => { q with resumeTimer := none }) ⟨rfl, rfl, rfl, rfl, rfl, rfl, rfl, rfl⟩ (.inl rfl)
  set u := s.modPos p fun q => { q with resumeTimer := none } with hu
  have hs : (u.pos p).state = .held .delay := by rw [hu, modPos_pos_self]; exact h
  unfold State.delayEnded
  rw [← hu]
  dsimp only
  split
  · exact ht.trans (resume_acts u p (by rw [hs]; rfl) (.inr (.inl hs)))
  all_goals
    refine .trans ht (Keeps.acts ?_ rfl rfl rfl rfl)
    refine modPos_keeps_factors u p _ (fun _ => ⟨rfl, rfl, rfl, rfl, rfl, rfl, rfl⟩) (.inr ⟨by rw [hs]; rfl, .demandWait, rfl, .inr ?_⟩)
    exact fun hd => (hd.2 p).2.1 (.inr (.inl hs))

/-- R117 (3): the end of the maximum hold total. -/
theorem holdExhausted_acts (h : (s.pos p).holdTime = (s.cfg p).holdLimit) : Acts s (s.holdExhausted p) := by
  have hlim : (s.cfg p).holdLimit = (s.cfg p).maxHold * 1000 := rfl
  have e : (s.modActive p fun t => { t with holdUsed := (s.cfg p).maxHold }) = s.writeHoldTime p := by
    unfold State.writeHoldTime
    rw [h, hlim, Nat.mul_div_cancel _ (by omega)]
  unfold State.holdExhausted
  rw [e]
  exact (writeHoldTime_acts s p (by rw [h, hlim])).trans (endFill_acts _ p _)

/-! ### RESUME_POSITION -/

theorem clearStationFactors_keeps (h : (∃ sub, (s.pos p).state = .starting sub) ∨ (s.pos p).state = .held .factorWait) :
    Keeps s (s.clearStationFactors p) := by
  refine modPos_keeps_factors s p _ (fun _ => ⟨rfl, rfl, rfl, rfl, rfl, rfl, rfl⟩) ?_
  rcases h with ⟨sub, h⟩ | h
  · exact .inl ⟨sub, h, h⟩
  · exact .inr ⟨by rw [h]; rfl, .factorWait, h, .inl rfl⟩

theorem cleared_station_factors (fs : FactorSet) (h : fs.others = false) :
    (fs.put .supervisor false).put .meter false = .empty := by
  obtain ⟨a, b, c, d, e, f⟩ := fs
  simp only [FactorSet.others, Bool.or_eq_false_iff] at h
  obtain ⟨⟨⟨rfl, rfl⟩, rfl⟩, rfl⟩ := h
  rfl

theorem releaseHold_keeps (h : (s.pos p).state.isHeld = true) (hf : (s.pos p).factors = .empty) : Keeps s (s.releaseHold p) := by
  unfold State.releaseHold
  split
  all_goals exact modPos_keeps_factors s p _ (fun _ => ⟨rfl, rfl, rfl, rfl, rfl, rfl, rfl⟩) (.inr ⟨h, _, rfl, .inr fun _ => hf⟩)

theorem resumeFromFactors_acts (h : (s.pos p).state = .held .factorWait) (hf : (s.pos p).factors.others = false) :
    Acts s (s.resumeFromFactors p) := by
  have hc := (clearStationFactors_keeps s p (.inr h)).acts rfl rfl rfl rfl
  have hs : ((s.clearStationFactors p).pos p).state = .held .factorWait := by
    rw [State.clearStationFactors, modPos_pos_self]; exact h
  have he : ((s.clearStationFactors p).pos p).factors = .empty := by
    rw [State.clearStationFactors, modPos_pos_self]; exact cleared_station_factors _ hf
  unfold State.resumeFromFactors
  dsimp only
  split
  · exact hc.trans (resume_acts _ p (by rw [hs]; rfl) (.inl he))
  · refine hc.trans ((releaseHold_keeps _ p (by rw [hs]; rfl) he).acts ?_ ?_ ?_ ?_)
    all_goals unfold State.releaseHold; split <;> rfl

theorem resumeOnDemand_acts (h : (s.pos p).state = .held .demandWait) : Acts s (s.resumeOnDemand p) := by
  have hm := modPos_acts s p (fun q => { q with phaseFaults := 0 }) ⟨rfl, rfl, rfl, rfl, rfl, rfl, rfl, rfl⟩ (.inl rfl)
  have hs : ((s.modPos p fun q => { q with phaseFaults := 0 }).pos p).state = .held .demandWait := by
    rw [modPos_pos_self]; exact h
  exact hm.trans (resume_acts _ p (by rw [hs]; rfl) (.inr (.inr hs)))

/-! ### The vehicle link -/

theorem modLink_acts (f : LinkContext → LinkContext) : Acts s (s.modLink p f) := (modLink_keeps s p f).acts rfl rfl rfl rfl

/-- R115: a factor that clears does not move a position that waits for its demand. -/
theorem clearFactor_demandWait (f : Factor) (h : (s.pos p).state = .held .demandWait) :
    ((s.clearFactor p f).pos p).state = .held .demandWait := by
  rw [clearFactor_eq, modPos_pos_self]
  simp [clearedPosition, h]

theorem runHeld_acts (release : Release) (h : (s.pos p).state = .held release) : Acts s (s.runHeld p release) := by
  unfold State.runHeld
  dsimp only
  split
  · next hr =>
    have hs := clearFactor_demandWait s p .vehicleHalt (by rw [h, hr.1])
    exact (clearFactor_acts s p _).trans (resume_acts _ p (by rw [hs]; rfl) (.inr (.inr hs)))
  · exact clearFactor_acts s p _

theorem runStarting_acts : Acts s (s.runStarting p) := by
  unfold State.runStarting
  split
  · exact ((clearFactor_keeps s p _).trans (advanceCore_keeps _ p)).makeGrants
  · exact .refl s

theorem vehicleCommand_acts (c : VehicleCommand) : Acts s (s.vehicleCommand p c) := by
  unfold State.vehicleCommand
  split
  · exact activate_acts s p _
  · exact endFill_acts s p _
  · split
    · exact runStarting_acts s p
    · next h => exact runHeld_acts s p _ h
    · exact clearFactor_acts s p _
    all_goals exact .refl s

theorem linkLoss_acts : Acts s (s.linkLoss p) := by
  have hloss : Acts s (if (s.pos p).factors.vehicleHalt then s.endFill p .linkLost else (s.relookupNonComm p).makeGrants) := by
    split
    · exact endFill_acts s p _
    · exact (relookupNonComm_keeps s p).makeGrants
  unfold State.linkLoss
  split
  · split
    · exact endFill_acts s p _
    · exact .refl s
  · exact hloss
  · exact hloss
  all_goals exact .refl s

theorem stallLink_acts : Acts s (s.stallLink p) := by
  have h := (modLink_acts s p fun l => l.fail .stalled).trans (raise_acts _ (.linkStalled p))
  unfold State.stallLink
  dsimp only
  split
  · exact h.trans (linkLoss_acts _ p)
  · exact h

theorem loseLink_acts : Acts s (s.loseLink p) := (modLink_acts s p _).trans (linkLoss_acts _ p)

theorem frameInStream_acts (f : VehicleFrame) : Acts s (s.frameInStream p f) := by
  unfold State.frameInStream
  dsimp only
  split
  · exact stallLink_acts s p
  · split
    · exact (modLink_acts s p _).trans (vehicleCommand_acts _ p _)
    · exact modLink_acts s p _

theorem frameInListen_acts (f : VehicleFrame) : Acts s (s.frameInListen p f) := by
  unfold State.frameInListen
  split
  · exact stallLink_acts s p
  · exact (modLink_acts s p _).trans (vehicleCommand_acts _ p _)

theorem vehicleFrame_acts (bytes : List Byte) : Acts s (s.vehicleFrame p bytes) := by
  unfold State.vehicleFrame
  split
  · exact .refl s
  · split
    · exact modLink_acts s p _
    · split
      · exact .refl s
      · exact frameInListen_acts s p _
      · exact frameInStream_acts s p _
      all_goals exact modLink_acts s p _

theorem listen_acts : Acts s (s.listen p) := by
  unfold State.listen
  split
  · exact modLink_acts s p _
  · exact .refl s

theorem couplingOpened_acts : Acts s (s.couplingOpened p) := (modLink_acts s p _).trans (endFill_acts _ p _)

/-! ### The gas temperature and the grade fallback -/

theorem senseDoubt_acts : Acts s (s.senseDoubt p) := by
  unfold State.senseDoubt
  split
  · exact activate_acts s p _
  · exact clearFactor_acts s p _

theorem setFallback_acts (t : Option Nat) : Acts s (s.setFallback p t) := (setFallback_keeps s p t).acts rfl rfl rfl rfl

theorem superviseTGas_acts (v : Nat) : Acts s (s.superviseTGas p v) := by
  unfold State.superviseTGas
  repeat' split
  all_goals first | exact setFallback_acts s p _ | exact .refl s

theorem tGasTaken_acts (v : Nat) : Acts s (s.tGasTaken p v) := by
  have hpeak : Acts s (if (s.pos p).state.busy then s.modActive p fun t => t.withTGas v else s) := by
    split
    · exact modActive_acts s p _ fun _ => rfl
    · exact .refl s
  have h := hpeak.trans (superviseTGas_acts _ p v)
  unfold State.tGasTaken
  dsimp only
  generalize (if (s.pos p).state.busy then s.modActive p fun t => t.withTGas v else s) = u at h ⊢
  split
  · exact h.trans (clearFactor_acts _ p _)
  · exact h

/-- A position that waits for no slot takes a grade. -/
theorem setGrade_keeps (g : Option Grade) (hw : slotsHeld s → p ∉ s.precool.waitQueue) : Keeps s (s.setGrade p g) := by
  refine keeps_at (setGrade_fills s p _ g) (modPcl_plant s _) (.of_eq rfl) (.refl _) (fun hd => hd.2 p) (.notWaiting rfl rfl ?_ id hw)
  intro q hq
  exact get_setAt_ne _ _ hq

theorem fallBack_acts (g : Grade) (hw : slotsHeld s → p ∉ s.precool.waitQueue) : Acts s (s.fallBack p g) := by
  have h := (setGrade_keeps s p (some g) hw).acts rfl rfl rfl rfl
  unfold State.fallBack
  dsimp only
  split
  · split
    · exact h.trans (setFallback_acts _ p _)
    · exact h
  · exact h

theorem relookup_precool {t : State} (g : Option Grade) (m : CommMode) (h : s.relookup p g m = some t) : t.precool = s.precool := by
  rcases relookup_cases s p g m with ⟨-, hn⟩ | ⟨i, f, -, hs⟩
  · simp [hn] at h
  · obtain rfl := Option.some.inj (hs.symm.trans h)
    simp [State.recordProfile]

/-- R56: a position with a grade does not wait for a slot. -/
theorem notWaiting_of_grade {s : State} {p : Fin 4} {g : Grade} (h : s.grade p = some g) :
    slotsHeld s → p ∉ s.precool.waitQueue := fun hs hp => by
  have := (hs.2.2.1 p hp).2.2.2.1
  simp [h] at this

theorem fallbackExpired_acts : Acts s (s.fallbackExpired p) := by
  have h := (setFallback_acts s p none).trans (raise_acts _ .gradeFallback)
  unfold State.fallbackExpired
  dsimp only
  split
  · next g hg =>
    split
    · next t ht =>
      have hpc := relookup_precool _ p _ _ ht
      have hk := (h.toKeeps.trans (relookup_keeps _ p _ _ ht)).acts (by rw [hpc]; rfl) (by rw [hpc]; rfl) (by rw [hpc]; rfl)
        (by rw [(relookup_fill _ p _ _ ht).site]; rfl)
      refine hk.trans (fallBack_acts t p _ (notWaiting_of_grade (g := g) ?_))
      rw [State.grade, hpc]
      exact hg
    · exact h.trans (activate_acts _ p _)
  · exact h

end

end Sys2Proof.Machine
end

section
/-! PROOFS. The start sequence, the chiller and its cooling slots keep the six relations. -/

namespace Sys2Proof.Machine

/-! ### Withdrawing from the cooling slots -/

section
variable (s : State) (p : Fin 4)

theorem giveUpCooling_pos : (s.giveUpCooling p).pos p = { s.pos p with coolWaitExpired := true } := modPos_pos_self _ p _

theorem giveUpCooling_grade : (s.giveUpCooling p).grade p = some .g0 := get_setAt_self _ _ _

theorem giveUpCooling_fill : FillOnly p s (s.giveUpCooling p) :=
  (setGrade_fills s p _ _).trans (modPos_fill _ p _ ⟨rfl, rfl⟩)

/-- What a position that gives up its cooling keeps, whether or not it waits. -/
theorem giveUpCooling_flow : Flow s (s.giveUpCooling p) :=
  flow_at (giveUpCooling_fill s p) ((modPcl_plant s _).trans (modPos_plant (s.setGrade p (some .g0)) p _ fun _ => .inl rfl))
    (.of_eq rfl) (by rw [giveUpCooling_pos]; exact ⟨rfl, rfl, rfl, rfl, .inr rfl⟩)

theorem giveUpCooling_draws (h : drawsKept s) : drawsKept (s.giveUpCooling p) :=
  drawsKept_at (giveUpCooling_fill s p) (fun hd => by rw [giveUpCooling_pos]; exact hd.2 p) h

theorem giveUpCooling_slots (hw : p ∉ s.precool.waitQueue) (h : slotsHeld s) : slotsHeld (s.giveUpCooling p) := by
  refine slotsHeld_at (giveUpCooling_fill s p) (.notWaiting rfl rfl (fun q hq => get_setAt_ne _ _ hq) (fun hf => ?_) fun _ => hw) h
  rw [giveUpCooling_pos]; exact hf

/-- R56 (5), R163 (2): a waiter withdraws and gives up its cooling. -/
theorem withdraw_keeps :
    Keeps s ((s.modPcl fun c => { c with waitQueue := c.waitQueue.erase p }).giveUpCooling p) := by
  set u := s.modPcl fun c => { c with waitQueue := c.waitQueue.erase p } with hu
  have hfill : FillOnly p s (u.giveUpCooling p) := (modPcl_fills s _ _ fun _ _ => rfl).trans (giveUpCooling_fill u p)
  have hpos : (u.giveUpCooling p).pos p = { s.pos p with coolWaitExpired := true } := giveUpCooling_pos u p
  have hplant : PlantKeeps s (u.giveUpCooling p) := (modPcl_plant s _).trans (giveUpCooling_flow u p).plant
  refine keeps_at hfill hplant (.of_eq rfl) ?_ (fun hd => ?_) ⟨⟨fun _ h => h, fun q hq => ?_, ?_⟩, fun hs hp => ?_, fun hs hp => ?_⟩
  · rw [hpos]; exact ⟨rfl, rfl, rfl, rfl, .inr rfl⟩
  · rw [hpos]; exact hd.2 p
  · exact get_setAt_ne _ _ hq
  · exact List.erase_sublist
  · have : p ∈ s.precool.waitQueue.erase p := hp
    simp [hs.2.1.mem_erase_iff] at this
  · rw [hpos]; exact hs.2.2.2.1 p hp

end

/-- R56: a position that has given up its cooling does not wait. -/
theorem notWaiting_of_givenUp (s : State) (p : Fin 4) :
    slotsHeld (s.giveUpCooling p) → p ∉ (s.giveUpCooling p).precool.waitQueue := notWaiting_of_grade (giveUpCooling_grade s p)

/-! ### The start sequence -/

section
variable (s : State) (p : Fin 4)

theorem coolWaitEnded_acts : Acts s (s.coolWaitEnded p) :=
  ((withdraw_keeps s p).trans (endCoolWaitCore_keeps _ p (notWaiting_of_givenUp _ p))).makeGrants

theorem takePInit_keeps : Keeps s (s.takePInit p) :=
  (modPos_keeps s p (fun q => { q with pInit := some (s.pDisp p), substateTimer := none })
    ⟨rfl, rfl, rfl, rfl, rfl, rfl, rfl, rfl⟩ (.inl rfl)).trans (modActive_keeps _ p _ fun _ => rfl)

theorem lookUpVariant_keeps : Keeps s (s.lookUpVariant p) := by
  unfold State.lookUpVariant
  split
  all_goals exact modPos_keeps s p _ ⟨rfl, rfl, rfl, rfl, rfl, rfl, rfl, rfl⟩ (.inl rfl)

theorem settleEnded_acts : Acts s (s.settleEnded p) := by
  unfold State.settleEnded
  dsimp only
  split
  · exact ((takePInit_keeps s p).trans (enterEndingCore_keeps _ p _)).makeGrants
  · exact (((takePInit_keeps s p).trans (lookUpVariant_keeps _ p)).trans (advanceUnlessHalted_keeps _ p)).makeGrants

theorem leakCheckEnded_acts : Acts s (s.leakCheckEnded p) := by
  have h := modPos_keeps s p (fun q => { q with substateTimer := none }) ⟨rfl, rfl, rfl, rfl, rfl, rfl, rfl, rfl⟩ (.inl rfl)
  unfold State.leakCheckEnded
  dsimp only
  split
  · exact (h.trans (enterEndingCore_keeps _ p _)).makeGrants
  · exact (h.trans (advanceUnlessHalted_keeps _ p)).makeGrants

end

/-! ### What leaves the wait queue -/

/-- The chiller stands, and positions at most leave the wait queue. -/
def WaitersLeave (s t : State) : Prop :=
  t.precool.chiller = s.precool.chiller ∧ t.precool.waitQueue.Sublist s.precool.waitQueue

namespace WaitersLeave
variable {s t u : State}

theorem of_precool (h : t.precool.chiller = s.precool.chiller ∧ t.precool.waitQueue = s.precool.waitQueue) : WaitersLeave s t :=
  ⟨h.1, by rw [h.2]⟩

theorem trans (h : WaitersLeave s t) (k : WaitersLeave t u) : WaitersLeave s u := ⟨k.1.trans h.1, k.2.trans h.2⟩

theorem notMem (h : WaitersLeave s t) {p : Fin 4} (hp : p ∉ s.precool.waitQueue) : p ∉ t.precool.waitQueue :=
  fun hm => hp (h.2.subset hm)

theorem nil (h : WaitersLeave s t) (hn : s.precool.waitQueue = []) : t.precool.waitQueue = [] := List.sublist_nil.1 (hn ▸ h.2)

end WaitersLeave

section
variable (s : State) (p : Fin 4)

theorem enterEndingCore_leaves (r : EndReason) : WaitersLeave s (s.enterEndingCore p r) := by
  cases h : (s.pos p).state.filling with
  | false => rw [enterEndingCore_idle h]; exact .of_precool ⟨rfl, rfl⟩
  | true =>
    rw [enterEndingCore_eq h]
    exact ⟨rfl, List.erase_sublist⟩

theorem enterHeld_leaves : WaitersLeave s (s.enterHeld p) := .of_precool (by simp [State.enterHeld, State.setFallback])

theorem putFactor_leaves (f : Factor) (b : Bool) : WaitersLeave s (s.putFactor p f b) := .of_precool ⟨rfl, rfl⟩

theorem activateCore_leaves (f : Factor) : WaitersLeave s (s.activateCore p f) := by
  rcases activateCore_cases s p f with h | ⟨-, ⟨sub, -, h⟩ | ⟨r, -, h⟩ | ⟨-, -, h⟩ | ⟨-, h⟩⟩ <;> rw [h]
  · exact .of_precool ⟨rfl, rfl⟩
  · exact putFactor_leaves s p f true
  · exact enterEndingCore_leaves s p r
  · exact (putFactor_leaves s p f true).trans (enterHeld_leaves _ p)
  · exact .of_precool ⟨rfl, rfl⟩

theorem relookupWarm_leaves : WaitersLeave s (s.relookupWarm p) := by
  unfold State.relookupWarm
  split
  · next t h => exact .of_precool (by rw [relookup_precool s p _ _ h]; exact ⟨rfl, rfl⟩)
  · exact activateCore_leaves s p _

theorem startWithoutBank_leaves : WaitersLeave s (s.startWithoutBank p) := by
  unfold State.startWithoutBank
  split
  · exact enterEndingCore_leaves s p _
  · exact (putFactor_leaves s p _ true).trans (enterHeld_leaves _ p)

theorem beginFill_leaves (i : Fin 16) (f : FillProfile) (pInit : Nat) : WaitersLeave s (s.beginFill p i f pInit) := by
  unfold State.beginFill
  dsimp only
  set u := (s.recordProfile p i (s.grade p) (s.pos p).commMode).modPos p fun q =>
    { q with valve := 0, ramp := q.ramp.onProfile i f (10 * pInit) } with hu
  have h : WaitersLeave s u := .of_precool (by simp [hu, State.recordProfile])
  split
  · exact h.trans (enterEndingCore_leaves u p _)
  · split
    · split
      · exact h.trans (.of_precool (by simp [State.enterFuelling]))
      · exact h.trans (startWithoutBank_leaves u p)
    · exact h.trans (enterHeld_leaves u p)

theorem startLookupCore_leaves : WaitersLeave s (s.startLookupCore p) := by
  unfold State.startLookupCore
  dsimp only
  split
  · exact enterEndingCore_leaves s p _
  · split
    · exact enterEndingCore_leaves s p _
    · exact beginFill_leaves s p _ _ _

/-- R56: the end of a wait lets at most the position itself leave the wait queue. -/
theorem endCoolWaitCore_leaves : WaitersLeave s (s.endCoolWaitCore p) := by
  unfold State.endCoolWaitCore State.advanceUnlessHalted
  split
  · next h =>
    set u := s.modPos p fun q => { q with coolWaitTimer := none } with hu
    have hpos : u.pos p = { s.pos p with coolWaitTimer := none } := modPos_pos_self s p _
    split
    · exact .of_precool ⟨rfl, rfl⟩
    · have e : u.advanceCore p = u.startLookupCore p := by simp [State.advanceCore, hpos, h]
      rw [e]
      exact startLookupCore_leaves u p
  · exact .of_precool ⟨rfl, rfl⟩

theorem giveUpCooling_leaves : WaitersLeave s (s.giveUpCooling p) := .of_precool ⟨rfl, rfl⟩

/-! ### The loss of the slots -/

theorem loseSlot_leaves : WaitersLeave s (s.loseSlot p) := by
  unfold State.loseSlot
  split
  · exact WaitersLeave.trans (t := (s.setGrade p (some .g0)).setFallback p none) (.of_precool ⟨rfl, rfl⟩) (relookupWarm_leaves _ p)
  · exact WaitersLeave.trans (t := (s.setGrade p (some .g0)).setFallback p none) (.of_precool ⟨rfl, rfl⟩) (relookupWarm_leaves _ p)
  · exact giveUpCooling_leaves s p
  all_goals exact .of_precool ⟨rfl, rfl⟩

/-- R74: a former holder in FUELLING or HELD is looked up again at G0. -/
theorem loseSlot_running_keeps (h : (s.pos p).state.isStarting = false) :
    Keeps s (((s.setGrade p (some .g0)).setFallback p none).relookupWarm p) :=
  ((setGrade_keeps s p (some .g0) (notWaiting_of_state h)).trans (setFallback_keeps _ p none)).trans (relookupWarm_keeps _ p)

/-- What the loss of a slot keeps, whether or not the position waits for another. -/
theorem loseSlot_flow : Flow s (s.loseSlot p) ∧ (drawsKept s → drawsKept (s.loseSlot p)) := by
  unfold State.loseSlot
  split
  · next h =>
    have hk := loseSlot_running_keeps s p (by rw [h]; rfl)
    exact ⟨hk.toFlow, hk.draws⟩
  · next h =>
    have hk := loseSlot_running_keeps s p (by rw [h]; rfl)
    exact ⟨hk.toFlow, hk.draws⟩
  · exact ⟨giveUpCooling_flow s p, giveUpCooling_draws s p⟩
  all_goals exact ⟨.refl s, id⟩

theorem loseSlot_slots (hw : p ∉ s.precool.waitQueue) (hs : slotsHeld s) : slotsHeld (s.loseSlot p) := by
  unfold State.loseSlot
  split
  · next h => exact (loseSlot_running_keeps s p (by rw [h]; rfl)).slots hs
  · next h => exact (loseSlot_running_keeps s p (by rw [h]; rfl)).slots hs
  · exact giveUpCooling_slots s p hw hs
  all_goals exact hs

end

theorem loseSlots_flow (l : List (Fin 4)) (s : State) :
    Flow s (l.foldl State.loseSlot s) ∧ (drawsKept s → drawsKept (l.foldl State.loseSlot s)) := by
  induction l generalizing s with
  | nil => exact ⟨.refl s, id⟩
  | cons p l ih =>
    obtain ⟨hf, hd⟩ := loseSlot_flow s p
    obtain ⟨kf, kd⟩ := ih (s.loseSlot p)
    exact ⟨hf.trans kf, kd ∘ hd⟩

theorem loseSlots_slots (l : List (Fin 4)) (s : State) (hw : ∀ p ∈ l, p ∉ s.precool.waitQueue) (hs : slotsHeld s) :
    slotsHeld (l.foldl State.loseSlot s) := by
  induction l generalizing s with
  | nil => exact hs
  | cons p l ih =>
    refine ih _ (fun q hq => (loseSlot_leaves s p).notMem (hw q (List.mem_cons_of_mem _ hq))) ?_
    exact loseSlot_slots s p (hw p List.mem_cons_self) hs

theorem loseSlots_leaves (l : List (Fin 4)) (s : State) : WaitersLeave s (l.foldl State.loseSlot s) := by
  induction l generalizing s with
  | nil => exact .of_precool ⟨rfl, rfl⟩
  | cons p l ih => exact (loseSlot_leaves s p).trans (ih _)

section
variable (s : State)

/-- A change of the chiller that touches no slot, no grade and no timer keeps the relations but for the grants due. -/
theorem modPcl_keeps (f : Precool → Precool) (hh : (f s.precool).holders = s.precool.holders)
    (hq : (f s.precool).waitQueue = s.precool.waitQueue) (hg : (f s.precool).grades = s.precool.grades) : Keeps s (s.modPcl f) := by
  refine ⟨⟨modPcl_plant s f, id, fun _ h => h⟩, id, fun ⟨h1, h2, h3, h4, h5⟩ => ?_⟩
  refine ⟨hh ▸ h1, hq ▸ h2, fun p hp => ?_, fun p hp => h4 p (hh ▸ hp), fun hc => ?_⟩
  · obtain ⟨w1, w2, w3, w4, w5⟩ := h3 p (hq ▸ hp)
    exact ⟨w1, w2, by rw [← w3]; exact congrArg (·.has p) hh, by rw [← w4]; exact congrArg (·.get p) hg, w5⟩
  · obtain ⟨e1, e2⟩ := h5 hc
    exact ⟨hh.trans e1, hq.trans e2⟩

/-- R157 (2): every holder loses its slot. -/
theorem releaseSlots_keeps : Keeps s s.releaseSlots := by
  set u := s.modPcl fun c => { c with holders := .empty } with hu
  set l := allPositions.filter s.precool.holders.has with hl
  obtain ⟨hf, hd⟩ := loseSlots_flow l u
  have hk : Flow s u := ⟨modPcl_plant s _, id, fun _ h => h⟩
  refine ⟨hk.trans hf, hd, fun hs => loseSlots_slots l u (fun p hp hq => ?_) ?_⟩
  · have hh : s.precool.holders.has p = true := (List.mem_filter.1 (hl ▸ hp)).2
    have := (hs.2.2.1 p hq).2.2.1
    simp [hh] at this
  · obtain ⟨-, h2, h3, -, h5⟩ := hs
    refine ⟨Nat.zero_le _, h2, fun p hp => ?_, fun p hp => ?_, fun hc => ⟨rfl, (h5 hc).2⟩⟩
    · obtain ⟨w1, w2, -, w4, w5⟩ := h3 p hp
      exact ⟨w1, w2, PosSet.has_empty p, w4, w5⟩
    · rw [hu, modPcl_precool, PosSet.has_empty] at hp
      exact absurd hp (by simp)

theorem releaseSlots_leaves : WaitersLeave s s.releaseSlots :=
  (WaitersLeave.of_precool (t := s.modPcl fun c => { c with holders := .empty }) ⟨rfl, rfl⟩).trans (loseSlots_leaves _ _)

/-- R162: no grant is due while the chiller is not READY. -/
theorem noGrantDue_of_chiller {s : State} (h : s.precool.chiller ≠ .ready) : noGrantDue s := .inl (by simp [State.slotFree, h])

/-! ### The waiters -/

theorem withdrawWaiter_keeps (p : Fin 4) (h : s.precool.waitQueue = []) : Keeps s (s.withdrawWaiter p) := by
  have hw : p ∉ s.precool.waitQueue := by simp [h]
  exact Keeps.trans ⟨giveUpCooling_flow s p, giveUpCooling_draws s p, giveUpCooling_slots s p hw⟩
    (endCoolWaitCore_keeps _ p (notWaiting_of_givenUp s p))

theorem withdrawWaiter_leaves (p : Fin 4) : WaitersLeave s (s.withdrawWaiter p) :=
  (giveUpCooling_leaves s p).trans (endCoolWaitCore_leaves _ p)

end

theorem withdrawAll_keeps (l : List (Fin 4)) (s : State) (h : s.precool.waitQueue = []) :
    Keeps s (l.foldl State.withdrawWaiter s) ∧ WaitersLeave s (l.foldl State.withdrawWaiter s) := by
  induction l generalizing s with
  | nil => exact ⟨.refl s, .of_precool ⟨rfl, rfl⟩⟩
  | cons p l ih =>
    have hl := withdrawWaiter_leaves s p
    obtain ⟨kf, kl⟩ := ih (s.withdrawWaiter p) (hl.nil h)
    exact ⟨(withdrawWaiter_keeps s p h).trans kf, hl.trans kl⟩

section
variable (s : State)

/-- R159 (1): the wait queue is emptied. -/
theorem emptyQueue_keeps : Keeps s (s.modPcl fun c => { c with waitQueue := [] }) :=
  ⟨⟨modPcl_plant s _, id, fun _ h => h⟩, id, fun ⟨h1, _, _, h4, h5⟩ => ⟨h1, List.nodup_nil, by simp, h4, fun hc => ⟨(h5 hc).1, rfl⟩⟩⟩

theorem withdrawWaiters_keeps : Keeps s s.withdrawWaiters ∧ WaitersLeave s s.withdrawWaiters := by
  obtain ⟨hk, hl⟩ := withdrawAll_keeps s.precool.waitQueue (s.modPcl fun c => { c with waitQueue := [] }) rfl
  exact ⟨(emptyQueue_keeps s).trans hk, hl.1, hl.2.trans (List.nil_sublist _)⟩

/-! ### The chiller -/

theorem setChiller_keeps (c : ChillerState) : Keeps s (s.setChiller c) := modPcl_keeps s _ rfl rfl rfl

/-- An event that leaves the chiller out of READY leaves no grant due. -/
theorem Keeps.acts_of_chiller {s t : State} (h : Keeps s t) (hc : t.precool.chiller ≠ .ready) : Acts s t :=
  ⟨h, fun _ => noGrantDue_of_chiller hc⟩

theorem setReady_makeGrants_acts (v : Nat) : Acts s (s.setReady v).makeGrants :=
  (modPcl_keeps s (fun x => { x with chiller := .ready, offered := s.site.gradeFor v }) rfl rfl rfl).makeGrants

theorem enterFault_acts : Acts s s.enterFault := by
  refine (((setChiller_keeps s .fault).trans (releaseSlots_keeps _)).trans (raise_keeps _ _)).acts_of_chiller ?_
  change (s.setChiller .fault).releaseSlots.precool.chiller ≠ .ready
  rw [(releaseSlots_leaves (s.setChiller .fault)).1]
  simp [State.setChiller]

theorem faultArises_acts : Acts s s.faultArises := by
  unfold State.faultArises
  split
  · exact .refl s
  · exact enterFault_acts s

theorem faultLineChange_acts (b : Bool) : Acts s (s.faultLineChange b) := by
  have h := (modPcl_keeps s (fun c => { c with faultLine := b }) rfl rfl rfl).acts rfl rfl rfl rfl
  unfold State.faultLineChange
  dsimp only
  split
  · exact h.trans (faultArises_acts _)
  · exact h

theorem coolantFailed_acts : Acts s s.coolantFailed := by
  have h := (modPcl_keeps s (fun c => { c with coolantCause := true }) rfl rfl rfl).acts rfl rfl rfl rfl
  unfold State.coolantFailed
  dsimp only
  split
  · exact h
  · exact h.trans (faultArises_acts _)

theorem coolantReturned_acts : Acts s s.coolantReturned := (modPcl_keeps s _ rfl rfl rfl).acts rfl rfl rfl rfl

theorem coolantTaken_acts (v : Nat) : Acts s (s.coolantTaken v) := by
  have h := (modPcl_keeps s (fun c => { c with coolantSeen := true }) rfl rfl rfl).acts rfl rfl rfl rfl
  have hp (u : State) : Acts u (u.setChiller .pulldown) := (setChiller_keeps u _).acts_of_chiller (by simp [State.setChiller])
  unfold State.coolantTaken
  dsimp only
  split
  · split
    · exact h.trans (setReady_makeGrants_acts _ v)
    · exact h.trans (hp _)
  · next hr =>
    split
    · exact h.trans (hp _)
    · exact h.trans ((modPcl_keeps _ _ rfl rfl rfl).acts hr.symm rfl rfl rfl)
  all_goals exact h

theorem enterPulldown_acts : Acts s s.enterPulldown := by
  have h : Acts s (s.setChiller .pulldown) := (setChiller_keeps s _).acts_of_chiller (by simp [State.setChiller])
  unfold State.enterPulldown
  dsimp only
  split
  · split
    · exact h.trans (setReady_makeGrants_acts _ _)
    · exact h
  · exact h

theorem switchChillerOn_acts : Acts s s.switchChillerOn := by
  unfold State.switchChillerOn
  split
  · exact enterFault_acts s
  · exact enterPulldown_acts s

theorem recomputeOffered_acts : Acts s s.recomputeOffered := (modPcl_keeps s _ rfl rfl rfl).acts rfl rfl rfl rfl

theorem commissionChiller_acts : Acts s s.commissionChiller := by
  unfold State.commissionChiller
  split
  · exact switchChillerOn_acts s
  · exact recomputeOffered_acts s

theorem switchChillerOff_acts : Acts s s.switchChillerOff := by
  obtain ⟨hk, hl⟩ := withdrawWaiters_keeps (s.setChiller .off).releaseSlots
  refine (((setChiller_keeps s .off).trans (releaseSlots_keeps _)).trans hk).acts_of_chiller ?_
  rw [hl.1, (releaseSlots_leaves _).1]
  simp [State.setChiller]

end

end Sys2Proof.Machine
end

section
/-! PROOFS. The start test keeps the six relations. -/

namespace Sys2Proof.Machine

/-- R51: a position and its ticket at entry into STARTING, before the P_disp channel and the banks are asked for. -/
def State.startBegun (s : State) (p : Fin 4) : State :=
  let s := s.modActive p fun t => t.started s.clock
  (s.modPos p fun q => q.started (s.sensorDoubt p)).requestSlot p

theorem enterStartingCore_eq (s : State) (p : Fin 4) :
    s.enterStartingCore p =
      if (s.startBegun p).namedState ((s.startBegun p).cfg p).pDisp = some .failed then (s.startBegun p).enterEndingCore p .sensorFail
      else (s.startBegun p).enterPulseCore p := rfl

/-- R50: what a start test that passes has found. -/
theorem mayStart_found {s : State} {p : Fin 4} (h : s.mayStart p = true) :
    (s.pos p).state = .calling ∧ s.commissioned = true ∧
    ∃ n k, (s.pos p).active = some n ∧ s.ticket n = some k ∧ k.state = .authorized := by
  simp only [State.mayStart, Bool.and_eq_true, beq_iff_eq] at h
  obtain ⟨⟨⟨⟨⟨hst, ht⟩, -⟩, -⟩, -⟩, hcom⟩ := h
  obtain ⟨k, hk, ha⟩ := (Option.any_eq_true _ _).1 ht
  obtain ⟨n, hn, hk⟩ := Option.bind_eq_some_iff.1 hk
  exact ⟨hst, hcom, n, k, hn, hk, beq_iff_eq.1 ha⟩

section
variable (s : State) (p : Fin 4)

/-! ### The slot request -/

theorem requestSlot_fill : FillOnly p s (s.requestSlot p) := by
  unfold State.requestSlot
  dsimp only
  split
  · split
    · exact (setGrade_fills s p _ _).trans (grantSlot_fills _ p _)
    · exact (setGrade_fills s p _ _).trans (modPcl_fills _ _ _ fun _ _ => rfl)
  · exact setGrade_fills s p _ _

@[simp] theorem requestSlot_positions : (s.requestSlot p).positions = s.positions := by
  unfold State.requestSlot; dsimp only; repeat' split
  all_goals rfl

@[simp] theorem requestSlot_tickets : (s.requestSlot p).tickets = s.tickets := by
  unfold State.requestSlot; dsimp only; repeat' split
  all_goals rfl

@[simp] theorem requestSlot_pos (q : Fin 4) : (s.requestSlot p).pos q = s.pos q := by simp [State.pos]

theorem requestSlot_plant : PlantKeeps s (s.requestSlot p) := by
  unfold State.requestSlot
  dsimp only
  split
  · split
    · exact (modPcl_plant s _).trans (modPcl_plant _ _)
    · exact (modPcl_plant s _).trans (modPcl_plant _ _)
  · exact modPcl_plant s _

/-- R161: a position at its entry into STARTING takes a slot, waits for one, or needs none. -/
theorem requestSlot_slots (hst : (s.pos p).state = .starting .pulse) (hce : (s.pos p).coolWaitExpired = false)
    (hcom : s.commissioned = true) (hw : p ∉ s.precool.waitQueue) (hn : s.precool.holders.has p = false) (h : slotsHeld s) :
    slotsHeld (s.requestSlot p) := by
  have hgrade := (setGrade_keeps s p none fun _ => hw).slots h
  have hg : (s.setGrade p none).grade p = none := get_setAt_self _ _ _
  unfold State.requestSlot
  dsimp only
  split
  · next hcool =>
    obtain ⟨h1, h2, h3, h4, h5⟩ := hgrade
    split
    · next hfree =>
      obtain ⟨hfree, hempty⟩ := Bool.and_eq_true_iff.1 hfree
      have hq : s.precool.waitQueue = [] := List.isEmpty_iff.1 hempty
      simp only [State.slotFree, Bool.and_eq_true, decide_eq_true_eq] at hfree
      refine ⟨(PosSet.size_put_le _ p).trans hfree.2, ?_, ?_, fun q hq => ?_, fun hc => ?_⟩
      · simp [State.grantSlot, State.setGrade, hq]
      · simp [State.grantSlot, State.setGrade, hq]
      · rw [State.grantSlot, modPcl_precool] at hq
        dsimp only at hq
        rw [PosSet.has_put] at hq
        split at hq
        · next e => subst e; change (s.pos q).state.filling = true; rw [hst]; rfl
        · exact h4 q hq
      · exact absurd (hcom.symm.trans hc) (by simp)
    · refine ⟨h1, ?_, fun q hq => ?_, h4, fun hc => absurd (hcom.symm.trans hc) (by simp)⟩
      · rw [modPcl_precool]
        exact List.nodup_append.2 ⟨h2, List.nodup_singleton p, fun x hx y hy => by
          rw [List.mem_singleton.1 hy]; rintro rfl; exact hw hx⟩
      · rcases List.mem_append.1 hq with hq | hq
        · exact h3 q hq
        · obtain rfl := List.mem_singleton.1 hq
          refine ⟨?_, hcool, hn, hg, hce, fun e => ?_⟩
          · change (s.pos q).state.isStarting = true; rw [hst]; rfl
          · exact absurd (hst.symm.trans e) (by simp)
  · exact (setGrade_keeps s p (some .g0) fun _ => hw).slots h

/-! ### The entry into STARTING -/

theorem startBegun_fill : FillOnly p s (s.startBegun p) := by
  have ht := modActive_fill s p (fun t => t.started s.clock) fun _ => rfl
  refine .trans (.trans ht (modPos_fill _ p _ ?_)) (requestSlot_fill _ p)
  exact ⟨rfl, rfl⟩

theorem startBegun_pos : (s.startBegun p).pos p = (s.pos p).started ((s.modActive p fun t => t.started s.clock).sensorDoubt p) := by
  simp [State.startBegun]

theorem startBegun_get (i : Fin 32) :
    (s.startBegun p).tickets.get i =
      if (s.pos p).active.bind s.ticketSlot = some i then (s.tickets.get i).map fun k => k.started s.clock else s.tickets.get i := by
  unfold State.startBegun
  dsimp only
  rw [requestSlot_tickets, modPos_tickets, modActive_get]

theorem startBegun_plant : PlantKeeps s (s.startBegun p) :=
  ((modActive_plant s p _).trans (modPos_plant _ p (fun q => q.started ((s.modActive p fun t => t.started s.clock).sensorDoubt p))
    fun _ => .inr rfl)).trans (requestSlot_plant _ p)

theorem startBegun_slots (h : s.mayStart p = true) (hs : slotsHeld s) : slotsHeld (s.startBegun p) := by
  obtain ⟨hst, hcom, -⟩ := mayStart_found h
  have hw := notWaiting_of_state (s := s) (p := p) (by rw [hst]; rfl) hs
  have hn : s.precool.holders.has p = false := by
    by_contra hh
    have := hs.2.2.2.1 p (by simpa using hh)
    simp [hst, PosState.filling] at this
  set u := s.modActive p fun t => t.started s.clock with hu
  have hpos : (u.modPos p fun q => q.started (u.sensorDoubt p)).pos p = (s.pos p).started (u.sensorDoubt p) := by
    rw [modPos_pos_self, hu, modActive_pos]
  refine requestSlot_slots (u.modPos p fun q => q.started (u.sensorDoubt p)) p ?_ ?_ ?_ ?_ ?_ ?_
  · rw [hpos]; rfl
  · rw [hpos]; rfl
  · simpa [hu] using hcom
  · simpa [hu] using hw
  · simpa [hu] using hn
  · have hf : FillOnly p s (u.modPos p fun q => q.started (u.sensorDoubt p)) :=
      (modActive_fill s p (fun t => t.started s.clock) fun _ => rfl).trans (modPos_fill u p (fun q => q.started _) ⟨rfl, rfl⟩)
    refine slotsHeld_at hf (.notWaiting (by simp [hu]) (by simp [hu]) (fun q _ => by simp [State.grade, hu]) (fun _ => ?_) fun _ => hw) hs
    rw [hpos]; rfl

/-- R10, R51: the AUTHORIZED ticket of a position in CALLING becomes FUELLING with the entry into STARTING. -/
theorem startBegun_tickets (h : s.mayStart p = true) (ht : ticketsKept s) : ticketsKept (s.startBegun p) := by
  obtain ⟨hst, hcom, n, k₀, hn, hk₀, hauth⟩ := mayStart_found h
  obtain ⟨i₀, hi₀, hk₀⟩ := Option.bind_eq_some_iff.1 hk₀
  have hf := startBegun_fill s p
  have hpos := startBegun_pos s p
  have hp₀ := active_position ht hn hi₀ hk₀
  have hget (i : Fin 32) : (s.startBegun p).tickets.get i = if i = i₀ then some (k₀.started s.clock) else s.tickets.get i := by
    rw [startBegun_get, hn, Option.bind_some, hi₀]
    by_cases hi : i = i₀
    · subst hi; simp [hk₀]
    · rw [if_neg hi, if_neg fun e => hi (Option.some.inj e).symm]
  obtain ⟨hnum, hpl, href, hmax, hused⟩ := ht
  have hnumber := number_of_slot hi₀ hk₀
  /- No other ticket of the position is ACTIVE or FUELLING. -/
  have hother : ∀ i k, i ≠ i₀ → s.tickets.get i = some k → k.position = p → k.attachment ≠ .active ∧ k.state ≠ .fuelling := by
    intro i k hi hk hkp
    obtain ⟨-, hact, -, hfu, -⟩ := hpl i k hk
    have hna : k.attachment ≠ .active := fun ha => by
      have := hact.1 ha
      rw [hkp, hn] at this
      exact hnum i i₀ hi k hk k₀ hk₀ (by rw [hnumber]; exact (Option.some.inj this).symm)
    exact ⟨hna, fun hs => hna (hfu.1 hs).1⟩
  have hslots (q : Fin 4) : ((s.startBegun p).pos q).active = (s.pos q).active ∧ ((s.startBegun p).pos q).staged = (s.pos q).staged :=
    hf.slots q
  refine ⟨fun i j hij k hk l hl => ?_, fun i k hk => ?_, fun q => ?_, fun q hb => ?_, fun i k hk hs => ?_⟩
  · have hback (i : Fin 32) (k : Ticket) (hk : (s.startBegun p).tickets.get i = some k) :
        ∃ k', s.tickets.get i = some k' ∧ k'.number = k.number := by
      rw [hget] at hk
      split at hk
      · next e => subst e; obtain rfl := Option.some.inj hk; exact ⟨k₀, hk₀, rfl⟩
      · exact ⟨k, hk, rfl⟩
    obtain ⟨k', hk', ek⟩ := hback i k hk
    obtain ⟨l', hl', el⟩ := hback j l hl
    rw [← ek, ← el]
    exact hnum i j hij k' hk' l' hl'
  · rw [Option.mem_def, hget] at hk
    unfold ticketPlaced
    rw [(hslots _).1, (hslots _).2]
    split at hk
    · obtain rfl := Option.some.inj hk
      obtain ⟨h1, h2, h3, -⟩ := hpl i₀ k₀ hk₀
      have ha : k₀.attachment = .active := h2.2 (by rw [hp₀, hn, hnumber])
      refine ⟨h1, h2, h3, ?_, ?_, ?_, ?_, ?_⟩
      · change _ ↔ k₀.attachment = .active ∧ ((s.startBegun p).pos k₀.position).state.busy = true
        rw [hp₀, hpos]
        simp [Ticket.started, Position.started, ha, PosState.busy, PosState.filling]
      all_goals simp [Ticket.started, ha]
    · next hi =>
      have := hpl i k hk
      unfold ticketPlaced at this
      by_cases hkp : k.position = p
      · obtain ⟨hna, hnf⟩ := hother i k hi hk hkp
        obtain ⟨a, b, c, d, e, f, g, w⟩ := this
        exact ⟨a, b, c, ⟨fun x => absurd x hnf, fun x => absurd x.1 hna⟩, e, f, fun x => absurd x hna, w⟩
      · rw [hf.pos _ hkp]; exact this
  · have hany (m : Nat) (hm : (s.ticket m).any (fun k => decide (k.position = q)) = true) :
        ((s.startBegun p).ticket m).any (fun k => decide (k.position = q)) = true := by
      unfold State.ticket at hm ⊢
      rw [hf.ticketSlot]
      cases hi : s.ticketSlot m with
      | none => simp [hi] at hm
      | some i =>
        rw [hi] at hm
        simp only [Option.bind_some] at hm ⊢
        rw [hget]
        split
        · next e => subst e; simpa [hk₀, Ticket.started] using hm
        · exact hm
    obtain ⟨r1, r2, r3, r4⟩ := href q
    refine ⟨?_, ?_, ?_, fun hc => ?_⟩
    · rw [(hslots q).1]; exact fun m hm => hany m (r1 m hm)
    · rw [(hslots q).2]; exact fun m hm => hany m (r2 m hm)
    · rw [(hslots q).1]
      by_cases hq : q = p
      · subst hq; rw [hn]; exact fun _ => rfl
      · rw [hf.pos q hq]; exact r3
    · rw [hf.commissioned, hcom] at hc
      simp at hc
  · rw [hf.cfg]
    by_cases hq : q = p
    · subst hq; rw [hpos]; exact Nat.zero_le _
    · rw [hf.pos q hq] at hb ⊢
      exact hmax q hb
  · rw [Option.mem_def, hget] at hk
    split at hk
    · obtain rfl := Option.some.inj hk
      change 0 = ((s.startBegun p).pos k₀.position).holdTime / 1000
      rw [hp₀, hpos]
      exact (Nat.zero_div 1000).symm
    · next hi =>
      by_cases hkp : k.position = p
      · exact absurd hs (hother i k hi hk hkp).2
      · rw [hf.pos _ hkp]; exact hused i k hk hs

theorem startBegun_ledger (hl : ledgerKept s) : ledgerKept (s.startBegun p) := by
  have hf := startBegun_fill s p
  have hacc : (s.startBegun p).accounts = s.accounts := accounts_of_base hf.base
  refine ledgerKept_of_claims (fun i => ?_) hacc (by rw [hf.site]) (fun hl i k hk => ?_) hl
  · rw [startBegun_get]
    split
    · cases s.tickets.get i <;> rfl
    · rfl
  · have hfund : ticketFunded (s.startBegun p) k ↔ ticketFunded s k := by
      unfold ticketFunded
      simp only [account_congr hacc]
    rw [hfund]
    rw [Option.mem_def, startBegun_get] at hk
    split at hk
    · obtain ⟨l, hl', rfl⟩ := Option.map_eq_some_iff.1 hk
      obtain ⟨-, f2, f3, f4, -⟩ := hl.2.2.2.1 i l hl'
      exact ⟨fun h => by simp [Ticket.started] at h, f2, f3, f4, by simp [Ticket.started]⟩
    · exact hl.2.2.2.1 i k hk

theorem startBegun_flow (h : s.mayStart p = true) : Flow s (s.startBegun p) :=
  ⟨startBegun_plant s p, startBegun_tickets s p h, fun _ => startBegun_ledger s p⟩

/-! ### The start test -/

/-- R51, R52: a start ends at once, or its position draws on a bank in PULSE. -/
theorem enterStartingCore_keeps (h : s.mayStart p = true) : Keeps s (s.enterStartingCore p) := by
  obtain ⟨-, hcom, -⟩ := mayStart_found h
  have hmid := startBegun_flow s p h
  have hf := startBegun_fill s p
  have hstate : ((s.startBegun p).pos p).state = .starting .pulse := by rw [startBegun_pos]; rfl
  have hends (r : EndReason) : Keeps s ((s.startBegun p).enterEndingCore p r) := by
    have hk := enterEndingCore_keeps (s.startBegun p) p r
    refine ⟨hmid.trans hk.toFlow, drawsKept_at (hf.trans (enterEndingCore_fill _ p r)) fun _ => ?_,
      fun hs => hk.slots (startBegun_slots s p h hs)⟩
    rw [enterEndingCore_pos (by rw [hstate]; rfl)]
    simp [DrawOk, endedPosition, hcom]
  rw [enterStartingCore_eq]
  split
  · exact hends _
  · unfold State.enterPulseCore
    split
    · exact hends _
    · next b _ =>
      set u := s.startBegun p with hu
      have hjoin : Keeps u ((u.joinBank p b).modPos p fun q =>
          { q with valve := u.site.pulseOpening, substateTimer := some u.site.pulseTime }) :=
        draw_keeps (.refl u p) b _ (fun _ => ⟨rfl, rfl, rfl, rfl⟩) (by rw [hstate]; rfl) (.inr ⟨hstate, hstate⟩) (fun hd => hd.1)
          (fun _ e => by simp [hstate] at e) rfl fun e => by simp [hstate] at e
      have hpos : ((u.joinBank p b).modPos p fun q =>
          { q with valve := u.site.pulseOpening, substateTimer := some u.site.pulseTime }).pos p =
          { u.pos p with drawBank := some b, valve := u.site.pulseOpening, substateTimer := some u.site.pulseTime } := by
        rw [modPos_pos_self, joinBank_pos, if_pos rfl]
      refine ⟨hmid.trans hjoin.toFlow, drawsKept_at ((hf.trans (joinBank_fill u p b)).trans (modPos_fill _ p _ ⟨rfl, rfl⟩)) fun hd => ?_,
        fun hs => hjoin.slots (startBegun_slots s p h hs)⟩
      rw [hpos]
      refine ⟨?_, fun e => by simp [hstate] at e, by simp [hcom]⟩
      rw [if_pos (.inr hstate)]
      exact ⟨rfl, by rw [hu, hf.site]; exact hd.1⟩

theorem startTest_acts : Acts s (s.startTest p) := by
  unfold State.startTest
  split
  · next h => exact (enterStartingCore_keeps s p h).makeGrants
  · exact .refl s

theorem startTestAll_acts : Acts s s.startTestAll := Acts.foldl _ startTest_acts _ s

theorem metrologyChange_acts (closed : Bool) : Acts s (s.metrologyChange closed) := by
  have hlock (b : Bool) (n : Nat) : Acts s { s with tradeLockOpen := b, metrologyCount := n } :=
    acts_of_plant ⟨id, id⟩ rfl rfl rfl rfl rfl rfl rfl
  unfold State.metrologyChange
  split
  · exact (hlock false s.metrologyCount).trans (startTestAll_acts _)
  · exact (hlock true _).trans (raise_acts _ _)

theorem couplingClosed_acts : Acts s (s.couplingClosed p) := by
  unfold State.couplingClosed
  split
  · exact .refl s
  · exact .refl s
  · exact (listen_acts s p).trans (startTest_acts _ p)
  all_goals exact listen_acts s p

end

end Sys2Proof.Machine
end

section
/-! PROOFS. What one entry of the ticket table, of the account table or of a position's slots may change within the relations on the
tickets and on the ledger. -/

namespace Sys2Proof.Machine

/-! ### Accounts by number -/

theorem number_of_accountSlot {s : State} {n : Nat} {j : Fin 64} {a : Account} (hj : s.accountSlot n = some j)
    (ha : s.accounts.get j = some a) : a.number = n := by
  obtain ⟨b, hb, hn⟩ := findSlot_some hj
  obtain rfl : a = b := Option.some.inj (ha.symm.trans hb)
  exact beq_iff_eq.1 hn

/-- R22: no two accounts in the table have one number. -/
def AccountsDistinct (s : State) : Prop :=
  ∀ i j, i ≠ j → ∀ a ∈ s.accounts.get i, ∀ b ∈ s.accounts.get j, a.number ≠ b.number

theorem accountSlot_of_get {s : State} (h : AccountsDistinct s) {j : Fin 64} {a : Account} (ha : s.accounts.get j = some a) :
    s.accountSlot a.number = some j := by
  cases hi : s.accountSlot a.number with
  | none =>
    have := findSlot_none.1 hi j a ha
    simp at this
  | some i =>
    obtain ⟨b, hb, hn⟩ := findSlot_some hi
    by_cases hij : i = j
    · rw [hij]
    · exact absurd (beq_iff_eq.1 hn) (h i j hij b hb a ha)

theorem accountSlot_some {s : State} {n : Nat} {j : Fin 64} (hj : s.accountSlot n = some j) : ∃ a, s.accounts.get j = some a := by
  obtain ⟨a, ha, -⟩ := findSlot_some hj
  exact ⟨a, ha⟩

/-- An account in the table is found. -/
theorem account_isSome_iff {s : State} {n : Nat} :
    (s.account n).isSome = true ↔ ∃ j a, s.accounts.get j = some a ∧ a.number = n := by
  unfold State.account
  cases hj : s.accountSlot n with
  | none =>
    constructor
    · intro h; simp at h
    · rintro ⟨j, a, ha, hn⟩
      have := findSlot_none.1 hj j a ha
      simp [hn] at this
  | some j =>
    obtain ⟨a, ha⟩ := accountSlot_some hj
    simp only [Option.bind_some, ha, Option.isSome_some, true_iff]
    exact ⟨j, a, ha, number_of_accountSlot hj ha⟩

theorem modAccount_get (s : State) (n : Nat) (f : Account → Account) (j : Fin 64) :
    (s.modAccount n f).accounts.get j =
      if s.accountSlot n = some j then (s.accounts.get j).map f else s.accounts.get j := by
  unfold State.modAccount
  cases hi : s.accountSlot n with
  | none => simp
  | some i =>
    dsimp only
    rw [get_modAt]
    by_cases hij : j = i
    · subst hij; simp
    · rw [if_neg hij, if_neg fun e => hij (Option.some.inj e).symm]

/-- An account of the table after a change of one of them. -/
theorem modAccount_back {s : State} {n : Nat} {f : Account → Account} (hf : ∀ a, (f a).number = a.number) {j : Fin 64} {b : Account}
    (hb : (s.modAccount n f).accounts.get j = some b) :
    ∃ a, s.accounts.get j = some a ∧ b.number = a.number ∧ (a.number = n ∧ b = f a ∨ s.accountSlot n ≠ some j ∧ b = a) := by
  rw [modAccount_get] at hb
  split at hb
  · next hj =>
    obtain ⟨a, ha, rfl⟩ := Option.map_eq_some_iff.1 hb
    exact ⟨a, ha, hf a, .inl ⟨number_of_accountSlot hj ha, rfl⟩⟩
  · next hj => exact ⟨b, hb, rfl, .inr ⟨hj, rfl⟩⟩

theorem modAccount_isSome (s : State) (n m : Nat) (f : Account → Account) (hf : ∀ a, (f a).number = a.number)
    (h : (s.account m).isSome = true) : ((s.modAccount n f).account m).isSome = true := by
  obtain ⟨j, a, ha, hm⟩ := account_isSome_iff.1 h
  refine account_isSome_iff.2 ⟨j, if s.accountSlot n = some j then f a else a, ?_, ?_⟩
  · rw [modAccount_get, ha]; split <;> rfl
  · split
    · rw [hf, hm]
    · exact hm

theorem modAccount_distinct {s : State} {n : Nat} {f : Account → Account} (hf : ∀ a, (f a).number = a.number)
    (h : AccountsDistinct s) : AccountsDistinct (s.modAccount n f) := by
  intro i j hij a ha b hb
  obtain ⟨a', ha', ea, -⟩ := modAccount_back hf ha
  obtain ⟨b', hb', eb, -⟩ := modAccount_back hf hb
  rw [ea, eb]
  exact h i j hij a' ha' b' hb'

/-! ### The held totals -/

/-- What a slot of the ticket table adds to the held total of an account. -/
def claimOn (k : Option Ticket) (m : Nat) : Nat := (k.filter fun k => k.account == some m).elim 0 fun k => k.hold.getD 0

theorem claimOn_other {k : Ticket} {m : Nat} (h : k.account ≠ some m) : claimOn (some k) m = 0 := by
  simp [claimOn, Option.filter, h]

theorem claimOn_self {k : Ticket} {m : Nat} (h : k.account = some m) : claimOn (some k) m = k.hold.getD 0 := by
  simp [claimOn, Option.filter, h]

theorem holdsOf_sum (s : State) (m : Nat) : s.holdsOf m = ∑ i, claimOn (s.tickets.get i) m := by
  rw [Fin.sum_univ_def]
  rfl

/-- One entry of the ticket table changes, and the held totals with it. -/
theorem holdsOf_change {s t : State} {i₀ : Fin 32} {k' : Option Ticket}
    (hget : ∀ i, t.tickets.get i = if i = i₀ then k' else s.tickets.get i) (m : Nat) :
    t.holdsOf m + claimOn (s.tickets.get i₀) m = s.holdsOf m + claimOn k' m := by
  have hs := Finset.add_sum_erase Finset.univ (fun i => claimOn (s.tickets.get i) m) (Finset.mem_univ i₀)
  have ht := Finset.add_sum_erase Finset.univ (fun i => claimOn (t.tickets.get i) m) (Finset.mem_univ i₀)
  have he : ∑ i ∈ Finset.univ.erase i₀, claimOn (t.tickets.get i) m = ∑ i ∈ Finset.univ.erase i₀, claimOn (s.tickets.get i) m := by
    refine Finset.sum_congr rfl fun i hi => ?_
    rw [hget, if_neg (Finset.ne_of_mem_erase hi)]
  rw [he, hget, if_pos rfl] at ht
  rw [holdsOf_sum, holdsOf_sum, ← hs, ← ht]
  omega

theorem claimOn_le_holdsOf (s : State) (i : Fin 32) (m : Nat) : claimOn (s.tickets.get i) m ≤ s.holdsOf m := by
  rw [holdsOf_sum]
  exact Finset.single_le_sum (f := fun i => claimOn (s.tickets.get i) m) (fun _ _ => Nat.zero_le _) (Finset.mem_univ i)

/-! ### The ledger, in its two halves -/

/-- The ledger but for the statuses, with the held total of one account off by what is on its way: `x` has left the account and is
still held by a ticket, `y` is taken on the account and not yet held by a ticket. -/
def HeldNear (s : State) (n x y : Nat) : Prop :=
  1 ≤ s.site.minAuthAmount ∧ AccountsDistinct s ∧ numbersDistinct s ∧ (∀ i, ∀ k ∈ s.tickets.get i, ticketFunded s k) ∧
  ∀ i, ∀ a ∈ s.accounts.get i,
    if a.number = n then a.held + x = s.holdsOf n + y else a.held = s.holdsOf a.number

/-- R25: the status of each account in step with its debt. -/
def StatusFollows (s : State) : Prop :=
  ∀ i, ∀ a ∈ s.accounts.get i, (a.status = .overdrawn → a.inDebt = true) ∧ (a.status = .active → a.inDebt = false)

theorem ledgerKept_iff (s : State) (n : Nat) : ledgerKept s ↔ HeldNear s n 0 0 ∧ StatusFollows s := by
  constructor
  · rintro ⟨h1, h2, h3, h4, h5⟩
    refine ⟨⟨h1, h2, h3, h4, fun i a ha => ?_⟩, fun i a ha => (h5 i a ha).2⟩
    have := (h5 i a ha).1
    split
    · next e => subst e; omega
    · exact this
  · rintro ⟨⟨h1, h2, h3, h4, h5⟩, h6⟩
    refine ⟨h1, h2, h3, h4, fun i a ha => ⟨?_, h6 i a ha⟩⟩
    have := h5 i a ha
    split at this
    · next e => subst e; omega
    · exact this

section
variable {s t : State} {n x y : Nat}

/-- An account is changed by its number: the held total of its holder may move, the other accounts stand. -/
theorem HeldNear.modAccount {x' y' : Nat} {f : Account → Account} (h : HeldNear s n x y) (hf : ∀ a, (f a).number = a.number)
    (hheld : ∀ a, a.held + x = s.holdsOf n + y → (f a).held + x' = s.holdsOf n + y') :
    HeldNear (s.modAccount n f) n x' y' := by
  obtain ⟨h1, h2, h3, h4, h5⟩ := h
  have hh (m : Nat) : (s.modAccount n f).holdsOf m = s.holdsOf m := by simp [State.holdsOf]
  refine ⟨by simpa using h1, modAccount_distinct hf h2, by unfold numbersDistinct; rw [modAccount_tickets]; exact h3, ?_, ?_⟩
  · intro i k hk
    rw [modAccount_tickets] at hk
    obtain ⟨f1, f2, f3, f4, f5⟩ := h4 i k hk
    exact ⟨f1, f2, f3, fun m hm => modAccount_isSome s n m f hf (f4 m hm), f5⟩
  · intro j b hb
    obtain ⟨a, ha, hn, hc⟩ := modAccount_back hf hb
    have hk := h5 j a ha
    rw [hh, hh, hn]
    rcases hc with ⟨hc, rfl⟩ | ⟨hc, rfl⟩
    · rw [if_pos hc] at hk ⊢
      exact hheld a hk
    · have hne : b.number ≠ n := fun e => hc (by rw [← e]; exact accountSlot_of_get h2 ha)
      rw [if_neg hne] at hk ⊢
      exact hk

/-- One entry of the ticket table changes. -/
theorem HeldNear.change {x' y' : Nat} {i₀ : Fin 32} {k' : Option Ticket} (h : HeldNear s n x y)
    (hget : ∀ i, t.tickets.get i = if i = i₀ then k' else s.tickets.get i) (ha : t.accounts = s.accounts)
    (hs : t.site = s.site) (hnum : numbersDistinct t) (hfund : ∀ k ∈ k', ticketFunded s k)
    (hother : ∀ m, m ≠ n → claimOn k' m = claimOn (s.tickets.get i₀) m)
    (hmoves : y + x' + claimOn (s.tickets.get i₀) n = y' + x + claimOn k' n) : HeldNear t n x' y' := by
  obtain ⟨h1, h2, -, h4, h5⟩ := h
  have hfun (k : Ticket) : ticketFunded t k ↔ ticketFunded s k := by
    unfold ticketFunded; simp only [account_congr ha]
  refine ⟨hs ▸ h1, by unfold AccountsDistinct; rw [ha]; exact h2, hnum, fun i k hk => ?_, fun j a hj => ?_⟩
  · rw [hfun]
    rw [Option.mem_def, hget] at hk
    split at hk
    · exact hfund k hk
    · exact h4 i k hk
  · have hc := h5 j a (ha ▸ hj)
    split at hc
    · next e =>
      rw [if_pos e]
      have := holdsOf_change hget n
      omega
    · next e =>
      rw [if_neg e, hc]
      have := holdsOf_change hget a.number
      rw [hother _ e] at this
      omega

theorem StatusFollows.congr (ha : t.accounts = s.accounts) (h : StatusFollows s) : StatusFollows t := by
  unfold StatusFollows
  rw [ha]
  exact h

/-- A change of an account that leaves its money and its status. -/
theorem StatusFollows.modAccount {f : Account → Account} (h : StatusFollows s)
    (hf : ∀ a, (f a).status = a.status ∧ (f a).money = a.money) : StatusFollows (s.modAccount n f) := by
  intro j b hb
  rw [Option.mem_def, modAccount_get] at hb
  split at hb
  · obtain ⟨a, ha, rfl⟩ := Option.map_eq_some_iff.1 hb
    have := h j a ha
    unfold Account.inDebt at this ⊢
    rw [(hf a).1, (hf a).2]
    exact this
  · exact h j b hb

/-- R25: after a change of its money the status of an account follows its debt. -/
theorem StatusFollows.followDebt {f : Account → Account} (h : StatusFollows s) (hd : AccountsDistinct s)
    (hf : ∀ a, (f a).number = a.number) : StatusFollows ((s.modAccount n f).followDebt n) := by
  have hd' := modAccount_distinct (n := n) hf hd
  set u := s.modAccount n f with hu
  /- Every account but the one with the number follows its debt already. -/
  have hrest : ∀ j b, u.accounts.get j = some b → u.accountSlot n ≠ some j →
      (b.status = .overdrawn → b.inDebt = true) ∧ (b.status = .active → b.inDebt = false) := by
    intro j b hb hne
    obtain ⟨a, ha, hn, hc | hc⟩ := modAccount_back hf hb
    · exact absurd (by rw [← hc.1, ← hn]; exact accountSlot_of_get hd' hb) hne
    · rw [hc.2]; exact h j a ha
  cases hj : u.accountSlot n with
  | none =>
    have hna : u.account n = none := by simp [State.account, hj]
    have e : u.followDebt n = u := by simp [State.followDebt, hna]
    rw [e]
    exact fun j b hb => hrest j b hb (by simp [hj])
  | some j₀ =>
    obtain ⟨a, ha⟩ := accountSlot_some hj
    have hna : u.account n = some a := by rw [account_of_slot hj, ha]
    have hcase (st : AccountStatus) (hst : (st = .overdrawn → a.inDebt = true) ∧ (st = .active → a.inDebt = false)) :
        StatusFollows (u.modAccount n fun a => { a with status := st }) := by
      intro j b hb
      rw [Option.mem_def, modAccount_get] at hb
      split at hb
      · next hj' =>
        obtain rfl : j₀ = j := Option.some.inj (hj.symm.trans hj')
        rw [ha] at hb
        obtain rfl := Option.some.inj hb
        exact hst
      · next hj' => exact hrest j b hb hj'
    unfold State.followDebt
    rw [hna]
    dsimp only
    split
    · next hc => exact StatusFollows.congr (s := u.modAccount n fun a => { a with status := .overdrawn }) rfl (hcase _ ⟨fun _ => hc.2, by simp⟩)
    · next hc =>
      split
      · next hc' => exact hcase _ ⟨by simp, fun _ => by simpa using hc'.2⟩
      · next hc' =>
        intro j b hb
        by_cases hj' : u.accountSlot n = some j
        · obtain rfl : j₀ = j := Option.some.inj (hj.symm.trans hj')
          obtain rfl : a = b := Option.some.inj (ha.symm.trans hb)
          exact ⟨fun e => by simpa [e] using hc', fun e => by simpa [e] using hc⟩
        · exact hrest j b hb hj'

/-- What follows the debt is the status of one account, and a flag. -/
theorem followDebt_cases (s : State) (n : Nat) :
    s.followDebt n = s ∨ ∃ st, (∃ e : EventFlag, s.followDebt n = (s.modAccount n fun a => { a with status := st }).raise e) ∨
      s.followDebt n = s.modAccount n fun a => { a with status := st } := by
  unfold State.followDebt
  split
  · split
    · exact .inr ⟨_, .inl ⟨_, rfl⟩⟩
    · split
      · exact .inr ⟨_, .inr rfl⟩
      · exact .inl rfl
  · exact .inl rfl

theorem HeldNear.raise (h : HeldNear s n x y) (e : EventFlag) : HeldNear (s.raise e) n x y := h

theorem HeldNear.followDebt (h : HeldNear s n x y) : HeldNear (s.followDebt n) n x y := by
  have hstatus (st : AccountStatus) : HeldNear (s.modAccount n fun a => { a with status := st }) n x y :=
    h.modAccount (fun _ => rfl) fun _ h => h
  rcases followDebt_cases s n with e | ⟨st, ⟨f, e⟩ | e⟩ <;> rw [e]
  · exact h
  · exact HeldNear.raise (hstatus st) f
  · exact hstatus st

end

/-! ### One ticket changes -/

section
variable {s t : State} {p : Fin 4} {n : Nat} {i₀ : Fin 32} {k' : Option Ticket}

/-- The numbers stay distinct where one entry changes to one whose number is free elsewhere. -/
theorem numbersDistinct_change (h : numbersDistinct s) (hget : ∀ i, t.tickets.get i = if i = i₀ then k' else s.tickets.get i)
    (hnew : ∀ j, j ≠ i₀ → ∀ l ∈ s.tickets.get j, l.number ≠ n) (hn : ∀ k ∈ k', k.number = n) : numbersDistinct t := by
  intro i j hij k hk l hl
  rw [Option.mem_def, hget] at hk hl
  split at hk
  · next hi =>
    rw [if_neg fun e => hij (hi.trans e.symm)] at hl
    rw [hn k hk]
    exact (hnew j (fun e => hij (hi.trans e.symm)) l hl).symm
  · split at hl
    · next hi hj => rw [hn l hl]; exact hnew i hi k hk
    · exact h i j hij k hk l hl

/-- R4: what a slot of a position refers to, ticket by ticket. -/
theorem ticket_any_iff (h : numbersDistinct s) (m : Nat) (q : Fin 4) :
    (s.ticket m).any (fun k => decide (k.position = q)) = true ↔ ∃ i k, s.tickets.get i = some k ∧ k.number = m ∧ k.position = q := by
  unfold State.ticket
  constructor
  · intro hm
    obtain ⟨k, hk, hq⟩ := (Option.any_eq_true _ _).1 hm
    obtain ⟨i, hi, hk⟩ := Option.bind_eq_some_iff.1 hk
    exact ⟨i, k, hk, number_of_slot hi hk, of_decide_eq_true hq⟩
  · rintro ⟨i, k, hk, rfl, hq⟩
    rw [ticketSlot_of_get h hk, Option.bind_some, hk]
    simp [hq]

/-- The relation on the tickets is kept where one entry of the table and one position change together. -/
theorem ticketsKept_change (hget : ∀ i, t.tickets.get i = if i = i₀ then k' else s.tickets.get i)
    (hold : ∀ k ∈ s.tickets.get i₀, k.number = n ∧ k.position = p)
    (hnew : ∀ j, j ≠ i₀ → ∀ l ∈ s.tickets.get j, l.number ≠ n)
    (hk' : ∀ k ∈ k', k.number = n ∧ k.position = p ∧ ticketPlaced t k ∧ (k.state = .fuelling → k.holdUsed = (t.pos p).holdTime / 1000))
    (hpos : ∀ q, q ≠ p → t.pos q = s.pos q)
    (hrest : ∀ m, m ≠ n → ((t.pos p).active = some m ↔ (s.pos p).active = some m) ∧ ((t.pos p).staged = some m ↔ (s.pos p).staged = some m))
    (hstate : ∀ m, m ≠ n → (s.pos p).active = some m → (t.pos p).state = (s.pos p).state ∧ (t.pos p).holdTime = (s.pos p).holdTime)
    (hfound : (t.pos p).active = some n ∨ (t.pos p).staged = some n → k'.isSome = true)
    (hbusy : (t.pos p).state.busy = true → (t.pos p).active.isSome = true ∧ (t.pos p).holdTime ≤ (s.cfg p).maxHold * 1000)
    (hclosed : s.commissioned = false → (t.pos p).state = .closed ∧ (t.pos p).active = none ∧ (t.pos p).staged = none)
    (hcfg : ∀ q, (t.cfg q).maxHold = (s.cfg q).maxHold) (hcom : t.commissioned = s.commissioned) (h : ticketsKept s) : ticketsKept t := by
  obtain ⟨hnum, hpl, href, hmax, hused⟩ := h
  have hdist : numbersDistinct t := numbersDistinct_change hnum hget hnew fun k hk => (hk' k hk).1
  have hkeep (i : Fin 32) (k : Ticket) (hk : s.tickets.get i = some k) (hne : k.number ≠ n) : t.tickets.get i = some k := by
    rw [hget, if_neg ?_, hk]
    rintro rfl
    exact hne (hold k hk).1
  refine ⟨hdist, fun i k hk => ?_, fun q => ?_, fun q hb => ?_, fun i k hk hst => ?_⟩
  · rw [Option.mem_def, hget] at hk
    split at hk
    · exact (hk' k hk).2.2.1
    · next hi =>
      have hkn := hnew i hi k hk
      have hp := hpl i k hk
      unfold ticketPlaced at hp ⊢
      by_cases hkp : k.position = p
      · rw [hkp] at hp ⊢
        obtain ⟨ha, hs⟩ := hrest _ hkn
        rw [ha, hs]
        obtain ⟨a, b, c, d, e, f, g, w⟩ := hp
        refine ⟨a, b, c, ⟨fun x => ?_, fun x => ?_⟩, e, f, fun x y => ?_, w⟩
        · obtain ⟨d1, d2⟩ := d.1 x
          rw [(hstate _ hkn (b.1 d1)).1]; exact ⟨d1, d2⟩
        · rw [(hstate _ hkn (b.1 x.1)).1] at x; exact d.2 x
        · rw [(hstate _ hkn (b.1 x)).1]; exact g x y
      · rw [hpos _ hkp]; exact hp
  · have hto (m : Nat) (hm : m ≠ n) (hx : (s.ticket m).any (fun k => decide (k.position = q)) = true) :
        (t.ticket m).any (fun k => decide (k.position = q)) = true := by
      obtain ⟨i, k, hk, hkm, hq⟩ := (ticket_any_iff hnum m q).1 hx
      exact (ticket_any_iff hdist m q).2 ⟨i, k, hkeep i k hk (hkm ▸ hm), hkm, hq⟩
    by_cases hq : q = p
    · subst hq
      have hself (hf : k'.isSome = true) : (t.ticket n).any (fun k => decide (k.position = q)) = true := by
        obtain ⟨k, hk⟩ := Option.isSome_iff_exists.1 hf
        obtain ⟨e1, e2, -⟩ := hk' k hk
        exact (ticket_any_iff hdist n q).2 ⟨i₀, k, by rw [hget, if_pos rfl, hk], e1, e2⟩
      obtain ⟨r1, r2, -, -⟩ := href q
      refine ⟨fun m hm => ?_, fun m hm => ?_, fun hb => (hbusy hb).1, fun hc => hclosed (hcom ▸ hc)⟩
      · by_cases hmn : m = n
        · subst hmn; exact hself (hfound (.inl hm))
        · exact hto m hmn (r1 m ((hrest m hmn).1.1 hm))
      · by_cases hmn : m = n
        · subst hmn; exact hself (hfound (.inr hm))
        · exact hto m hmn (r2 m ((hrest m hmn).2.1 hm))
    · have hne (m : Nat) (hx : (s.ticket m).any (fun k => decide (k.position = q)) = true) :
          (t.ticket m).any (fun k => decide (k.position = q)) = true := by
        obtain ⟨i, k, hk, hkm, hkq⟩ := (ticket_any_iff hnum m q).1 hx
        refine (ticket_any_iff hdist m q).2 ⟨i, k, ?_, hkm, hkq⟩
        rw [hget, if_neg ?_, hk]
        rintro rfl
        exact hq (hkq.symm.trans (hold k hk).2)
      obtain ⟨r1, r2, r3, r4⟩ := href q
      unfold slotsRefer
      rw [hpos q hq, hcom]
      exact ⟨fun m hm => hne m (r1 m hm), fun m hm => hne m (r2 m hm), r3, r4⟩
  · rw [hcfg]
    by_cases hq : q = p
    · subst hq; exact (hbusy hb).2
    · rw [hpos q hq] at hb ⊢
      exact hmax q hb
  · rw [Option.mem_def, hget] at hk
    split at hk
    · obtain ⟨-, e, -, hu⟩ := hk' k hk
      rw [e]; exact hu hst
    · next hi =>
      have hkn := hnew i hi k hk
      have hu := hused i k hk hst
      by_cases hkp : k.position = p
      · obtain ⟨-, b, -, d, -⟩ := hpl i k hk
        rw [hkp] at b hu ⊢
        rw [(hstate _ hkn (b.1 (d.1 hst).1)).2]; exact hu
      · rw [hpos _ hkp]; exact hu

end

end Sys2Proof.Machine
end

section
/-! PROOFS. The ticket requests, the authorization window, the vent and the nozzle keep the six relations. -/

namespace Sys2Proof.Machine

/-! ### Events that touch no fill -/

/-- What the relations on the draws and the cooling slots read of a position stands, or the position is out of a fill before and
after. -/
def SameFill (q r : Position) : Prop :=
  r.drawBank = q.drawBank ∧ r.valve = q.valve ∧
  ((r.state = q.state ∧ r.factors = q.factors ∧ r.coolWaitTimer = q.coolWaitTimer ∧ r.coolWaitExpired = q.coolWaitExpired) ∨
    (q.state.filling = false ∧ r.state.filling = false ∧ (q.state = .closed → r.state = .closed)))

theorem SameFill.refl (q : Position) : SameFill q q := ⟨rfl, rfl, .inl ⟨rfl, rfl, rfl, rfl⟩⟩

/-- An event that touches no fill, no bank, no slot and no configuration. -/
structure OffFill (s t : State) : Prop where
  pos : ∀ q, SameFill (s.pos q) (t.pos q)
  compressor : t.compressor = s.compressor
  banks : t.banks = s.banks
  precool : t.precool = s.precool
  site : t.site = s.site
  bankConfig : t.bankConfig = s.bankConfig
  positionConfig : t.positionConfig = s.positionConfig
  commissioned : t.commissioned = s.commissioned
  esdLatch : t.esdLatch = s.esdLatch

namespace OffFill
variable {s t : State}

theorem cfg (h : OffFill s t) (p : Fin 4) : t.cfg p = s.cfg p := by simp [State.cfg, h.positionConfig]

theorem plant (h : OffFill s t) : PlantKeeps s t :=
  plantKeeps_of_frame h.compressor (fun p => .inl (h.pos p).1) (fun b => by simp [State.bank, h.banks]) h.bankConfig h.commissioned
    h.esdLatch

theorem notFilling {q : PosState} (h : q.filling = false) :
    ¬(q = .fuelling ∨ q = .starting .pulse) ∧ ¬(q = .fuelling ∨ q = .held .delay ∨ q = .held .demandWait) ∧ q.isStarting = false := by
  cases q <;> simp_all [PosState.filling, PosState.isStarting]

theorem draws (h : OffFill s t) (hd : drawsKept s) : drawsKept t := by
  refine ⟨by rw [h.site]; exact hd.1, fun p => ?_⟩
  have hk := hd.2 p
  change DrawOk _ _ at hk ⊢
  obtain ⟨h1, h2, ⟨h3, h4, -, -⟩ | ⟨h3, h4, h5⟩⟩ := h.pos p
  · unfold DrawOk at hk ⊢
    rw [h1, h2, h3, h4, h.commissioned]
    exact hk
  · unfold DrawOk at hk ⊢
    rw [if_neg (notFilling h3).1] at hk
    rw [if_neg (notFilling h4).1, h1, h2, h.commissioned]
    exact ⟨hk.1, fun x => absurd x (notFilling h4).2.1, fun hc => h5 (hk.2.2 hc)⟩

theorem slots (h : OffFill s t) (hs : slotsHeld s) : slotsHeld t := by
  obtain ⟨h1, h2, h3, h4, h5⟩ := hs
  unfold slotsHeld
  rw [h.precool, h.site, h.commissioned]
  refine ⟨h1, h2, fun p hp => ?_, fun p hp => ?_, h5⟩
  · have hw := h3 p hp
    obtain ⟨-, -, ⟨e1, -, e3, e4⟩ | ⟨e1, -, -⟩⟩ := h.pos p
    · unfold Waits State.grade at hw ⊢
      rw [h.precool, h.cfg, e1, e3, e4]
      exact hw
    · have := hw.1
      simp [(notFilling e1).2.2] at this
  · have hf := h4 p hp
    obtain ⟨-, -, ⟨e1, -⟩ | ⟨e1, -, -⟩⟩ := h.pos p
    · rw [e1]; exact hf
    · simp [e1] at hf

/-- An event that touches no fill keeps the relations when it keeps those on the tickets and the ledger. -/
theorem acts (h : OffFill s t) (ht : ticketsKept s → ticketsKept t) (hl : ticketsKept s → ledgerKept s → ledgerKept t) : Acts s t :=
  Keeps.acts ⟨⟨h.plant, ht, hl⟩, h.draws, h.slots⟩ (by rw [h.precool]) (by rw [h.precool]) (by rw [h.precool]) (by rw [h.site])

theorem refl (s : State) : OffFill s s := ⟨fun _ => .refl _, rfl, rfl, rfl, rfl, rfl, rfl, rfl, rfl⟩

/-- A change of the ticket table and the account table, and of one position out of a fill. -/
theorem modPos (p : Fin 4) (f : Position → Position) (h : SameFill (s.pos p) (f (s.pos p))) : OffFill s (s.modPos p f) := by
  refine ⟨fun q => ?_, rfl, rfl, rfl, rfl, rfl, rfl, rfl, rfl⟩
  rw [modPos_pos]
  split
  · next e => subst e; exact h
  · exact .refl _

theorem of_tables (a : Vector (Option Ticket) 32) (b : Vector (Option Account) 64) : OffFill s { s with tickets := a, accounts := b } :=
  ⟨fun _ => .refl _, rfl, rfl, rfl, rfl, rfl, rfl, rfl, rfl⟩

end OffFill

/-! ### Tickets that leave the slots of their position -/

section
variable {s t : State} {p : Fin 4} {n : Nat} {i₀ : Fin 32} {k₀ : Ticket} {k' : Option Ticket}

/-- R3: no other ticket has the number of one in the table. -/
theorem number_free (h : numbersDistinct s) (hk : s.tickets.get i₀ = some k₀) :
    ∀ j, j ≠ i₀ → ∀ l ∈ s.tickets.get j, l.number ≠ k₀.number := fun j hj l hl => h j i₀ hj l hl k₀ hk

/-- R13, R14: the ACTIVE ticket of a position without a fill is detached as ENDED or leaves the table, and its slot is vacated. -/
theorem vacate_tickets (ha : (s.pos p).active = some n) (hk₀ : s.tickets.get i₀ = some k₀) (hn : k₀.number = n) (hp : k₀.position = p)
    (hget : ∀ i, t.tickets.get i = if i = i₀ then k' else s.tickets.get i)
    (hk' : ∀ k ∈ k', k.number = n ∧ k.position = p ∧ k.attachment = .detached ∧ k.state = .ended ∧ k.window = none)
    (hpos : ∀ q, q ≠ p → t.pos q = s.pos q) (hact : (t.pos p).active = none) (hstg : (t.pos p).staged = (s.pos p).staged)
    (hidle : (t.pos p).state.busy = false) (hcfg : ∀ q, (t.cfg q).maxHold = (s.cfg q).maxHold)
    (hcom : t.commissioned = s.commissioned) (h : ticketsKept s) : ticketsKept t := by
  have hplaced := h.2.1 i₀ k₀ hk₀
  have hstaged : (s.pos p).staged ≠ some n := by
    intro e
    obtain ⟨-, h2, h3, -⟩ := hplaced
    rw [hp, hn] at h2 h3
    have h2 := h2.2 ha
    rw [h3.2 e] at h2
    simp at h2
  refine ticketsKept_change (p := p) (n := n) hget (fun k hk => ?_) ?_ (fun k hk => ?_) hpos (fun m hm => ⟨?_, by rw [hstg]⟩)
    (fun m hm hs => ?_) (fun hf => ?_) (fun hb => ?_) (fun hc => ?_) hcfg hcom h
  · obtain rfl : k₀ = k := Option.some.inj (hk₀.symm.trans hk)
    exact ⟨hn, hp⟩
  · rw [← hn]; exact number_free h.1 hk₀
  · obtain ⟨e1, e2, e3, e4, e5⟩ := hk' k hk
    refine ⟨e1, e2, ?_, fun e => by simp [e4] at e⟩
    unfold ticketPlaced
    rw [e1, e2, e3, e4, e5, hact, hstg, ← hn]
    simp only [reduceCtorEq, false_iff, false_and, true_and, imp_self, false_imp_iff,
      Option.isSome_none, Bool.false_eq_true, and_true]
    exact ⟨hplaced.1, by rw [hn]; exact hstaged⟩
  · rw [hact, ha]
    simpa using fun e => hm e.symm
  · exact absurd (Option.some.inj (ha.symm.trans hs)).symm hm
  · rw [hact, hstg] at hf
    rcases hf with hf | hf
    · simp at hf
    · exact absurd hf hstaged
  · simp [hidle] at hb
  · have := ((h.2.2.1 p).2.2.2 hc).2.1
    simp [ha] at this

/-- R14, R15: a ticket that is not FUELLING leaves the table, and the slot that it stood in. -/
theorem retire_tickets (hk₀ : s.tickets.get i₀ = some k₀) (hst : k₀.state ≠ .fuelling)
    (hget : ∀ i, t.tickets.get i = if i = i₀ then none else s.tickets.get i) (hpos : ∀ q, q ≠ k₀.position → t.pos q = s.pos q)
    (hact : (t.pos k₀.position).active = if k₀.attachment = .active then none else (s.pos k₀.position).active)
    (hstg : (t.pos k₀.position).staged = if k₀.attachment = .staged then none else (s.pos k₀.position).staged)
    (hsame : (t.pos k₀.position).state = (s.pos k₀.position).state ∧ (t.pos k₀.position).holdTime = (s.pos k₀.position).holdTime)
    (hcfg : ∀ q, (t.cfg q).maxHold = (s.cfg q).maxHold) (hcom : t.commissioned = s.commissioned) (h : ticketsKept s) :
    ticketsKept t := by
  obtain ⟨h1, h2, h3, h4, h5, -⟩ := h.2.1 i₀ k₀ hk₀
  obtain ⟨r1, r2, r3, r4⟩ := h.2.2.1 k₀.position
  have ha : (t.pos k₀.position).active ≠ some k₀.number := by
    rw [hact]
    split
    · simp
    · next e => exact fun x => e (h2.2 x)
  have hs : (t.pos k₀.position).staged ≠ some k₀.number := by
    rw [hstg]
    split
    · simp
    · next e => exact fun x => e (h3.2 x)
  refine ticketsKept_change (p := k₀.position) (n := k₀.number) hget (fun k hk => ?_) (number_free h.1 hk₀) (by simp) hpos
    (fun m hm => ⟨?_, ?_⟩) (fun _ _ _ => hsame) (fun hf => absurd hf (not_or.2 ⟨ha, hs⟩)) (fun hb => ?_) (fun hc => ?_) hcfg hcom h
  · obtain rfl : k₀ = k := Option.some.inj (hk₀.symm.trans hk)
    exact ⟨rfl, rfl⟩
  · rw [hact]
    split
    · next e => rw [h2.1 e]; simpa using fun e => hm e.symm
    · rfl
  · rw [hstg]
    split
    · next e => rw [h3.1 e]; simpa using fun e => hm e.symm
    · rfl
  · rw [hsame.1] at hb
    rw [hact, hsame.2, if_neg fun e => hst (h4.2 ⟨e, hb⟩)]
    exact ⟨r3 hb, h.2.2.2.1 _ hb⟩
  · obtain ⟨e1, e2, e3⟩ := r4 hc
    rw [hsame.1, hact, hstg, e1, e2, e3]
    exact ⟨rfl, by split <;> rfl, by split <;> rfl⟩

end

/-! ### Promotion -/

section
variable (s : State) (p : Fin 4)

/-- R13: what stood in the ACTIVE slot before a promotion makes no difference to it. -/
theorem promote_vacated : s.promote p = (s.modPos p fun q => { q with active := none }).promote p := by
  unfold State.promote
  rw [modPos_pos_self]
  dsimp only
  rw [modPos_modPos]

theorem promote_offFill : OffFill s (s.promote p) := by
  have h : OffFill s (s.modPos p fun q => { q with active := (s.pos p).staged, staged := none }) :=
    .modPos p _ ⟨rfl, rfl, .inl ⟨rfl, rfl, rfl, rfl⟩⟩
  unfold State.promote
  dsimp only
  split
  · refine ⟨fun q => ?_, ?_, ?_, ?_, ?_, ?_, ?_, ?_, ?_⟩
    · have := h.pos q; simpa using this
    all_goals simp
  · exact h

theorem promote_pos : (s.promote p).pos p = { s.pos p with active := (s.pos p).staged, staged := none } := by
  unfold State.promote
  dsimp only
  split <;> simp

theorem promote_pos_ne {q : Fin 4} (h : q ≠ p) : (s.promote p).pos q = s.pos q := by
  unfold State.promote
  dsimp only
  split <;> simp [h]

theorem promote_get (i : Fin 32) :
    (s.promote p).tickets.get i =
      if (s.pos p).staged.bind s.ticketSlot = some i then (s.tickets.get i).map fun k => k.promoted s.windowLength
      else s.tickets.get i := by
  unfold State.promote
  dsimp only
  split
  · next n hn =>
    rw [modTicket_get, hn]
    rfl
  · next hn => simp [hn]

@[simp] theorem promote_accounts : (s.promote p).accounts = s.accounts := by
  unfold State.promote
  dsimp only
  split <;> simp

/-- R13: the STAGED ticket of a position whose ACTIVE slot is empty becomes ACTIVE. -/
theorem promote_tickets (ha : (s.pos p).active = none) (h : ticketsKept s) : ticketsKept (s.promote p) := by
  cases hn : (s.pos p).staged with
  | none =>
    have e : s.promote p = s := by
      unfold State.promote
      rw [hn]
      refine modPos_self s p _ ?_
      generalize s.pos p = q at ha hn
      cases q
      simp_all
    rw [e]; exact h
  | some n =>
    have hoff := promote_offFill s p
    have hpos := promote_pos s p
    obtain ⟨i₀, k₀, hk₀, hnum, hp⟩ := (ticket_any_iff h.1 n p).1 ((h.2.2.1 p).2.1 n hn)
    have hget (i : Fin 32) : (s.promote p).tickets.get i = if i = i₀ then some (k₀.promoted s.windowLength) else s.tickets.get i := by
      rw [promote_get, hn, Option.bind_some, ← hnum, ticketSlot_of_get h.1 hk₀]
      by_cases hi : i = i₀
      · subst hi; simp [hk₀]
      · rw [if_neg hi, if_neg fun e => hi (Option.some.inj e).symm]
    have hidle : (s.pos p).state.busy = false := by
      by_contra hb
      have := (h.2.2.1 p).2.2.1 (by simpa using hb)
      simp [ha] at this
    obtain ⟨h1, h2, h3, h4, -, h6, -, -⟩ := h.2.1 i₀ k₀ hk₀
    have hst : k₀.attachment = .staged := h3.2 (by rw [hp, hn, hnum])
    have hopen := h6 hst
    refine ticketsKept_change (p := p) (n := n) hget (fun k hk => ?_) ?_ (fun k hk => ?_) (fun q hq => promote_pos_ne s p hq)
      (fun m hm => ?_) (fun m _ hs => ?_) (fun _ => rfl) (fun hb => ?_) (fun hc => ?_) (fun q => by rw [hoff.cfg]) hoff.commissioned h
    · obtain rfl : k₀ = k := Option.some.inj (hk₀.symm.trans hk)
      exact ⟨hnum, hp⟩
    · rw [← hnum]; exact number_free h.1 hk₀
    · obtain rfl := Option.some.inj hk
      have hnf : k₀.state ≠ .fuelling ∧ k₀.state ≠ .ended := by rcases hopen with e | e <;> simp [e]
      refine ⟨hnum, hp, ⟨h1, ?_, ?_, ?_, ?_, ?_, ?_, ?_⟩, fun e => absurd e hnf.1⟩
      · change _ ↔ ((s.promote p).pos k₀.position).active = some k₀.number
        rw [hp, hpos, hnum]; simp [Ticket.promoted, hn]
      · change _ ↔ ((s.promote p).pos k₀.position).staged = some k₀.number
        rw [hp, hpos]; simp [Ticket.promoted]
      · change k₀.state = .fuelling ↔ _ ∧ ((s.promote p).pos k₀.position).state.busy = true
        rw [hp, hpos]; simp [hnf.1, hidle]
      · simp [Ticket.promoted]
      · simp [Ticket.promoted]
      · exact fun _ e => absurd e hnf.2
      · unfold Ticket.promoted
        dsimp only
        split
        · next e => exact fun _ => ⟨rfl, e⟩
        · simp
    · rw [hpos, hn, ha]
      have : some n = some m ↔ False := by simpa using fun e => hm e.symm
      simp [this]
    · simp [ha] at hs
    · rw [hpos] at hb
      simp [hidle] at hb
    · have := ((h.2.2.1 p).2.2.2 hc).2.2
      simp [hn] at this

theorem promote_claims : ClaimsStand s (s.promote p) := by
  intro i
  rw [promote_get]
  split
  · cases s.tickets.get i <;> rfl
  · rfl

theorem promote_ledger (h : ledgerKept s) : ledgerKept (s.promote p) := by
  have hoff := promote_offFill s p
  refine ledgerKept_of_claims (promote_claims s p) (promote_accounts s p) (by rw [hoff.site]) (fun hl i k hk => ?_) h
  have hfund : ticketFunded (s.promote p) k ↔ ticketFunded s k := by
    unfold ticketFunded
    simp only [account_congr (promote_accounts s p)]
  rw [hfund]
  rw [Option.mem_def, promote_get] at hk
  split at hk
  · obtain ⟨l, hl', rfl⟩ := Option.map_eq_some_iff.1 hk
    exact hl.2.2.2.1 i l hl'
  · exact hl.2.2.2.1 i k hk

theorem promote_acts (ha : ticketsKept s → (s.pos p).active = none) : Acts s (s.promote p) :=
  (promote_offFill s p).acts (fun ht => promote_tickets s p (ha ht) ht) fun _ => promote_ledger s p

end

end Sys2Proof.Machine
end

section
/-! PROOFS. The nozzle, the vent, the window, and the ticket and account requests keep the six relations. -/

namespace Sys2Proof.Machine

/-! ### Positions without a fill -/

section
variable (s : State) (p : Fin 4)

/-- A position moves between states without a fill, its tickets standing. -/
theorem modPos_acts_off (f : Position → Position) (hf : SameFill (s.pos p) (f (s.pos p))) (hp : SamePlace (s.pos p) (f (s.pos p))) :
    Acts s (s.modPos p f) := by
  refine (OffFill.modPos p f hf).acts ?_ fun _ => ledgerKept_of_core (.of_eq rfl) rfl rfl
  refine ticketsKept_of_core (.of_eq rfl) (fun q => ?_) (fun _ => rfl) rfl
  rw [modPos_pos]
  split
  · next e => subst e; exact hp
  · exact .refl _

theorem enterCalling_acts (h : (s.pos p).state = .idle) : Acts s (s.enterCalling p) := by
  have hc : Acts s (s.modPos p fun q => { q with state := .calling }) :=
    modPos_acts_off s p _ ⟨rfl, rfl, .inr ⟨by rw [h]; rfl, rfl, by simp [h]⟩⟩ ⟨rfl, rfl, rfl, by rw [h]; rfl, .inl (by simp [h])⟩
  unfold State.enterCalling
  dsimp only
  split
  · exact hc.trans (listen_acts _ p)
  · exact hc

theorem nozzleLifted_acts : Acts s (s.nozzleLifted p) := by
  unfold State.nozzleLifted
  split
  · next h => exact enterCalling_acts s p h
  · exact .refl s

/-! ### Tickets changed by number -/

theorem modTicket_claims (n : Nat) (f : Ticket → Ticket) (hf : ∀ k, (f k).claim = k.claim) : ClaimsStand s (s.modTicket n f) := by
  intro i
  rw [modTicket_get]
  split
  · cases s.tickets.get i <;> simp [hf]
  · rfl

/-- The ledger is kept where a ticket changes outside its claim and stays funded. -/
theorem modTicket_ledger (n : Nat) (f : Ticket → Ticket) (hf : ∀ k, (f k).claim = k.claim)
    (hm : ∀ k, ticketFunded s k → ticketFunded s (f k)) (h : ledgerKept s) : ledgerKept (s.modTicket n f) := by
  refine ledgerKept_of_claims (modTicket_claims s n f hf) (by simp) (by simp) (fun hl i k hk => ?_) h
  have hfund (k : Ticket) : ticketFunded (s.modTicket n f) k ↔ ticketFunded s k := by
    unfold ticketFunded
    simp only [account_congr (s := s) (t := s.modTicket n f) (by simp)]
  rw [hfund]
  rw [Option.mem_def, modTicket_get] at hk
  split at hk
  · obtain ⟨l, hl', rfl⟩ := Option.map_eq_some_iff.1 hk
    exact hm l (hl.2.2.2.1 i l hl')
  · exact hl.2.2.2.1 i k hk

theorem modActive_ledger (f : Ticket → Ticket) (hf : ∀ k, (f k).claim = k.claim)
    (hm : ∀ k, ticketFunded s k → ticketFunded s (f k)) (h : ledgerKept s) : ledgerKept (s.modActive p f) := by
  unfold State.modActive
  split
  · exact modTicket_ledger s _ f hf hm h
  · exact h

theorem endUnused_funded (r : EndReason) (clock : Word32) (k : Ticket) (h : ticketFunded s k) :
    ticketFunded s (k.endUnused r clock) := by
  obtain ⟨-, f2, f3, f4, -⟩ := h
  exact ⟨fun e => by simp [Ticket.endUnused] at e, f2, f3, f4, by simp [Ticket.endUnused]⟩

/-- R4: the ACTIVE ticket of a position, found in the table. -/
theorem active_found {s : State} {p : Fin 4} {n : Nat} (h : ticketsKept s) (ha : (s.pos p).active = some n) :
    ∃ i k, s.tickets.get i = some k ∧ k.number = n ∧ k.position = p ∧ s.ticketSlot n = some i ∧ k.attachment = .active := by
  obtain ⟨i, k, hk, hn, hp⟩ := (ticket_any_iff h.1 n p).1 ((h.2.2.1 p).1 n ha)
  refine ⟨i, k, hk, hn, hp, by rw [← hn]; exact ticketSlot_of_get h.1 hk, ?_⟩
  obtain ⟨-, h2, -⟩ := h.2.1 i k hk
  exact h2.2 (by rw [hp, hn]; exact ha)

/-- The table after a change of the ACTIVE ticket, found in the table. -/
theorem modActive_get_found {s : State} {p : Fin 4} {n : Nat} {i : Fin 32} {k : Ticket} (f : Ticket → Ticket)
    (ha : (s.pos p).active = some n) (hi : s.ticketSlot n = some i) (hk : s.tickets.get i = some k) (j : Fin 32) :
    (s.modActive p f).tickets.get j = if j = i then some (f k) else s.tickets.get j := by
  rw [modActive_get, ha, Option.bind_some, hi]
  by_cases hj : j = i
  · subst hj; simp [hk]
  · rw [if_neg hj, if_neg fun e => hj (Option.some.inj e).symm]

/-- The table after a change of a ticket by its number, found in the table. -/
theorem modTicket_get_found {s : State} {n : Nat} {i : Fin 32} {k : Ticket} (f : Ticket → Ticket)
    (hi : s.ticketSlot n = some i) (hk : s.tickets.get i = some k) (j : Fin 32) :
    (s.modTicket n f).tickets.get j = if j = i then some (f k) else s.tickets.get j := by
  rw [modTicket_get, hi]
  by_cases hj : j = i
  · subst hj; simp [hk]
  · rw [if_neg hj, if_neg fun e => hj (Option.some.inj e).symm]

/-! ### The nozzle at an ENDED position -/

/-- R13, R48: an ENDED position becomes IDLE while no ENDED ticket is its ACTIVE one. -/
theorem leaveEnded_acts (h : (s.pos p).state = .ended)
    (hn : ticketsKept s → ∀ i k, s.tickets.get i = some k → k.position = p → k.attachment = .active → k.state ≠ .ended) :
    Acts s (s.modPos p fun q => { q with state := .idle }) := by
  set u := s.modPos p fun q => { q with state := .idle } with hu
  have hpos (q : Fin 4) : u.pos q = if q = p then { s.pos p with state := .idle } else s.pos q := modPos_pos s p q _
  have hview (q : Fin 4) : (u.pos q).active = (s.pos q).active ∧ (u.pos q).staged = (s.pos q).staged ∧
      (u.pos q).state.busy = (s.pos q).state.busy ∧ (u.pos q).holdTime = (s.pos q).holdTime := by
    rw [hpos]
    split
    · next e => subst e; exact ⟨rfl, rfl, by rw [h]; rfl, rfl⟩
    · exact ⟨rfl, rfl, rfl, rfl⟩
  refine (OffFill.modPos p _ ⟨rfl, rfl, .inr ⟨by rw [h]; rfl, rfl, by simp [h]⟩⟩).acts (fun ht => ?_)
    fun _ => ledgerKept_of_core (.of_eq rfl) rfl rfl
  refine ticketsKept_of_moves (s := s) (t := u) (fun _ => rfl) (fun q => ⟨(hview q).1, (hview q).2.1, (hview q).2.2.1⟩)
    (fun i k hk ha he _ => ?_) (fun hc q hq => ?_) rfl (fun ht => ⟨fun q hb => ?_, fun i k hk hs => ?_⟩) ht
  · rw [hpos]
    split
    · next e => exact absurd he (hn ht i k hk e ha)
    · assumption
  · rw [hpos]
    split
    · next e => subst e; simp [h] at hq
    · exact hq
  · obtain ⟨-, -, hbusy, htime⟩ := hview q
    rw [htime]
    exact ht.2.2.2.1 q (hbusy ▸ hb)
  · rw [(hview k.position).2.2.2]
    exact ht.2.2.2.2 i k hk hs

theorem holsterEnded_acts (h : (s.pos p).state = .ended) : Acts s (s.holsterEnded p) := by
  set u := s.modPos p fun q => { q with state := .idle } with hu
  have hpos : u.pos p = { s.pos p with state := .idle } := modPos_pos_self s p _
  have hticket : u.activeTicket p = s.activeTicket p := by
    unfold State.activeTicket
    rw [hpos]
    rfl
  /- Where the ACTIVE ticket, if any, has not ENDED, the position becomes IDLE as it stands. -/
  have hstands (hn : ∀ t, s.activeTicket p = some t → t.state ≠ .ended) : Acts s u := by
    refine leaveEnded_acts s p h fun ht i k hk hp ha => ?_
    refine hn k ?_
    obtain ⟨-, h2, -⟩ := ht.2.1 i k hk
    rw [State.activeTicket, ← hp, h2.1 ha, Option.bind_some, State.ticket, ticketSlot_of_get ht.1 hk]
    exact hk
  unfold State.holsterEnded
  rw [← hu]
  dsimp only
  rw [hticket]
  split
  · next t ht =>
    split
    · next he =>
      have hpos' : (u.detachActive p).pos p = { s.pos p with state := .idle, active := none } := by
        rw [State.detachActive, modPos_pos_self, modActive_pos, hpos]
      have hoff : OffFill s (u.detachActive p) := by
        refine ⟨fun q => ?_, ?_, ?_, ?_, ?_, ?_, ?_, ?_, ?_⟩
        · by_cases hq : q = p
          · subst hq
            rw [hpos']
            exact ⟨rfl, rfl, .inr ⟨by rw [h]; rfl, rfl, by simp [h]⟩⟩
          · have e : (u.detachActive p).pos q = s.pos q := by simp [State.detachActive, hu, hq]
            rw [e]; exact .refl _
        all_goals simp [State.detachActive, hu]
      refine Acts.trans (t := u.detachActive p) (hoff.acts (fun hk => ?_) fun _ => ?_) (promote_acts _ p fun _ => by rw [hpos'])
      · obtain ⟨n, hn, ht⟩ := Option.bind_eq_some_iff.1 ht
        obtain ⟨i, k, hik, hnum, hp, hslot, -⟩ := active_found hk hn
        obtain rfl : k = t := by
          rw [ticket_of_slot hslot, hik] at ht
          exact Option.some.inj ht
        have hwin : k.window = none := by
          by_contra hw
          have := ((hk.2.1 i k hik).2.2.2.2.2.2.2 (Option.isSome_iff_ne_none.2 hw)).2
          simp [he] at this
        refine vacate_tickets (k' := some { k with attachment := .detached }) hn hik hnum hp (fun j => ?_) (fun l hl => ?_) (fun q hq => ?_)
          (by rw [hpos']) (by rw [hpos']) (by rw [hpos']; rfl) (fun q => by rw [hoff.cfg]) hoff.commissioned hk
        · exact modActive_get_found (s := u) (p := p) (fun t => { t with attachment := .detached }) (by rw [hpos]; exact hn) hslot hik j
        · obtain rfl := Option.some.inj hl
          exact ⟨hnum, hp, rfl, he, hwin⟩
        · simp [State.detachActive, hu, hq]
      · exact modActive_ledger u p (fun t => { t with attachment := .detached }) (fun _ => rfl) fun _ h => h
    · next hne => exact hstands fun t' ht' => by rw [ht] at ht'; obtain rfl := Option.some.inj ht'; exact hne
  · next hnone =>
    refine (hstands fun t ht => by simp [hnone] at ht).trans (promote_acts u p fun hk => ?_)
    by_contra ha
    obtain ⟨n, ha⟩ := Option.ne_none_iff_exists'.1 ha
    obtain ⟨i, k, hk, -, -, hslot, -⟩ := active_found hk ha
    have : u.activeTicket p = some k := by rw [State.activeTicket, ha, Option.bind_some, ticket_of_slot hslot, hk]
    rw [hticket, hnone] at this
    simp at this

theorem nozzleHolstered_acts : Acts s (s.nozzleHolstered p) := by
  unfold State.nozzleHolstered
  split
  · next h =>
    exact modPos_acts_off s p _ ⟨rfl, rfl, .inr ⟨by rw [h]; rfl, rfl, by simp [h]⟩⟩ ⟨rfl, rfl, rfl, by rw [h]; rfl, .inl (by simp [h])⟩
  · next h => exact holsterEnded_acts s p h
  all_goals exact .refl s

/-! ### The vent -/

theorem ventEnded_acts (h : (s.pos p).state = .ending) : Acts s (s.ventEnded p) := by
  set u := ((s.modActive p fun t => t.completed s.clock (s.pDisp p)).modPos p fun q =>
    { q with state := .ended, substateTimer := none, quarter := 0 }) with hu
  have hpos : u.pos p = { s.pos p with state := .ended, substateTimer := none, quarter := 0 } := by
    rw [hu, modPos_pos_self, modActive_pos]
  have hne (q : Fin 4) (hq : q ≠ p) : u.pos q = s.pos q := by rw [hu, modPos_pos_ne _ _ hq, modActive_pos]
  have hoff : OffFill s u := by
    refine ⟨fun q => ?_, ?_, ?_, ?_, ?_, ?_, ?_, ?_, ?_⟩
    · by_cases hq : q = p
      · subst hq
        rw [hpos]
        exact ⟨rfl, rfl, .inr ⟨by rw [h]; rfl, rfl, by simp [h]⟩⟩
      · rw [hne q hq]; exact .refl _
    all_goals simp [hu]
  have hends : Acts s u := by
    refine hoff.acts (fun ht => ?_) fun _ => ?_
    · have hbusy : (s.pos p).state.busy = true := by rw [h]; rfl
      obtain ⟨n, hn⟩ := Option.isSome_iff_exists.1 ((ht.2.2.1 p).2.2.1 hbusy)
      obtain ⟨i, k, hk, hnum, hp, hslot, hatt⟩ := active_found ht hn
      obtain ⟨h1, h2, h3, h4, -, -, -, h8⟩ := ht.2.1 i k hk
      have hst : k.state = .fuelling := h4.2 ⟨hatt, by rw [hp]; exact hbusy⟩
      have hwin : k.window.isSome = false := by
        by_contra hw
        have := (h8 (Bool.eq_true_of_not_eq_false hw)).2
        simp [hst] at this
      refine ticketsKept_change (n := n) (k' := some (k.completed s.clock (s.pDisp p)))
        (modActive_get_found (fun t => t.completed s.clock (s.pDisp p)) hn hslot hk) (fun l hl => ?_) ?_ (fun l hl => ?_) hne
        (fun m _ => by rw [hpos]; simp) (fun m hm hs => ?_) (fun _ => rfl) (fun hb => ?_) (fun hc => ?_) (fun q => by rw [hoff.cfg])
        hoff.commissioned ht
      · obtain rfl : k = l := Option.some.inj (hk.symm.trans hl)
        exact ⟨hnum, hp⟩
      · rw [← hnum]; exact number_free ht.1 hk
      · obtain rfl := Option.some.inj hl
        refine ⟨hnum, hp, ⟨h1, ?_, ?_, ?_, ?_, ?_, ?_, ?_⟩, fun e => by simp [Ticket.completed] at e⟩
        · change k.attachment = .active ↔ (u.pos k.position).active = some k.number
          rw [hp, hpos, ← hp]; exact h2
        · change k.attachment = .staged ↔ (u.pos k.position).staged = some k.number
          rw [hp, hpos, ← hp]; exact h3
        · change TicketState.ended = .fuelling ↔ k.attachment = .active ∧ (u.pos k.position).state.busy = true
          rw [hp, hpos]; simp [PosState.busy, PosState.filling]
        · exact fun _ => rfl
        · exact fun e => absurd (hatt.symm.trans e) (by simp)
        · intro _ _
          change (u.pos k.position).state = .ended
          rw [hp, hpos]
        · exact fun e => absurd e (by simp [Ticket.completed, hwin])
      · exact absurd (Option.some.inj (hn.symm.trans hs)).symm hm
      · rw [hpos] at hb
        simp [PosState.busy, PosState.filling] at hb
      · have := ((ht.2.2.1 p).2.2.2 hc).1
        simp [h] at this
    · exact modActive_ledger s p (fun t => t.completed s.clock (s.pDisp p)) (fun _ => rfl)
        fun k hf => ⟨fun e => by simp [Ticket.completed] at e, hf.2⟩
  have hr := hends.trans (raise_acts u (.fillEnded p))
  unfold State.ventEnded
  dsimp only
  split
  · exact hr.trans (holsterEnded_acts _ p (by rw [raise_pos, hpos]))
  · exact hr

/-! ### The authorization window -/

/-- R9: a window that ends is one of an ACTIVE, AUTHORIZED ticket. -/
theorem expireWindow_acts (n : Nat) (hw : ∀ t, s.ticket n = some t → t.window.isSome = true) : Acts s (s.expireWindow n) := by
  unfold State.expireWindow
  split
  · next t ht =>
    obtain ⟨i, hi, hk⟩ := Option.bind_eq_some_iff.1 ht
    have hnum := number_of_slot hi hk
    set v := s.modTicket n fun t => t.endUnused .authExpired s.clock with hv
    set u := v.modPos t.position fun q => { q with active := none } with hu
    have hpos : u.pos t.position = { s.pos t.position with active := none } := by rw [hu, modPos_pos_self, hv, modTicket_pos]
    have hne (q : Fin 4) (hq : q ≠ t.position) : u.pos q = s.pos q := by rw [hu, modPos_pos_ne _ _ hq, hv, modTicket_pos]
    have hoff : OffFill s u := by
      refine ⟨fun q => ?_, ?_, ?_, ?_, ?_, ?_, ?_, ?_, ?_⟩
      · by_cases hq : q = t.position
        · subst hq; rw [hpos]; exact ⟨rfl, rfl, .inl ⟨rfl, rfl, rfl, rfl⟩⟩
        · rw [hne q hq]; exact .refl _
      all_goals simp [hu, hv]
    have hvac : Acts s u := by
      refine hoff.acts (fun hk' => ?_) fun _ => ?_
      · obtain ⟨-, h2, -, h4, -, -, -, h8⟩ := hk'.2.1 i t hk
        obtain ⟨hatt, hst⟩ := h8 (hw t ht)
        refine vacate_tickets (k' := some (t.endUnused .authExpired s.clock)) (by rw [← hnum]; exact h2.1 hatt) hk hnum rfl
          (modTicket_get_found (fun t => t.endUnused .authExpired s.clock) hi hk) (fun l hl => ?_) hne (by rw [hpos]) (by rw [hpos]) ?_
          (fun q => by rw [hoff.cfg]) hoff.commissioned hk'
        · obtain rfl := Option.some.inj hl
          exact ⟨hnum, rfl, rfl, rfl, rfl⟩
        · rw [hpos]
          by_contra hb
          have := h4.2 ⟨hatt, by simpa using hb⟩
          simp [hst] at this
      · exact modTicket_ledger s n (fun t => t.endUnused .authExpired s.clock) (fun _ => rfl)
          fun k => endUnused_funded s .authExpired s.clock k
    dsimp only
    rw [promote_vacated]
    exact ((hvac.trans (promote_acts u _ fun _ => by rw [hpos])).trans (raise_acts _ _)).trans (startTest_acts _ _)
  · exact .refl s

end

end Sys2Proof.Machine
end

section
/-! PROOFS. The ticket requests and the account requests keep the six relations. -/

namespace Sys2Proof.Machine

/-! ### The money of a ticket that leaves the table -/

section
variable {s : State} {m h : Nat}

/-- R14 (1), R31 (1): a hold that leaves an account is still held by its ticket. -/
theorem HeldNear.release (hs : HeldNear s m 0 0) (hh : h ≤ s.holdsOf m) : HeldNear (s.releaseHoldOn m h) m h 0 := by
  refine hs.modAccount (fun _ => rfl) fun a ha => ?_
  change a.held - h + h = _
  omega

theorem releaseHoldOn_follows (hs : StatusFollows s) : StatusFollows (s.releaseHoldOn m h) := hs.modAccount fun _ => ⟨rfl, rfl⟩

/-- R31 (2), (3): a charge or a payment, and the status that follows. -/
theorem money_near {x y : Nat} (f : Money → Money) (hs : HeldNear s m x y) :
    HeldNear ((s.modAccount m fun a => { a with money := f a.money }).followDebt m) m x y :=
  (hs.modAccount (f := fun a => { a with money := f a.money }) (fun _ => rfl) fun _ h => h).followDebt

theorem money_follows {x y : Nat} (f : Money → Money) (hn : HeldNear s m x y) (hs : StatusFollows s) :
    StatusFollows ((s.modAccount m fun a => { a with money := f a.money }).followDebt m) :=
  hs.followDebt hn.2.1 fun _ => rfl

end

/-- R25: what follows the debt of an account touches the account table and the flags. -/
theorem followDebt_offFill (s : State) (n : Nat) :
    OffFill s (s.followDebt n) ∧ (s.followDebt n).tickets = s.tickets ∧ (s.followDebt n).positions = s.positions := by
  have hmod (st : AccountStatus) : OffFill s (s.modAccount n fun a => { a with status := st }) := by
    rw [modAccount_eq]; exact .of_tables s.tickets _
  rcases followDebt_cases s n with e | ⟨st, ⟨f, e⟩ | e⟩ <;> rw [e]
  · exact ⟨.refl s, rfl, rfl⟩
  · have k := hmod st
    exact ⟨⟨k.1, k.2, k.3, k.4, k.5, k.6, k.7, k.8, k.9⟩, by simp, by simp⟩
  · exact ⟨hmod st, by simp, by simp⟩

theorem OffFill.trans_tables {s t u : State} (h : OffFill s t) (k : OffFill t u) (hp : u.positions = t.positions) : OffFill s u := by
  have hpos (q : Fin 4) : u.pos q = t.pos q := by simp [State.pos, hp]
  exact ⟨fun q => hpos q ▸ h.pos q, k.compressor.trans h.compressor, k.banks.trans h.banks, k.precool.trans h.precool,
    k.site.trans h.site, k.bankConfig.trans h.bankConfig, k.positionConfig.trans h.positionConfig,
    k.commissioned.trans h.commissioned, k.esdLatch.trans h.esdLatch⟩

theorem modAccount_offFill (s : State) (n : Nat) (f : Account → Account) : OffFill s (s.modAccount n f) := by
  rw [modAccount_eq]; exact .of_tables s.tickets _

/-- An event that moves accounts alone. -/
theorem accounts_acts {s t : State} (h : OffFill s t) (ht : t.tickets = s.tickets) (hp : t.positions = s.positions)
    (hl : ticketsKept s → ledgerKept s → ledgerKept t) : Acts s t := by
  refine h.acts (ticketsKept_of_core (.of_eq ht) (fun q => ?_) (fun q => by rw [h.cfg]) h.commissioned) hl
  have : t.pos q = s.pos q := by simp [State.pos, hp]
  rw [this]
  exact .refl _

/-- What the release of a retired ticket's money leaves: the tickets and the positions stand, and the account's held total has lost the
hold. -/
structure Released (k : Ticket) (s w : State) : Prop where
  off : OffFill s w
  tickets : w.tickets = s.tickets
  positions : w.positions = s.positions
  near : ledgerKept s → claimOn (some k) (k.account.getD 0) ≤ s.holdsOf (k.account.getD 0) → ∀ m, k.account = some m →
    HeldNear w m (k.hold.getD 0) 0 ∧ StatusFollows w
  none : k.account = none → w = s

theorem cancelHold_released (s : State) (k : Ticket) : Released k s (s.cancelHold k) := by
  cases hm : k.account with
  | none =>
    rw [cancelHold_unfunded hm]
    exact ⟨.refl s, rfl, rfl, fun _ _ m e => by simp [hm] at e, fun _ => rfl⟩
  | some m =>
    have e : s.cancelHold k = s.releaseHoldOn m (k.hold.getD 0) := by simp [State.cancelHold, hm]
    rw [e]
    refine ⟨modAccount_offFill s m _, by simp [State.releaseHoldOn], by simp [State.releaseHoldOn], fun hl hc m' e' => ?_, fun e => by simp [hm] at e⟩
    obtain rfl : m = m' := Option.some.inj (hm.symm.trans e')
    rw [hm, Option.getD_some, claimOn_self hm] at hc
    obtain ⟨hn, hf⟩ := (ledgerKept_iff s m).1 hl
    exact ⟨hn.release hc, releaseHoldOn_follows hf⟩

theorem settleMoney_released (s : State) (k : Ticket) : Released k s (s.settleMoney k) := by
  cases hm : k.account with
  | none =>
    have e : s.settleMoney k = s := by simp [State.settleMoney, hm]
    rw [e]
    exact ⟨.refl s, rfl, rfl, fun _ _ m e => by simp [hm] at e, fun _ => rfl⟩
  | some m =>
    have e : s.settleMoney k =
        ((s.releaseHoldOn m (k.hold.getD 0)).modAccount m fun a => { a with money := a.money.charge k.amount }).followDebt m := by
      simp [State.settleMoney, hm]
    rw [e]
    set v := s.releaseHoldOn m (k.hold.getD 0) with hv
    have hvo : OffFill s v := modAccount_offFill s m _
    have hoff := followDebt_offFill (v.modAccount m fun a => { a with money := a.money.charge k.amount }) m
    obtain ⟨h1, h2, h3⟩ := hoff
    refine ⟨(hvo.trans_tables (modAccount_offFill v m _) (by simp)).trans_tables h1 h3,
      h2.trans (by simp [hv, State.releaseHoldOn]), h3.trans (by simp [hv, State.releaseHoldOn]), fun hl hc m' e' => ?_,
      fun e => by simp [hm] at e⟩
    obtain rfl : m = m' := Option.some.inj (hm.symm.trans e')
    rw [hm, Option.getD_some, claimOn_self hm] at hc
    obtain ⟨hn, hf⟩ := (ledgerKept_iff s m).1 hl
    have hr := hn.release hc
    exact ⟨money_near (·.charge k.amount) hr, money_follows (·.charge k.amount) hr (releaseHoldOn_follows hf)⟩

/-- A retired ticket takes its hold with it. -/
theorem retire_ledger {s w u : State} {k : Ticket} {i : Fin 32} (hk : s.tickets.get i = some k) (hr : Released k s w)
    (hget : ∀ j, u.tickets.get j = if j = i then none else s.tickets.get j) (ha : u.accounts = w.accounts) (hs : u.site = s.site)
    (h : ledgerKept s) : ledgerKept u := by
  have hnum : numbersDistinct u := by
    intro a b hab x hx y hy
    rw [Option.mem_def, hget] at hx hy
    split at hx
    · simp at hx
    · split at hy
      · simp at hy
      · exact h.2.2.1 a b hab x hx y hy
  have hgetw (j : Fin 32) : u.tickets.get j = if j = i then none else w.tickets.get j := by rw [hr.tickets]; exact hget j
  have hkw : w.tickets.get i = some k := by rw [hr.tickets]; exact hk
  have hsw : u.site = w.site := by rw [hs, hr.off.site]
  cases hm : k.account with
  | none =>
    have hl := (ledgerKept_iff w 0).1 (by rw [hr.none hm]; exact h)
    refine (ledgerKept_iff u 0).2 ⟨hl.1.change hgetw ha hsw hnum (by simp) (fun m _ => ?_) ?_, hl.2.congr ha⟩
    · rw [hkw, claimOn_other (by simp [hm])]; rfl
    · rw [hkw, claimOn_other (by simp [hm])]; rfl
  | some m =>
    have hc : claimOn (some k) m ≤ s.holdsOf m := by rw [← hk]; exact claimOn_le_holdsOf s i m
    obtain ⟨hn, hf⟩ := hr.near h (by rw [hm]; exact hc) m hm
    refine (ledgerKept_iff u m).2 ⟨hn.change hgetw ha hsw hnum (by simp) (fun m' hm' => ?_) ?_, hf.congr ha⟩
    · rw [hkw, claimOn_other (by rw [hm]; simpa using fun e => hm' e.symm)]; rfl
    · rw [hkw, claimOn_self hm]
      change 0 + 0 + _ = 0 + _ + 0
      omega

/-- A ticket that is not FUELLING leaves the table with its money, and the slot that it stood in. -/
theorem retire_acts {s w u : State} {n : Nat} {i : Fin 32} {k : Ticket} (hi : s.ticketSlot n = some i) (hk : s.tickets.get i = some k)
    (hst : k.state ≠ .fuelling) (hr : Released k s w)
    (hu : u = (w.retireTicket n).modPos k.position fun q =>
      { q with
        active := if k.attachment = .active then none else q.active
        staged := if k.attachment = .staged then none else q.staged }) : Acts s u := by
  have hpw (q : Fin 4) : w.pos q = s.pos q := by simp [State.pos, hr.positions]
  have hslot : w.ticketSlot n = some i := by rw [State.ticketSlot, hr.tickets]; exact hi
  have hpos : u.pos k.position = { s.pos k.position with
        active := if k.attachment = .active then none else (s.pos k.position).active
        staged := if k.attachment = .staged then none else (s.pos k.position).staged } := by
    rw [hu, modPos_pos_self, retireTicket_pos, hpw]
  have hne (q : Fin 4) (hq : q ≠ k.position) : u.pos q = s.pos q := by rw [hu, modPos_pos_ne _ _ hq, retireTicket_pos, hpw]
  have hget (j : Fin 32) : u.tickets.get j = if j = i then none else s.tickets.get j := by
    rw [hu, modPos_tickets, retireTicket_of_slot hslot]
    change (setAt w.tickets i none).get j = _
    rw [get_setAt, hr.tickets]
  have hoff : OffFill s u := by
    have k1 := hr.off
    refine ⟨fun q => ?_, ?_, ?_, ?_, ?_, ?_, ?_, ?_, ?_⟩
    · by_cases hq : q = k.position
      · subst hq; rw [hpos]; exact ⟨rfl, rfl, .inl ⟨rfl, rfl, rfl, rfl⟩⟩
      · rw [hne q hq]; exact .refl _
    all_goals simp [hu, k1.compressor, k1.banks, k1.precool, k1.site, k1.bankConfig, k1.positionConfig, k1.commissioned, k1.esdLatch]
  refine hoff.acts (retire_tickets hk hst hget hne (by rw [hpos]) (by rw [hpos]) (by rw [hpos]; exact ⟨rfl, rfl⟩)
    (fun q => by rw [hoff.cfg]) hoff.commissioned) fun _ => retire_ledger hk hr hget (by simp [hu]) hoff.site

section
variable {s : State} {n : Nat} {i : Fin 32} {k : Ticket}

theorem modPos_id (s : State) (p : Fin 4) : (s.modPos p fun q => q) = s := modPos_self s p _ rfl

/-- R14: CANCEL_TICKET. -/
theorem cancelTicket_acts (hi : s.ticketSlot n = some i) (hk : s.tickets.get i = some k) (hst : k.state ≠ .fuelling) :
    Acts s (s.cancelTicket k) := by
  have hnum := number_of_slot hi hk
  have hr := cancelHold_released s k
  unfold State.cancelTicket
  dsimp only
  rw [hnum]
  cases hatt : k.attachment with
  | active =>
    set u := ((s.cancelHold k).retireTicket n).modPos k.position fun q => { q with active := none } with hu
    have hacts : Acts s u := retire_acts hi hk hst hr (by rw [hu, hatt]; rfl)
    dsimp only
    rw [promote_vacated]
    exact (hacts.trans (promote_acts u _ fun _ => by rw [hu, modPos_pos_self])).trans (startTest_acts _ _)
  | staged => exact retire_acts hi hk hst hr (by rw [hatt]; rfl)
  | detached => exact retire_acts hi hk hst hr (by rw [hatt]; exact (modPos_id _ _).symm)

/-- R15, R31: SETTLE_TICKET. -/
theorem settleTicket_acts (hi : s.ticketSlot n = some i) (hk : s.tickets.get i = some k) (hst : k.state = .ended) :
    Acts s (s.settleTicket k) := by
  have hnum := number_of_slot hi hk
  have hr := settleMoney_released s k
  have hne : k.state ≠ .fuelling := by simp [hst]
  unfold State.settleTicket
  dsimp only
  rw [hnum]
  split
  · next hatt => exact retire_acts hi hk hne hr (by rw [hatt]; rfl)
  · next hatt =>
    by_cases ht : k.attachment = .staged
    · /- An ENDED ticket is not STAGED. -/
      have hid : ticketsKept s → False := fun h => by
        have := (h.2.1 i k hk).2.2.2.2.2.1 ht
        simp [hst] at this
      have hoff : OffFill s ((s.settleMoney k).retireTicket n) := by
        have k1 := hr.off
        refine ⟨fun q => ?_, ?_, ?_, ?_, ?_, ?_, ?_, ?_, ?_⟩
        · have : ((s.settleMoney k).retireTicket n).pos q = s.pos q := by simp [State.pos, hr.positions]
          rw [this]; exact .refl _
        all_goals simp [k1.compressor, k1.banks, k1.precool, k1.site, k1.bankConfig, k1.positionConfig, k1.commissioned, k1.esdLatch]
      exact hoff.acts (fun h => (hid h).elim) fun h => (hid h).elim
    · exact retire_acts hi hk hne hr (by simp only [if_neg hatt, if_neg ht]; exact (modPos_id _ _).symm)

end

/-! ### OPEN_TICKET -/

section
variable (s : State)

theorem candidate_injective (c : Nat) {a b : Nat} (ha : a < 33) (hb : b < 33) (h : candidate c a = candidate c b) : a = b := by
  unfold candidate at h
  omega

/-- R3: among 33 candidates one is a number that no ticket holds. -/
theorem nextNumber_found : ∃ j < 33, s.nextNumber = candidate s.ticketCounter j ∧ s.ticketSlot s.nextNumber = none := by
  cases hf : ((List.range 33).map (candidate s.ticketCounter)).find? fun n => (s.ticketSlot n).isNone with
  | some n =>
    have hn : s.nextNumber = n := by rw [State.nextNumber, hf]; rfl
    have hm := List.mem_of_find?_eq_some hf
    obtain ⟨j, hj, rfl⟩ := List.mem_map.1 hm
    have := List.find?_some hf
    exact ⟨j, List.mem_range.1 hj, hn, by rw [hn]; simpa using this⟩
  | none =>
    have hall (j : Fin 33) : ∃ i, s.ticketSlot (candidate s.ticketCounter j) = some i := by
      have := List.find?_eq_none.1 hf (candidate s.ticketCounter j) (List.mem_map.2 ⟨j, List.mem_range.2 j.isLt, rfl⟩)
      exact Option.ne_none_iff_exists'.1 (by simpa using this)
    choose g hg using hall
    have hinj : Function.Injective g := by
      intro a b hab
      obtain ⟨k, hk, hn⟩ := findSlot_some (hg a)
      obtain ⟨l, hl, hn'⟩ := findSlot_some (hg b)
      rw [hab, hl] at hk
      obtain rfl := Option.some.inj hk
      exact Fin.ext (candidate_injective _ a.isLt b.isLt ((beq_iff_eq.1 hn).symm.trans (beq_iff_eq.1 hn')))
    have := Fintype.card_le_of_injective g hinj
    simp at this

theorem nextNumber_bounds : 1 ≤ s.nextNumber ∧ s.nextNumber ≤ 65535 := by
  obtain ⟨j, -, hn, -⟩ := nextNumber_found s
  rw [hn]
  unfold candidate
  omega

/-- R6: what the placement of a new ticket has found. -/
theorem placement_found {q : Position} {a : Attachment} (h : q.placement = some a) :
    q.staged = none ∧ (a = .active ∧ q.active = none ∨ a = .staged ∧ q.active.isSome = true) := by
  unfold Position.placement at h
  split at h
  · next h1 h2 => exact ⟨h2, .inl ⟨(Option.some.inj h).symm, h1⟩⟩
  · next h1 h2 => exact ⟨h2, .inr ⟨(Option.some.inj h).symm, by simp [h1]⟩⟩
  · simp at h

theorem openTicket_acts (h : Header) (p : Fin 4) (a : Attachment) (i : Fin 32) (hcom : s.commissioned = true)
    (ha : (s.pos p).placement = some a) (hi : s.tickets.get i = none) : Acts s (s.openTicket h p a i) := by
  obtain ⟨hstg, hplace⟩ := placement_found ha
  set n := s.nextNumber with hn
  set k : Ticket := .opening n p a h (s.cfg p).nozzleClass with hk
  set u := s.openTicket h p a i with hu
  obtain ⟨-, -, -, hfree⟩ := nextNumber_found s
  have hnone : ∀ j, ∀ l ∈ s.tickets.get j, l.number ≠ n := fun j l hl e => by
    have := findSlot_none.1 hfree j l hl
    simp [e, hn] at this
  have hget (j : Fin 32) : u.tickets.get j = if j = i then some k else s.tickets.get j := by
    change (setAt s.tickets i (some k)).get j = _
    exact get_setAt _ _ _ _
  have hpos : u.pos p = (s.pos p).attach a n := modPos_pos_self _ p _
  have hne (q : Fin 4) (hq : q ≠ p) : u.pos q = s.pos q := modPos_pos_ne _ _ hq
  have hfill : SameFill (s.pos p) (u.pos p) := by
    rw [hpos]
    cases a <;> exact ⟨rfl, rfl, .inl ⟨rfl, rfl, rfl, rfl⟩⟩
  have hoff : OffFill s u := by
    refine ⟨fun q => ?_, rfl, rfl, rfl, rfl, rfl, rfl, rfl, rfl⟩
    by_cases hq : q = p
    · subst hq; exact hfill
    · rw [hne q hq]; exact .refl _
  have hstate : (u.pos p).state = (s.pos p).state ∧ (u.pos p).holdTime = (s.pos p).holdTime := by
    rw [hpos]; cases a <;> exact ⟨rfl, rfl⟩
  refine hoff.acts (fun ht => ?_) fun _ hl => ?_
  · have hna : (s.pos p).active ≠ some n := fun e => by
      obtain ⟨j, l, hl, hln, -⟩ := (ticket_any_iff ht.1 n p).1 ((ht.2.2.1 p).1 n e)
      exact hnone j l hl hln
    refine ticketsKept_change (n := n) (p := p) hget (fun l hl => by simp [hi] at hl) (fun j _ l hl => hnone j l hl) (fun l hl => ?_) hne
      (fun m hm => ?_) (fun _ _ _ => hstate) (fun _ => rfl) (fun hb => ?_) (fun hc => by simp [hcom] at hc) (fun q => by rw [hoff.cfg])
      hoff.commissioned ht
    · obtain rfl := Option.some.inj hl
      refine ⟨rfl, rfl, ⟨nextNumber_bounds s, ?_, ?_, ?_, ?_, ?_, ?_, ?_⟩, fun e => by simp [k, Ticket.opening] at e⟩
      · change a = .active ↔ (u.pos p).active = some n
        rw [hpos]
        rcases hplace with ⟨rfl, -⟩ | ⟨rfl, -⟩
        · simp [Position.attach]
        · simpa [Position.attach] using hna
      · change a = .staged ↔ (u.pos p).staged = some n
        rw [hpos]
        rcases hplace with ⟨rfl, -⟩ | ⟨rfl, -⟩ <;> simp [Position.attach, hstg]
      · change TicketState.opened = .fuelling ↔ a = .active ∧ (u.pos p).state.busy = true
        rw [hstate.1]
        rcases hplace with ⟨rfl, hact⟩ | ⟨rfl, -⟩
        · have hb : (s.pos p).state.busy = false := by
            by_contra hb
            have := (ht.2.2.1 p).2.2.1 (Bool.eq_true_of_not_eq_false hb)
            simp [hact] at this
          simp [hb]
        · simp
      · change a = .detached → _
        rcases hplace with ⟨rfl, -⟩ | ⟨rfl, -⟩ <;> simp
      · exact fun _ => .inl rfl
      · exact fun _ e => by simp [k, Ticket.opening] at e
      · exact fun e => by simp [k, Ticket.opening] at e
    · have hnm : some n = some m ↔ False := by simpa using fun e => hm e.symm
      rw [hpos]
      rcases hplace with ⟨rfl, hact⟩ | ⟨rfl, -⟩
      · simp [Position.attach, hact, hnm]
      · simp [Position.attach, hstg, hnm]
    · rw [hstate.1] at hb
      have hs := (ht.2.2.1 p).2.2.1 hb
      refine ⟨?_, by rw [hstate.2]; exact ht.2.2.2.1 p hb⟩
      rw [hpos]
      rcases hplace with ⟨rfl, -⟩ | ⟨rfl, -⟩
      · rfl
      · exact hs
  · have hnum : numbersDistinct u := numbersDistinct_change (n := n) hl.2.2.1 hget (fun j _ l hl => hnone j l hl) fun l hl => by
      obtain rfl := Option.some.inj hl; rfl
    have hclaim (m : Nat) : claimOn (some k) m = 0 := claimOn_other (by simp [k, Ticket.opening])
    obtain ⟨hh, hf⟩ := (ledgerKept_iff s 0).1 hl
    refine (ledgerKept_iff u 0).2 ⟨hh.change hget rfl rfl hnum (fun l hl => ?_) (fun m _ => ?_) ?_, hf.congr rfl⟩
    · obtain rfl := Option.some.inj hl
      exact ⟨fun _ => ⟨rfl, rfl⟩, rfl, by simp [k, Ticket.opening], by simp [k, Ticket.opening], by simp [k, Ticket.opening]⟩
    · rw [hclaim, hi]; rfl
    · rw [hclaim, hi]; rfl

theorem placeTicket_acts (h : Header) (p : Fin 4) (hcom : s.commissioned = true) : Acts s (s.placeTicket h p).state := by
  unfold State.placeTicket
  split
  · next a ha =>
    split
    · next i hi => exact openTicket_acts s h p a i hcom ha (freeSlot_some hi)
    · exact .refl s
  · exact .refl s

end

end Sys2Proof.Machine
end

section
/-! PROOFS. AUTHORIZE, the account requests and the passing of time keep the six relations. -/

namespace Sys2Proof.Machine

/-! ### AUTHORIZE -/

/-- R29, R30: the terms name no account and hold nothing, or they name an account in the table and hold at least the minimum. -/
def TermsSound (s : State) (x : Terms) : Prop :=
  (x.account = none ∧ x.hold = none) ∨
  ∃ m hold, x.account = some m ∧ x.hold = some hold ∧ s.site.minAuthAmount ≤ hold ∧ (s.account m).isSome = true

section
variable {s : State} {t : Ticket} {x : Terms}

theorem termsFor_sound {a : Option Account} {mass amount : Option Nat} (ha : ∀ b ∈ a, (s.account b.number).isSome = true)
    (h : s.termsFor t a mass amount = .inr x) : TermsSound s x := by
  unfold State.termsFor at h
  split at h
  · simp at h
  · split at h
    · obtain rfl := Sum.inr.inj h
      exact .inl ⟨rfl, rfl⟩
    · next b =>
      dsimp only at h
      split at h
      · simp at h
      · next hmin =>
        obtain rfl := Sum.inr.inj h
        exact .inr ⟨_, _, rfl, rfl, Nat.le_of_not_lt hmin, ha b rfl⟩

theorem termsWithAccount_sound {n : Nat} {mass amount : Option Nat} (h : s.termsWithAccount t n mass amount = .inr x) :
    TermsSound s x := by
  unfold State.termsWithAccount at h
  split at h
  · simp at h
  · next a ha =>
    split at h
    · simp at h
    · split at h
      · simp at h
      · refine termsFor_sound (fun b hb => ?_) h
        obtain rfl := Option.some.inj hb
        obtain ⟨j, hj, ha'⟩ := Option.bind_eq_some_iff.1 ha
        rw [number_of_accountSlot hj ha', ha]
        rfl

theorem authorizationTerms_sound {h : Header} {account mass amount : Option Nat}
    (hx : s.authorizationTerms h t account mass amount = .inr x) : TermsSound s x := by
  unfold State.authorizationTerms at hx
  dsimp only at hx
  split at hx
  · simp at hx
  · split at hx
    · simp at hx
    · split at hx
      · simp at hx
      · split at hx
        · exact termsWithAccount_sound hx
        · split at hx
          · exact termsFor_sound (by simp) hx
          · simp at hx

end

section
variable {s : State} {x : Terms}

theorem takeTerms_offFill (s : State) (x : Terms) :
    OffFill s (s.takeTerms x) ∧ (s.takeTerms x).tickets = s.tickets ∧ (s.takeTerms x).positions = s.positions := by
  unfold State.takeTerms
  split
  · exact ⟨modAccount_offFill s _ _, by simp [State.takeHold], by simp [State.takeHold]⟩
  · exact ⟨.refl s, rfl, rfl⟩

/-- R30 (1): a hold that is taken on an account, and not yet written into its ticket. -/
theorem takeTerms_near {m hold : Nat} (hm : x.account = some m) (hh : x.hold = some hold) (h : ledgerKept s) :
    HeldNear (s.takeTerms x) m 0 hold ∧ StatusFollows (s.takeTerms x) := by
  obtain ⟨hn, hf⟩ := (ledgerKept_iff s m).1 h
  have e : s.takeTerms x = s.takeHold m hold := by simp [State.takeTerms, hm, hh]
  rw [e]
  refine ⟨hn.modAccount (f := fun a => { a with held := a.held + hold }) (fun _ => rfl) fun a ha => ?_, hf.modAccount fun _ => ⟨rfl, rfl⟩⟩
  change a.held + hold + 0 = _
  omega

theorem takeTerms_isSome (s : State) (x : Terms) (m : Nat) (h : (s.account m).isSome = true) :
    ((s.takeTerms x).account m).isSome = true := by
  unfold State.takeTerms
  split
  · exact modAccount_isSome s _ _ (fun a => { a with held := a.held + _ }) (fun _ => rfl) h
  · exact h

/-- R7, R30: an authorization that is carried out. -/
theorem authorizeTicket_acts {n : Nat} {i : Fin 32} {k : Ticket} (hi : s.ticketSlot n = some i) (hk : s.tickets.get i = some k)
    (hst : k.state = .opened) (hx : TermsSound s x) : Acts s (s.authorizeTicket k x) := by
  have hnum := number_of_slot hi hk
  obtain ⟨hoffT, htk, hps⟩ := takeTerms_offFill s x
  set f : Ticket → Ticket := fun t => t.authorized x (s.cfg t.position).authMode (s.price t.nozzleClass) s.metrologyCount s.windowLength
    with hf
  set u := (s.takeTerms x).modTicket k.number f with hu
  have hpos (q : Fin 4) : u.pos q = s.pos q := by rw [hu, modTicket_pos]; simp [State.pos, hps]
  have hslot : (s.takeTerms x).ticketSlot k.number = some i := by rw [State.ticketSlot, htk, hnum]; exact hi
  have hget (j : Fin 32) : u.tickets.get j = if j = i then some (f k) else s.tickets.get j := by
    rw [hu, modTicket_get_found f hslot (by rw [htk]; exact hk), htk]
  have hoff : OffFill s u := by
    refine ⟨fun q => by rw [hpos]; exact .refl _, ?_, ?_, ?_, ?_, ?_, ?_, ?_, ?_⟩
    all_goals simp [hu, hoffT.compressor, hoffT.banks, hoffT.precool, hoffT.site, hoffT.bankConfig, hoffT.positionConfig,
      hoffT.commissioned, hoffT.esdLatch]
  have hfields : (f k).number = k.number ∧ (f k).position = k.position ∧ (f k).attachment = k.attachment ∧ (f k).state = .authorized ∧
      (f k).account = x.account ∧ (f k).hold = x.hold ∧ (f k).mass = k.mass ∧ (f k).amount = k.amount ∧
      (f k).window = if k.attachment = .active then some s.windowLength else none :=
    ⟨rfl, rfl, rfl, rfl, rfl, rfl, rfl, rfl, rfl⟩
  obtain ⟨g1, g2, g3, g4, g5, g6, g7, g8, g9⟩ := hfields
  have hacts : Acts s u := by
    refine hoff.acts (fun ht => ?_) fun _ hl => ?_
    · obtain ⟨h1, h2, h3, h4, h5, h6, h7, h8⟩ := ht.2.1 i k hk
      obtain ⟨r1, r2, r3, r4⟩ := ht.2.2.1 k.position
      refine ticketsKept_change (p := k.position) (n := k.number) hget (fun l hl => ?_) (number_free ht.1 hk) (fun l hl => ?_)
        (fun q _ => hpos q) (fun m _ => by rw [hpos]; exact ⟨.rfl, .rfl⟩) (fun _ _ _ => by rw [hpos]; exact ⟨rfl, rfl⟩) (fun _ => rfl)
        (fun hb => ?_) (fun hc => by rw [hpos]; exact r4 hc) (fun q => by rw [hoff.cfg]) hoff.commissioned ht
      · obtain rfl : k = l := Option.some.inj (hk.symm.trans hl)
        exact ⟨rfl, rfl⟩
      · obtain rfl := Option.some.inj hl
        refine ⟨g1, g2, ?_, fun e => by simp [g4] at e⟩
        unfold ticketPlaced
        rw [g1, g2, g3, g4, g9, hpos]
        refine ⟨h1, h2, h3, ⟨fun e => by simp at e, fun e => ?_⟩, fun e => ?_, fun _ => .inr rfl, fun _ e => by simp at e, fun e => ?_⟩
        · have := h4.2 e
          simp [hst] at this
        · have := h5 e
          simp [hst] at this
        · split at e
          · next ha => exact ⟨ha, rfl⟩
          · simp at e
      · rw [hpos] at hb ⊢
        exact ⟨r3 hb, ht.2.2.2.1 _ hb⟩
    · have hnum' : numbersDistinct u :=
        numbersDistinct_change (n := k.number) hl.2.2.1 hget (number_free hl.2.2.1 hk) fun l hl => by
          obtain rfl := Option.some.inj hl; rfl
      obtain ⟨f1, -, -, -, f5⟩ := hl.2.2.2.1 i k hk
      obtain ⟨hna, hm0⟩ := f1 hst
      have hamount : (f k).amount = min 4294967295 (((f k).mass / 1000 * (f k).price.getD 0 + 50000) / 100000) := by
        rw [g8, f5, g7, hm0]; simp
      have hgetT (j : Fin 32) : u.tickets.get j = if j = i then some (f k) else (s.takeTerms x).tickets.get j := by
        rw [htk]; exact hget j
      have hkT : (s.takeTerms x).tickets.get i = some k := by rw [htk]; exact hk
      have hold0 (m : Nat) : claimOn (some k) m = 0 := claimOn_other (by simp [hna])
      rcases hx with ⟨hxa, hxh⟩ | ⟨m, hold, hxa, hxh, hmin, hacc⟩
      · have e : s.takeTerms x = s := by simp [State.takeTerms, hxa]
        obtain ⟨hn, hfol⟩ := (ledgerKept_iff s 0).1 hl
        have hnew (m : Nat) : claimOn (some (f k)) m = 0 := claimOn_other (by rw [g5, hxa]; simp)
        refine (ledgerKept_iff u 0).2 ⟨hn.change hget (by simp [hu, e]) (by simp [hu, e]) hnum' (fun l hl => ?_) (fun m _ => ?_) ?_,
          hfol.congr (by simp [hu, e])⟩
        · obtain rfl := Option.some.inj hl
          refine ⟨fun e => by simp [g4] at e, ?_, ?_, ?_, hamount⟩
          · rw [g5, g6, hxa, hxh]
          · rw [g6, hxh]; simp
          · rw [g5, hxa]; simp
        · rw [hk, hnew, hold0]
        · rw [hk, hnew, hold0]
      · obtain ⟨hn, hfol⟩ := takeTerms_near hxa hxh hl
        refine (ledgerKept_iff u m).2 ⟨hn.change hgetT (by simp [hu]) (by simp [hu]) hnum' (fun l hl => ?_) (fun m' hm' => ?_) ?_,
          hfol.congr (by simp [hu])⟩
        · obtain rfl := Option.some.inj hl
          refine ⟨fun e => by simp [g4] at e, ?_, fun y hy => ?_, fun y hy => ?_, hamount⟩
          · rw [g5, g6, hxa, hxh]; rfl
          · rw [g6, hxh] at hy
            obtain rfl := Option.some.inj hy
            exact hn.1.trans (by rw [hoffT.site]; exact hmin)
          · rw [g5, hxa] at hy
            obtain rfl := Option.some.inj hy
            exact takeTerms_isSome s x _ hacc
        · rw [hkT, hold0, claimOn_other (by rw [g5, hxa]; simpa using fun e => hm' e.symm)]
        · rw [hkT, hold0, claimOn_self (by rw [g5, hxa]), g6, hxh]
          change hold + 0 + 0 = 0 + 0 + hold
          omega
  unfold State.authorizeTicket
  dsimp only
  split
  · exact hacts.trans (startTest_acts _ _)
  · exact hacts

theorem authorize_acts {n : Nat} {i : Fin 32} {k : Ticket} (h : Header) (account mass amount : Option Nat)
    (hi : s.ticketSlot n = some i) (hk : s.tickets.get i = some k) : Acts s (s.authorize h k account mass amount).state := by
  unfold State.authorize require
  split
  · next hst =>
    split
    · split
      · exact .refl s
      · next x hx => exact authorizeTicket_acts hi hk (beq_iff_eq.1 hst) (authorizationTerms_sound hx)
    · exact .refl s
  · exact .refl s

end

/-! ### The account requests -/

section
variable (s : State)

/-- The money of an account moves, and its status follows. -/
theorem changed_acts (n : Nat) (f : Account → Account) (hf : ∀ a, (f a).number = a.number ∧ (f a).held = a.held) :
    Acts s ((s.modAccount n f).followDebt n) := by
  obtain ⟨h1, h2, h3⟩ := followDebt_offFill (s.modAccount n f) n
  refine accounts_acts ((modAccount_offFill s n f).trans_tables h1 h3) (h2.trans (by simp)) (h3.trans (by simp)) fun _ hl => ?_
  obtain ⟨hn, hfol⟩ := (ledgerKept_iff s n).1 hl
  refine (ledgerKept_iff _ n).2 ⟨(hn.modAccount (fun a => (hf a).1) fun a ha => ?_).followDebt, hfol.followDebt hn.2.1 fun a => (hf a).1⟩
  rw [(hf a).2]
  exact ha

theorem creditMoney_acts (n amount : Nat) : Acts s (s.creditMoney n amount) := changed_acts s n _ fun _ => ⟨rfl, rfl⟩

theorem changeAccount_acts (w : AccountWrite) (a : Account) : Acts s (s.changeAccount w a).state := by
  unfold State.changeAccount
  split
  · exact changed_acts s w.number (fun a => a.rewritten w _) fun _ => ⟨rfl, rfl⟩
  · exact .refl s

/-- R26: nothing is held on an account that no ticket names. -/
theorem holdsOf_unnamed {n : Nat} (h : ∀ i, ∀ k ∈ s.tickets.get i, k.account ≠ some n) : s.holdsOf n = 0 := by
  rw [holdsOf_sum]
  refine Finset.sum_eq_zero fun i _ => ?_
  cases hk : s.tickets.get i with
  | none => rfl
  | some k => exact claimOn_other (h i k hk)

/-- R32: a write that creates an account gives it a status in step with its debt. -/
def CreatesSound (w : AccountWrite) : Prop := w.status = .blocked ∨ w.status = .active ∧ w.created.inDebt = false

theorem createAccount_acts (w : AccountWrite) (hw : CreatesSound w) (hn : s.account w.number = none) :
    Acts s (s.createAccount w).state := by
  unfold State.createAccount
  split
  · next i hi =>
    have hfree := freeSlot_some hi
    set u : State := { s with accounts := setAt s.accounts i (some w.created) } with hu
    have hget (j : Fin 64) : u.accounts.get j = if j = i then some w.created else s.accounts.get j := get_setAt _ _ _ _
    refine accounts_acts (OffFill.of_tables s.tickets _) rfl rfl fun _ ⟨h1, h2, h3, h4, h5⟩ => ?_
    have hnew : ∀ j, ∀ a ∈ s.accounts.get j, a.number ≠ w.number := fun j a ha e => by
      have := account_isSome_iff.2 ⟨j, a, ha, e⟩
      simp [hn] at this
    have hun : s.holdsOf w.number = 0 := holdsOf_unnamed s fun i k hk e => by
      have := (h4 i k hk).2.2.2.1 w.number e
      simp [hn] at this
    refine ⟨h1, fun a b hab x hx y hy => ?_, h3, fun i k hk => ?_, fun j a ha => ?_⟩
    · change u.accounts.get a = some x at hx
      change u.accounts.get b = some y at hy
      rw [hget] at hx hy
      split at hx
      · next e =>
        rw [if_neg fun e' => hab (e.trans e'.symm)] at hy
        obtain rfl := Option.some.inj hx
        exact (hnew b y hy).symm
      · split at hy
        · obtain rfl := Option.some.inj hy
          exact hnew a x hx
        · exact h2 a b hab x hx y hy
    · obtain ⟨f1, f2, f3, f4, f5⟩ := h4 i k hk
      refine ⟨f1, f2, f3, fun m hm => ?_, f5⟩
      obtain ⟨j, a, ha, e⟩ := account_isSome_iff.1 (f4 m hm)
      refine account_isSome_iff.2 ⟨j, a, ?_, e⟩
      change u.accounts.get j = some a
      rw [hget, if_neg, ha]
      rintro rfl
      simp [hfree] at ha
    · change u.accounts.get j = some a at ha
      rw [hget] at ha
      split at ha
      · obtain rfl := Option.some.inj ha
        refine ⟨hun.symm, fun e => ?_, fun e => ?_⟩
        · rcases hw with h | ⟨h, -⟩ <;> exact absurd (h.symm.trans e) (by simp)
        · rcases hw with h | ⟨-, h⟩
          · exact absurd (h.symm.trans e) (by simp)
          · exact h
      · exact h5 j a ha
  · exact .refl s

theorem writeAccount_acts (w : AccountWrite) (hw : CreatesSound w) : Acts s (s.writeAccount w).state := by
  unfold State.writeAccount
  split
  · exact changeAccount_acts s w _
  · next h => exact createAccount_acts s w hw h

/-- R32: the form of a WRITE_ACCOUNT payload. -/
theorem decodeAccount_sound {f : AccountLayout} {w : AccountWrite} (h : decodeAccount f = some w) : CreatesSound w := by
  unfold decodeAccount at h
  split at h
  · next credit status classes perFill tag _ hstatus _ _ _ =>
    split at h
    · next money hmoney =>
      split at h
      · simp at h
      · obtain rfl := Option.some.inj h
        have hdebt : (Account.inDebt { (AccountWrite.created ⟨f.number.toNat, status, money, classes.1, classes.2, perFill, tag⟩) with
            money := money }) = false := by
          unfold openingMoney at hmoney
          split at hmoney
          · split at hmoney
            · next hpos =>
              obtain rfl := Option.some.inj hmoney
              simpa [Account.inDebt] using hpos
            · simp at hmoney
          · obtain rfl := Option.some.inj hmoney
            simp [Account.inDebt]
        unfold writtenStatusOf at hstatus
        split at hstatus
        · exact .inr ⟨(Option.some.inj hstatus).symm, hdebt⟩
        · exact .inl (Option.some.inj hstatus).symm
        · simp at hstatus
    · simp at h
  · simp at h

/-- R35: an account on which nothing is held is named by no ticket. -/
theorem retireAccount_acts {n : Nat} {a : Account} (ha : s.account n = some a) (hheld : a.held = 0) : Acts s (s.retireAccount n) := by
  obtain ⟨j, hj, ha⟩ := Option.bind_eq_some_iff.1 ha
  have hnum := number_of_accountSlot hj ha
  rw [retireAccount_of_slot hj]
  set u : State := { s with accounts := setAt s.accounts j none } with hu
  have hget (i : Fin 64) : u.accounts.get i = if i = j then none else s.accounts.get i := get_setAt _ _ _ _
  refine accounts_acts (OffFill.of_tables s.tickets _) rfl rfl fun _ ⟨h1, h2, h3, h4, h5⟩ => ?_
  have hzero : s.holdsOf n = 0 := by
    have := (h5 j a ha).1
    rw [hnum, hheld] at this
    exact this.symm
  refine ⟨h1, fun b c hbc x hx y hy => ?_, h3, fun i k hk => ?_, fun i b hb => ?_⟩
  · change u.accounts.get b = some x at hx
    change u.accounts.get c = some y at hy
    rw [hget] at hx hy
    split at hx
    · simp at hx
    · split at hy
      · simp at hy
      · exact h2 b c hbc x hx y hy
  · obtain ⟨f1, f2, f3, f4, f5⟩ := h4 i k hk
    refine ⟨f1, f2, f3, fun m hm => ?_, f5⟩
    obtain ⟨l, b, hb, e⟩ := account_isSome_iff.1 (f4 m hm)
    refine account_isSome_iff.2 ⟨l, b, ?_, e⟩
    rw [hget, if_neg, hb]
    rintro rfl
    obtain rfl : a = b := Option.some.inj (ha.symm.trans hb)
    /- The ticket would hold at least 1 on the account. -/
    have hname : k.account = some n := by rw [hm, ← e, hnum]
    have hsome : k.hold.isSome = true := by rw [← f2, hname]; rfl
    obtain ⟨x, hx⟩ := Option.isSome_iff_exists.1 hsome
    have hle := claimOn_le_holdsOf s i n
    rw [hk, claimOn_self hname, hx, hzero] at hle
    exact absurd (f3 x hx) (by simpa using hle)
  · change u.accounts.get i = some b at hb
    rw [hget] at hb
    split at hb
    · simp at hb
    · exact h5 i b hb

end

end Sys2Proof.Machine
end

section
/-! PROOFS. Time that passes keeps the six relations, and so does each timer that expires. -/

namespace Sys2Proof.Machine

/-! ### Time that passes -/

section
variable (s : State) (d : Nat)

theorem elapse_pos_coolWaitTimer (p : Fin 4) :
    ((s.elapse d).pos p).coolWaitTimer.isSome = (s.pos p).coolWaitTimer.isSome := by
  by_cases h : d = 0
  · simp [h]
  · simp [elapse_pos d s h, Position.elapse, runDown]

theorem elapse_pos_holdTime (p : Fin 4) :
    ((s.elapse d).pos p).holdTime =
      if (s.pos p).state.isHeld then max (s.pos p).holdTime (min (s.cfg p).holdLimit ((s.pos p).holdTime + d))
      else (s.pos p).holdTime := by
  by_cases h : d = 0
  · subst h
    split
    · rw [elapse_zero]; omega
    · rfl
  · rw [elapse_pos d s h]; rfl

theorem elapse_places : PlacesStand s (s.elapse d) := by
  intro i
  by_cases h : d = 0
  · simp [h]
  · rw [elapse_ticket d s h]
    cases s.tickets.get i <;> simp [Ticket.place, runDown]

theorem elapse_claims : ClaimsStand s (s.elapse d) := by
  intro i
  by_cases h : d = 0
  · simp [h]
  · rw [elapse_ticket d s h]
    cases s.tickets.get i <;> simp [Ticket.claim]

/-- R106, R117 (2): the hold time of a fill stays equal to the whole seconds of the hold accumulator as time passes. -/
theorem elapse_holdTime (hs : ticketsKept s) : holdTimeKept (s.elapse d) := by
  obtain ⟨-, hpl, -, hmax, hused⟩ := hs
  refine ⟨fun p hb => ?_, fun i k hk hst => ?_⟩
  · have := hmax p (by simpa using hb)
    rw [elapse_pos_holdTime, elapse_cfg]
    split
    · unfold PositionConfig.holdLimit; omega
    · exact this
  · by_cases h : d = 0
    · subst h; exact hused i k hk hst
    · rw [elapse_ticket d s h] at hk
      obtain ⟨l, hl, rfl⟩ := Option.map_eq_some_iff.1 hk
      have hpl := hpl i l hl
      obtain ⟨-, hact, -, hfuel, -⟩ := hpl
      have ha : (s.pos l.position).active = some l.number := hact.1 (hfuel.1 hst).1
      have hu := hused i l hl hst
      rw [agedTicket_holdUsed, agedTicket_position, elapse_pos_holdTime]
      unfold State.holdsFill State.agedPos Position.elapse
      by_cases hheld : (s.pos l.position).state.isHeld
      · simp [ha, hheld]
      · simp [hheld, hu]

theorem elapse_tickets (h : ticketsKept s) : ticketsKept (s.elapse d) :=
  ticketsKept_of_places (elapse_places s d) (fun p => ⟨by simp, by simp, by simp, .inr (by simp)⟩) (by simp) (elapse_holdTime s d) h

theorem elapse_ledger (h : ledgerKept s) : ledgerKept (s.elapse d) := by
  refine ledgerKept_of_claims (elapse_claims s d) (by simp) (by simp) (fun ⟨_, _, _, hfund, _⟩ i k hk => ?_) h
  by_cases hd : d = 0
  · subst hd; exact hfund i k hk
  · rw [elapse_ticket d s hd] at hk
    obtain ⟨l, hl, rfl⟩ := Option.map_eq_some_iff.1 hk
    have hl := hfund i l hl
    unfold ticketFunded at hl ⊢
    simpa [account_congr (s := s) (t := s.elapse d) (by simp)] using hl

theorem elapse_draws (h : drawsKept s) : drawsKept (s.elapse d) := by
  refine ⟨by simpa using h.1, fun p => ?_⟩
  simpa using h.2 p

theorem elapse_slots (h : slotsHeld s) : slotsHeld (s.elapse d) := by
  obtain ⟨h1, h2, h3, h4, h5⟩ := h
  refine ⟨by simpa using h1, by simpa using h2, fun p hp => ?_, by simpa using h4, by simpa using h5⟩
  have hw := h3 p (by simpa using hp)
  unfold Waits at hw ⊢
  simpa [elapse_pos_coolWaitTimer] using hw

theorem elapse_acts : Acts s (s.elapse d) :=
  Keeps.acts ⟨⟨elapse_plant s d, elapse_tickets s d, fun _ => elapse_ledger s d⟩, elapse_draws s d, elapse_slots s d⟩
    (by simp) (by simp) (by simp) (by simp)

end

/-! ### A timer that expires -/

section
variable {s : State} {left : Option Nat} {event : State → State}

/-- An event that keeps the relations after the time left on its timer keeps them. -/
theorem expire_acts (h : ∀ d, left = some d → Acts (s.elapse d) (event (s.elapse d))) : Acts s (expire left s event) := by
  unfold expire
  cases left with
  | none => exact .refl s
  | some d => exact (elapse_acts s d).trans (h d rfl)

/-- The time left of a timer that runs in one state only. -/
theorem left_some {c : Prop} [Decidable c] {t : Option Nat} {d : Nat} (h : (if c then t else none) = some d) : c := by
  by_cases hc : c
  · exact hc
  · simp [hc] at h

end
end Sys2Proof.Machine
end

section
/-! PROOFS. The requests that are made while the site is decommissioned, and the restart, keep the six relations. -/

namespace Sys2Proof.Machine

/-! ### Configuration while the site is decommissioned -/

/-- What a change of the records of a decommissioned site leaves alone. -/
structure Configured (s t : State) : Prop where
  was : s.commissioned = false
  commissioned : t.commissioned = false
  positions : t.positions = s.positions
  precool : t.precool = s.precool
  compressor : t.compressor = s.compressor
  esdLatch : t.esdLatch = s.esdLatch

namespace Configured
variable {s t : State}

theorem pos (h : Configured s t) (p : Fin 4) : t.pos p = s.pos p := by simp [State.pos, h.positions]

/-- R137: a decommissioned site has no bank queued. -/
theorem plant (h : Configured s t) : PlantKeeps s t := by
  refine ⟨fun hc => ?_, fun hr => ?_⟩
  · unfold creditsKept at *
    rwa [h.compressor]
  · obtain ⟨⟨-, -, -, hcom, hesd⟩, ha, hm⟩ := (refillKept_iff s).1 hr
    have hq : t.compressor.queue = [] := by rw [h.compressor]; exact hcom h.was
    refine (refillKept_iff t).2 ⟨⟨?_, ?_, ?_, fun _ => hq, ?_⟩, ?_, ?_⟩
    · rw [hq]; exact List.nodup_nil
    · rw [hq]; simp
    · rw [hq]; exact .nil
    · rw [h.compressor, h.esdLatch]; exact hesd
    · exact ha.frame (by rw [h.compressor]) (by rw [h.compressor]) (by rw [h.compressor]) fun p => .inl (by rw [h.pos])
    · unfold motorAllowed at *
      rwa [h.compressor]

theorem draws (h : Configured s t) (hs : s.site.pulseOpening ≤ 1000 → t.site.pulseOpening ≤ 1000) (hd : drawsKept s) : drawsKept t := by
  refine ⟨hs hd.1, fun p => ?_⟩
  have := hd.2 p
  rw [h.was] at this
  rw [h.pos, h.commissioned]
  exact this

/-- R154, R162: a decommissioned site has no slot held and none waited for. -/
theorem slots (h : Configured s t) (hs : slotsHeld s) : slotsHeld t := by
  obtain ⟨e1, e2⟩ := hs.2.2.2.2 h.was
  unfold slotsHeld
  rw [h.precool, e1, e2]
  refine ⟨Nat.zero_le _, List.nodup_nil, by simp, fun p hp => ?_, fun _ => ⟨rfl, rfl⟩⟩
  fin_cases p <;> simp [PosSet.has, PosSet.empty] at hp

/-- R20: with the tickets standing, so does their relation; no fill is in progress. -/
theorem tickets_stand (h : Configured s t) (ht : t.tickets = s.tickets) (hk : ticketsKept s) : ticketsKept t := by
  refine ticketsKept_of_moves (s := s) (t := t) (CoreStands.of_eq ht).places (fun p => by rw [h.pos]; exact ⟨rfl, rfl, rfl⟩)
    (fun _ _ _ _ _ he => by rw [h.pos]; exact he) (fun _ p hp => by rw [h.pos]; exact hp) (h.commissioned.trans h.was.symm)
    (fun ⟨_, _, href, _, hused⟩ => ⟨fun p hb => ?_, fun i k hk hst => ?_⟩) hk
  · rw [h.pos, ((href p).2.2.2 h.was).1] at hb
    exact absurd hb (by decide)
  · rw [h.pos]
    exact hused i k (ht ▸ hk) hst

/-- With the tickets, the accounts and a smallest hold of at least 1, the ledger stands. -/
theorem ledger_stand (ht : t.tickets = s.tickets) (ha : t.accounts = s.accounts)
    (hm : 1 ≤ s.site.minAuthAmount → 1 ≤ t.site.minAuthAmount) (hl : ledgerKept s) : ledgerKept t := by
  unfold ledgerKept numbersDistinct ticketFunded accountBalanced State.holdsOf at hl ⊢
  simp only [ht, ha, account_congr ha]
  exact ⟨hm hl.1, hl.2⟩

theorem acts (h : Configured s t) (hs : s.site.pulseOpening ≤ 1000 → t.site.pulseOpening ≤ 1000)
    (ht : ticketsKept s → ticketsKept t) (hl : ledgerKept s → ledgerKept t) : Acts s t :=
  ⟨⟨⟨h.plant, ht, fun _ => hl⟩, h.draws hs, h.slots⟩, fun hk =>
    .inr (by rw [h.precool]; exact (((slotsKept_iff s).1 hk).1.2.2.2.2 h.was).2)⟩

/-- A record that no relation on the tickets and the ledger reads. -/
theorem acts_of_stand (h : Configured s t) (ht : t.tickets = s.tickets) (ha : t.accounts = s.accounts)
    (hs : s.site.pulseOpening ≤ 1000 → t.site.pulseOpening ≤ 1000)
    (hm : 1 ≤ s.site.minAuthAmount → 1 ≤ t.site.minAuthAmount) : Acts s t :=
  h.acts hs (h.tickets_stand ht) (ledger_stand ht ha hm)

end Configured

section
variable (s : State)

/-- R44, R123, R181: a site record within its values. -/
theorem writeSite_acts {r : SiteRecord} (hr : r.good = true) (hc : s.commissioned = false) : Acts s { s with site := r } := by
  have hg : 1 ≤ r.minAuthAmount ∧ r.pulseOpening ≤ 1000 := by
    simp only [SiteRecord.good, within, Bool.and_eq_true, decide_eq_true_eq] at hr
    omega
  exact Configured.acts_of_stand (t := { s with site := r }) ⟨hc, hc, rfl, rfl, rfl, rfl⟩ rfl rfl (fun _ => hg.2) fun _ => hg.1

theorem writePosition_acts (p : Fin 4) (c : PositionConfig) (hc : s.commissioned = false) :
    Acts s { s with positionConfig := setAt s.positionConfig p c } :=
  Configured.acts_of_stand (t := { s with positionConfig := setAt s.positionConfig p c }) ⟨hc, hc, rfl, rfl, rfl, rfl⟩ rfl rfl id id

theorem writeBank_acts (b : Fin 6) (c : BankConfig) (hc : s.commissioned = false) : Acts s (s.writeBank b c) := by
  have hw : Acts s { s with bankConfig := setAt s.bankConfig b c } :=
    Configured.acts_of_stand (t := { s with bankConfig := setAt s.bankConfig b c }) ⟨hc, hc, rfl, rfl, rfl, rfl⟩ rfl rfl id id
  unfold State.writeBank
  dsimp only
  set u : State := { s with bankConfig := setAt s.bankConfig b c }
  split
  · exact hw.trans (recomputeInventory_acts u b)
  · exact (hw.trans (modBank_acts u b (fun x => { x with p := u.takenValue c.pChannel, t := u.takenValue c.tChannel }) fun _ => rfl)).trans
      (recomputeInventory_acts _ b)

theorem userRestart_acts (u : Option Role) : Acts s (s.userRestart u) := by
  have h (f : Bank → Bank) (hf : ∀ x, (f x).isolated = x.isolated) (b : Fin 6) : Acts s ((s.modBank b f).recomputeInventory b) :=
    (modBank_acts s b f hf).trans (recomputeInventory_acts _ b)
  unfold State.userRestart
  split
  · exact h (fun x => { x with p := 0 }) (fun _ => rfl) _
  · exact h (fun x => { x with t := 0 }) (fun _ => rfl) _
  all_goals exact .refl s

theorem setChan_acts (i : Fin 32) (c : Channel) : Acts s (s.setChan i c) := acts_of_plant ⟨id, id⟩ rfl rfl rfl rfl rfl rfl rfl

theorem writeChannel_acts (i : Fin 32) (c : ChannelConfig) : Acts s (s.writeChannel i c) := by
  have hw : Acts s { s with channelConfig := setAt s.channelConfig i c } := acts_of_plant ⟨id, id⟩ rfl rfl rfl rfl rfl rfl rfl
  exact ((hw.trans (setChan_acts _ i _)).trans (userRestart_acts _ _)).trans (userRestart_acts _ _)

/-! ### Factory clear -/

theorem factoryClear_acts (hc : s.commissioned = false) : Acts s s.factoryClear := by
  have hnone (i : Fin 32) : s.factoryClear.tickets.get i = none := by simp [State.factoryClear]
  refine Configured.acts (t := s.factoryClear) ⟨hc, hc, rfl, rfl, rfl, rfl⟩ (fun _ => by simp [State.factoryClear, SiteRecord.factory]) (fun ht => ?_) fun hl => ?_
  · obtain ⟨-, -, href, -⟩ := ht
    refine ⟨fun i j _ k hk => ?_, fun i k hk => ?_, fun p => ?_, fun p hb => ?_, fun i k hk => ?_⟩
    · simp [hnone] at hk
    · simp [hnone] at hk
    · obtain ⟨e1, e2, e3⟩ := (href p).2.2.2 hc
      unfold slotsRefer
      change (∀ n ∈ (s.pos p).active, _) ∧ (∀ n ∈ (s.pos p).staged, _) ∧ ((s.pos p).state.busy = true → (s.pos p).active.isSome = true) ∧
        (s.commissioned = false → (s.pos p).state = .closed ∧ (s.pos p).active = none ∧ (s.pos p).staged = none)
      rw [e1, e2, e3]
      simp [PosState.busy, PosState.filling]
    · change (s.pos p).state.busy = true at hb
      rw [((href p).2.2.2 hc).1] at hb
      exact absurd hb (by decide)
    · simp [hnone] at hk
  · have hacc (i : Fin 64) : s.factoryClear.accounts.get i = none := by simp [State.factoryClear]
    refine ⟨by simp [State.factoryClear, SiteRecord.factory], fun i j _ a ha => ?_, fun i j _ k hk => ?_, fun i k hk => ?_, fun i a ha => ?_⟩
    · simp [hacc] at ha
    · simp [hnone] at hk
    · simp [hnone] at hk
    · simp [hacc] at ha

end
end Sys2Proof.Machine
end

section
/-! PROOFS. RESTART, DECOMMISSION and COMMISSION keep the six relations. -/

namespace Sys2Proof.Machine

/-! ### A site that is shut down -/

/-- R20, R45, R154: the site is decommissioned with every position closed, no slot held and none waited for, and every ticket of the
table ended and detached. -/
structure ShutDown (f : Ticket → Ticket) (s t : State) : Prop where
  commissioned : t.commissioned = false
  closed : ∀ p, (t.pos p).state = .closed ∧ (t.pos p).active = none ∧ (t.pos p).staged = none ∧ (t.pos p).drawBank = none ∧
    (t.pos p).valve = 0
  holders : t.precool.holders = .empty
  queue : t.precool.waitQueue = []
  tickets : ∀ i, t.tickets.get i = (s.tickets.get i).map f
  claim : ∀ k, (f k).claim = k.claim
  detached : ∀ k, (f k).attachment = .detached ∧ (f k).window = none
  accounts : t.accounts = s.accounts
  site : t.site = s.site

namespace ShutDown
variable {f : Ticket → Ticket} {s t : State}

theorem draws (h : ShutDown f s t) (hd : drawsKept s) : drawsKept t := by
  refine ⟨h.site ▸ hd.1, fun p => ?_⟩
  obtain ⟨e1, -, -, e2, e3⟩ := h.closed p
  simp [e1, e2, e3]

theorem slots (h : ShutDown f s t) : slotsHeld t := by
  unfold slotsHeld
  rw [h.holders, h.queue]
  refine ⟨Nat.zero_le _, List.nodup_nil, by simp, fun p hp => ?_, fun _ => ⟨rfl, rfl⟩⟩
  fin_cases p <;> simp [PosSet.has, PosSet.empty] at hp

theorem claims (h : ShutDown f s t) : ClaimsStand s t := by
  intro i
  rw [h.tickets]
  cases s.tickets.get i <;> simp [h.claim]

theorem tickets_ended (h : ShutDown f s t) (he : ∀ i k, s.tickets.get i = some k → (f k).state = .ended) (hk : ticketsKept s) :
    ticketsKept t := by
  obtain ⟨hnum, hpl, -, -⟩ := hk
  have back {i : Fin 32} {k : Ticket} (hk : t.tickets.get i = some k) : ∃ l, s.tickets.get i = some l ∧ f l = k := by
    rw [h.tickets] at hk
    exact Option.map_eq_some_iff.1 hk
  refine ⟨fun i j hij k hk l hl => ?_, fun i k hk => ?_, fun p => ?_, fun p hb => ?_, fun i k hk hst => ?_⟩
  · obtain ⟨k', hk', rfl⟩ := back hk
    obtain ⟨l', hl', rfl⟩ := back hl
    rw [(claim_eq (h.claim k')).1, (claim_eq (h.claim l')).1]
    exact hnum i j hij k' hk' l' hl'
  · obtain ⟨l, hl, rfl⟩ := back hk
    obtain ⟨⟨n1, n2⟩, -⟩ := hpl i l hl
    obtain ⟨d1, d2⟩ := h.detached l
    obtain ⟨-, c2, c3, -⟩ := h.closed (f l).position
    unfold ticketPlaced
    rw [d1, d2, he i l hl, c2, c3, (claim_eq (h.claim l)).1]
    simp [n1, n2]
  · obtain ⟨c1, c2, c3, -⟩ := h.closed p
    unfold slotsRefer
    rw [c1, c2, c3]
    simp [PosState.busy, PosState.filling]
  · rw [(h.closed p).1] at hb
    exact absurd hb (by decide)
  · obtain ⟨l, hl, rfl⟩ := back hk
    rw [he i l hl] at hst
    cases hst

/-- The ledger stands where the amounts still follow the billing formula. -/
theorem ledger (h : ShutDown f s t) (hf : ∀ i k, s.tickets.get i = some k → ticketFunded s k → ticketFunded s (f k))
    (hl : ledgerKept s) : ledgerKept t := by
  refine ledgerKept_of_claims h.claims h.accounts (by rw [h.site]) (fun ⟨_, _, _, hfund, _⟩ i k hk => ?_) hl
  rw [h.tickets] at hk
  obtain ⟨l, hl, rfl⟩ := Option.map_eq_some_iff.1 hk
  have := hf i l hl (hfund i l hl)
  unfold ticketFunded at this ⊢
  simpa only [account_congr h.accounts] using this

theorem acts (h : ShutDown f s t) (hp : PlantKeeps s t)
    (he : ticketsKept s → ∀ i k, s.tickets.get i = some k → (f k).state = .ended)
    (hf : ∀ i k, s.tickets.get i = some k → ticketFunded s k → ticketFunded s (f k)) : Acts s t :=
  ⟨⟨⟨hp, fun hk => h.tickets_ended (he hk) hk, fun _ => h.ledger hf⟩, h.draws, fun _ => h.slots⟩, fun _ => .inr h.queue⟩

end ShutDown

/-- R9, R19, R20: a ticket that ends keeps its money where its amount is that of its mass. -/
theorem ticketFunded.ended {s : State} {k l : Ticket} (h : ticketFunded s k) (hs : l.state ≠ .opened) (ha : l.account = k.account)
    (hh : l.hold = k.hold) (hm : l.amount = min 4294967295 ((l.mass / 1000 * l.price.getD 0 + 50000) / 100000)) : ticketFunded s l := by
  obtain ⟨-, h2, h3, h4, -⟩ := h
  exact ⟨fun e => absurd e hs, by rw [ha, hh]; exact h2, by rw [hh]; exact h3, by rw [ha]; exact h4, hm⟩

/-! ### Restart -/

section
variable (s : State)

theorem atRestart_state (k : Ticket) (c : Word32) : (k.atRestart c).state = .ended := by
  unfold Ticket.atRestart
  cases k.state <;> rfl

theorem restarted_pos (lines : FieldLines) (p : Fin 4) :
    (s.restarted lines).pos p = .atRestart (lines.meterA.get p) (lines.meterB.get p) := by
  fin_cases p <;> rfl

theorem restarted_shutDown (lines : FieldLines) : ShutDown (fun k => k.atRestart s.clock) s (s.restarted lines) where
  commissioned := rfl
  closed p := by rw [restarted_pos]; exact ⟨rfl, rfl, rfl, rfl, rfl⟩
  holders := rfl
  queue := rfl
  tickets i := by simp [State.restarted]
  claim k := by unfold Ticket.atRestart; cases k.state <;> rfl
  detached k := by unfold Ticket.atRestart; cases k.state <;> exact ⟨rfl, rfl⟩
  accounts := rfl
  site := rfl

theorem restarted_plant (lines : FieldLines) : PlantKeeps s (s.restarted lines) := by
  refine ⟨fun _ => ⟨rfl, .nil, by simp [State.restarted, Compressor.atRestart]⟩, fun _ => (refillKept_iff _).2 ⟨?_, ?_, ?_⟩⟩
  · exact ⟨List.nodup_nil, by simp [State.restarted, Compressor.atRestart], .nil, fun _ => rfl, rfl⟩
  · exact activeKept.of_none (by simp [State.restarted, Compressor.atRestart]) rfl
  · simp [State.restarted, Compressor.atRestart, CompressorState.motorOn]

theorem restarted_acts (lines : FieldLines) : Acts s (s.restarted lines) := by
  refine (restarted_shutDown s lines).acts (restarted_plant s lines) (fun _ _ k _ => atRestart_state k _) fun i k _ hf => ?_
  unfold Ticket.atRestart
  cases hs : k.state with
  | opened => exact endUnused_funded s _ _ _ hf
  | authorized => exact endUnused_funded s _ _ _ hf
  | fuelling => exact hf.ended (by simp) rfl rfl rfl
  | ended => exact hf.ended (by simp) rfl rfl hf.2.2.2.2

theorem afterOutage_acts (d : Word32) : Acts s (s.afterOutage d) := acts_of_plant ⟨id, id⟩ rfl rfl rfl rfl rfl rfl rfl

/-! ### Decommission -/

theorem decommission_pos (p : Fin 4) : s.decommission.pos p = (s.pos p).decommissioned := by
  simp [State.decommission, State.decommissionPrecool, State.decommissionCompressor, State.pos, State.modPcl, State.modCmp]

theorem decommission_shutDown : ShutDown (fun k => k.decommissioned s.clock) s s.decommission where
  commissioned := rfl
  closed p := by rw [decommission_pos]; exact ⟨rfl, rfl, rfl, rfl, rfl⟩
  holders := rfl
  queue := rfl
  tickets i := by
    simp [State.decommission, State.decommissionPrecool, State.decommissionCompressor, State.modPcl, State.modCmp]
  claim k := by unfold Ticket.decommissioned; cases k.state <;> rfl
  detached k := by unfold Ticket.decommissioned; cases k.state <;> exact ⟨rfl, rfl⟩
  accounts := rfl
  site := rfl

/-- R137: no bank is queued or ACTIVE after DECOMMISSION, and the motor is off. -/
theorem decommission_plant : PlantKeeps s s.decommission := by
  refine ⟨id, fun hr => ?_⟩
  obtain ⟨⟨-, -, -, -, hesd⟩, -, -⟩ := (refillKept_iff s).1 hr
  have hst : s.decommission.compressor.state = if s.compressor.state.motorOn then .stopped else s.compressor.state := rfl
  have hoff : s.decommission.compressor.state.motorOn = false := by
    rw [hst]
    split
    · rfl
    · next h => simpa using h
  refine (refillKept_iff _).2 ⟨⟨List.nodup_nil, fun b hb => ?_, .nil, fun _ => rfl, hesd⟩, activeKept.of_none (fun e => ?_) rfl, fun e => ?_⟩
  · exact absurd hb (List.not_mem_nil)
  · rw [e] at hoff; cases hoff
  · rw [hoff] at e; cases e

theorem decommission_acts (h : s.anyBusy = false) : Acts s s.decommission := by
  refine (decommission_shutDown s).acts (decommission_plant s) (fun ht i k hk => ?_) fun i k _ hf => ?_
  · obtain ⟨-, hpl, -⟩ := ht
    obtain ⟨-, -, -, hfuel, -⟩ := hpl i k hk
    unfold Ticket.decommissioned
    cases hs : k.state with
    | opened => rfl
    | authorized => rfl
    | ended => rfl
    | fuelling =>
      have hb := (hfuel.1 hs).2
      have : (s.pos k.position).state.busy = false := by
        simpa using List.any_eq_false.1 h k.position (by simp [allPositions]; omega)
      simp [this] at hb
  · unfold Ticket.decommissioned
    cases hs : k.state with
    | opened => exact endUnused_funded s _ _ _ hf
    | authorized => exact endUnused_funded s _ _ _ hf
    | fuelling => exact hf.ended (by simp) rfl rfl hf.2.2.2.2
    | ended => exact hf.ended (by simp) rfl rfl hf.2.2.2.2

end
end Sys2Proof.Machine
end

section
/-! PROOFS. COMMISSION, the samples, the switch lines and the ESD latch keep the six relations. -/

namespace Sys2Proof.Machine

/-! ### Commission -/

/-- R47 (1): a position stands, or it is opened as IDLE or CALLING. -/
def Opened (q r : Position) : Prop :=
  r.drawBank = q.drawBank ∧ r.valve = q.valve ∧ r.active = q.active ∧ r.staged = q.staged ∧ r.holdTime = q.holdTime ∧
  (r.state = q.state ∧ r.factors = q.factors ∨ r.state = .idle ∨ r.state = .calling)

theorem Opened.refl (q : Position) : Opened q q := ⟨rfl, rfl, rfl, rfl, rfl, .inl ⟨rfl, rfl⟩⟩

theorem Opened.trans {q r x : Position} (h : Opened q r) (k : Opened r x) : Opened q x := by
  obtain ⟨h1, h2, h3, h4, h5, h6⟩ := h
  obtain ⟨k1, k2, k3, k4, k5, k6⟩ := k
  refine ⟨k1.trans h1, k2.trans h2, k3.trans h3, k4.trans h4, k5.trans h5, ?_⟩
  rcases k6 with ⟨e1, e2⟩ | k6
  · rw [e1, e2]; exact h6
  · exact .inr k6

/-- R47 (1): the positions open; nothing else that a relation reads changes. -/
structure Opening (s t : State) : Prop where
  pos : ∀ q, Opened (s.pos q) (t.pos q)
  base : t.base = s.base
  tickets : t.tickets = s.tickets
  precool : t.precool = s.precool
  compressor : t.compressor = s.compressor
  banks : t.banks = s.banks

namespace Opening
variable {s t u : State}

theorem refl (s : State) : Opening s s := ⟨fun _ => .refl _, rfl, rfl, rfl, rfl, rfl⟩

theorem trans (h : Opening s t) (k : Opening t u) : Opening s u :=
  ⟨fun q => (h.pos q).trans (k.pos q), k.base.trans h.base, k.tickets.trans h.tickets, k.precool.trans h.precool,
    k.compressor.trans h.compressor, k.banks.trans h.banks⟩

theorem foldl {α : Type} (f : State → α → State) (h : ∀ s a, Opening s (f s a)) (l : List α) (s : State) :
    Opening s (l.foldl f s) := by
  induction l generalizing s with
  | nil => exact refl s
  | cons a l ih => exact (h s a).trans (ih _)

theorem modPos (s : State) (p : Fin 4) (f : Position → Position) (hf : Opened (s.pos p) (f (s.pos p))) : Opening s (s.modPos p f) := by
  refine ⟨fun q => ?_, rfl, rfl, rfl, rfl, rfl⟩
  rw [modPos_pos]
  split
  · next e => subst e; exact hf
  · exact .refl _

end Opening

section
variable (s : State)

theorem listen_opening (p : Fin 4) : Opening s (s.listen p) := by
  unfold State.listen
  split
  · exact .modPos s p _ ⟨rfl, rfl, rfl, rfl, rfl, .inl ⟨rfl, rfl⟩⟩
  · exact .refl s

theorem commissionPosition_opening (p : Fin 4) : Opening s (s.commissionPosition p) := by
  have h (x : PosState) (hx : x = .idle ∨ x = .calling) : Opening s (s.modPos p fun q => { q with state := x }) :=
    .modPos s p _ ⟨rfl, rfl, rfl, rfl, rfl, .inr hx⟩
  unfold State.commissionPosition State.enterCalling
  dsimp only
  split
  · split
    · exact h .idle (.inl rfl)
    · split
      · exact (h .calling (.inr rfl)).trans (listen_opening _ p)
      · exact h .calling (.inr rfl)
  · exact .refl s

/-- R47 (1): the positions of a site that was decommissioned open. -/
theorem opening_acts {t : State} (hc : s.commissioned = false) (h : Opening { s with commissioned := true } t) : Acts s t := by
  have hcom : t.commissioned = true := by
    have := commissioned_of_base h.base
    exact this
  have hsite : t.site = s.site := by
    have := site_of_base h.base
    exact this
  have hplant : PlantKeeps s t := by
    refine .trans (t := { s with commissioned := true }) ⟨id, fun hr => ?_⟩ ?_
    · obtain ⟨⟨h1, h2, h3, -, h5⟩, ha, hm⟩ := (refillKept_iff s).1 hr
      exact (refillKept_iff _).2 ⟨⟨h1, h2, h3, fun e => (by cases e), h5⟩, ha, hm⟩
    · exact plantKeeps_of_base h.base h.compressor (fun p => .inl (h.pos p).1) h.banks
  refine ⟨⟨⟨hplant, fun ht => ?_, fun _ hl => ?_⟩, fun hd => ⟨hsite ▸ hd.1, fun p => ?_⟩, fun hs => ?_⟩, fun hs => .inr ?_⟩
  · have hidle := fun p => (ht.2.2.1 p).2.2.2 hc
    have hplace (p : Fin 4) : (t.pos p).active = (s.pos p).active ∧ (t.pos p).staged = (s.pos p).staged ∧
        (t.pos p).state.busy = (s.pos p).state.busy := by
      obtain ⟨-, -, h3, h4, -, h6⟩ := h.pos p
      refine ⟨h3, h4, ?_⟩
      rcases h6 with ⟨e, -⟩ | e | e
      · rw [e]; rfl
      · rw [e, (hidle p).1]; rfl
      · rw [e, (hidle p).1]; rfl
    have hnone (p : Fin 4) : (t.pos p).state.busy = false := by rw [(hplace p).2.2, (hidle p).1]; rfl
    have ht' : ticketsKept { s with commissioned := true } := by
      obtain ⟨h1, h2, h3, h4⟩ := ht
      exact ⟨h1, h2, fun p => ⟨(h3 p).1, (h3 p).2.1, (h3 p).2.2.1, fun e => (by cases e)⟩, h4⟩
    refine ticketsKept_of_moves (s := { s with commissioned := true }) (t := t) (CoreStands.of_eq h.tickets).places hplace
      (fun i k _ _ _ he => ?_) (fun e => (by cases e)) hcom (fun ht' => ⟨fun p hb => ?_, fun i k hk hst => ?_⟩) ht'
    · change (s.pos k.position).state = .ended at he
      rw [(hidle k.position).1] at he
      cases he
    · rw [hnone] at hb; cases hb
    · rw [(h.pos k.position).2.2.2.2.1]
      rw [h.tickets] at hk
      exact ht'.2.2.2.2 i k hk hst
  · have hacc : t.accounts = s.accounts := by
      have := accounts_of_base h.base
      exact this
    exact ledgerKept_of_core (.of_eq h.tickets) hacc (by rw [hsite]) hl
  · have hk := hd.2 p
    change DrawOk _ _ at hk ⊢
    obtain ⟨k1, -, k3⟩ := hk
    have hcl := k3 hc
    rw [hcl] at k1
    obtain ⟨h1, h2, -, -, -, h6⟩ := h.pos p
    have h1 : (t.pos p).drawBank = (s.pos p).drawBank := h1
    have h2 : (t.pos p).valve = (s.pos p).valve := h2
    unfold DrawOk
    rw [h1, h2, hcom]
    rcases h6 with ⟨e, -⟩ | e | e
    · have e : (t.pos p).state = .closed := e.trans hcl
      rw [e]
      simpa using k1
    · rw [e]
      simpa using k1
    · rw [e]
      simpa using k1
  · obtain ⟨e1, e2⟩ := hs.2.2.2.2 hc
    unfold slotsHeld
    rw [h.precool, hcom]
    change s.precool.holders.size ≤ _ ∧ s.precool.waitQueue.Nodup ∧ (∀ p ∈ s.precool.waitQueue, _) ∧
      (∀ p, s.precool.holders.has p = true → _) ∧ _
    rw [e1, e2]
    refine ⟨Nat.zero_le _, List.nodup_nil, by simp, fun p hp => ?_, fun e => by cases e⟩
    fin_cases p <;> simp [PosSet.has, PosSet.empty] at hp
  · rw [h.precool]
    exact (((slotsKept_iff s).1 hs).1.2.2.2.2 hc).2

theorem compressorStartTest_acts : Acts s s.compressorStartTest := compressor_acts (compressorStartTest_only s) (compressorStartTest_plant s)

theorem queueEntryAtCommission_acts (b : Fin 6) : Acts s (s.queueEntryAtCommission b) := by
  refine compressor_acts ?_ (queueEntryAtCommission_plant s b)
  unfold State.queueEntryAtCommission
  split <;> rfl

theorem commission_acts (hc : s.commissioned = false) : Acts s s.commission := by
  have h := opening_acts s hc (Opening.foldl _ commissionPosition_opening allPositions { s with commissioned := true })
  exact ((h.trans (Acts.foldl _ queueEntryAtCommission_acts allBanks _)).trans (commissionChiller_acts _)).trans (compressorStartTest_acts _)

/-! ### Samples and grace times -/

theorem notifyTaken_acts (r : Role) (v : Nat) (changed : Bool) : Acts s (s.notifyTaken r v changed) := by
  have hsense (p : Fin 4) : Acts s (if changed then s.senseDoubt p else s) := by
    split
    · exact senseDoubt_acts s p
    · exact .refl s
  cases r with
  | pDisp p => exact hsense p
  | tGas p => exact (hsense p).trans (tGasTaken_acts _ p v)
  | bankP b => exact bankPressureTaken_acts s b v
  | bankT b => exact bankTemperatureTaken_acts s b v
  | supply => exact compressor_acts (supplyTaken_only s v) (supplyTaken_plant s v)
  | discharge => exact compressor_acts (dischargeTaken_only s v) (dischargeTaken_plant s v)
  | coolant =>
    unfold State.notifyTaken
    dsimp only
    split
    · exact (coolantReturned_acts s).trans (coolantTaken_acts _ v)
    · exact coolantTaken_acts s v
  | ambient => exact .refl s

theorem notifyHeld_acts (r : Role) : Acts s (s.notifyHeld r) := by
  cases r with
  | pDisp p => exact senseDoubt_acts s p
  | tGas p => exact senseDoubt_acts s p
  | _ => exact .refl s

theorem notifyFailed_acts (r : Role) : Acts s (s.notifyFailed r) := by
  cases r with
  | pDisp p => exact endFill_acts s p _
  | tGas p => exact senseDoubt_acts s p
  | bankP b => exact isolate_acts s b
  | supply => exact compressor_acts (supplyFailed_only s) (supplyFailed_plant s)
  | discharge => exact compressor_acts (dischargeFailed_only s) (dischargeFailed_plant s)
  | coolant => exact coolantFailed_acts s
  | bankT _ => exact .refl s
  | ambient => exact .refl s

theorem notify_acts (c : Fin 32) (tell : State → Role → State) (h : ∀ r, Acts s (tell s r)) : Acts s (s.notify c tell) := by
  unfold State.notify
  split
  · exact h _
  · exact .refl s

theorem channelSample_acts (c : Fin 32) (v : Nat) : Acts s (s.channelSample c v) := by
  unfold State.channelSample
  dsimp only
  split
  · exact (setChan_acts s c _).trans (notify_acts _ c _ fun r => notifyTaken_acts _ r v _)
  · split
    · exact (setChan_acts s c _).trans (notify_acts _ c _ fun r => notifyHeld_acts _ r)
    · exact .refl s

theorem sample_acts (source value : Nat) : Acts s (s.sample source value) := by
  unfold State.sample
  split
  · exact channelSample_acts s _ _
  · exact acts_of_plant ⟨id, id⟩ rfl rfl rfl rfl rfl rfl rfl

theorem failChannel_acts (c : Fin 32) : Acts s (s.failChannel c) :=
  ((setChan_acts s c _).trans (raise_acts _ _)).trans (notify_acts _ c _ fun r => notifyFailed_acts _ r)

/-! ### Switch lines -/

theorem switchEvent_acts (line : SwitchLine) (level : Bool) : Acts s (s.switchEvent line level) := by
  unfold State.switchEvent
  cases line with
  | holster p =>
    dsimp only
    split
    · exact nozzleHolstered_acts s p
    · exact nozzleLifted_acts s p
  | coupling p =>
    dsimp only
    split
    · exact couplingClosed_acts s p
    · exact couplingOpened_acts s p
  | metrology => exact metrologyChange_acts s level
  | chillerFault => exact faultLineChange_acts s level

theorem debounced_acts (line : SwitchLine) : Acts s (s.debounced line) := by
  have h (d : Debouncers) : Acts s { s with debouncers := d } := acts_of_plant ⟨id, id⟩ rfl rfl rfl rfl rfl rfl rfl
  exact (h _).trans (switchEvent_acts _ line _)

theorem rawChange_acts (line : SwitchLine) (level : Bool) : Acts s (s.rawChange line level) :=
  acts_of_plant ⟨id, id⟩ rfl rfl rfl rfl rfl rfl rfl

/-! ### The ESD latch -/

/-- R64: what the setting of the ESD latch leaves of a position: out of its fill where it was in one, else as it was. -/
theorem esdAtPosition_filling (p q : Fin 4) (h : ((s.esdAtPosition p).pos q).state.filling = true) :
    q ≠ p ∧ (s.pos q).state.filling = true := by
  unfold State.esdAtPosition at h
  by_cases hq : q = p
  · subst hq
    by_cases hf : (s.pos q).state.filling = true
    · rw [enterEndingCore_pos hf] at h
      exact absurd h (by simp [endedPosition, PosState.filling])
    · rw [enterEndingCore_idle (by simpa using hf)] at h
      exact absurd h hf
  · refine ⟨hq, ?_⟩
    rwa [(enterEndingCore_fill s p .esd).pos q hq] at h

/-- R64: the setting of the ESD latch leaves no fill. -/
theorem esdAtPositions_filling (p : Fin 4) : ((allPositions.foldl State.esdAtPosition s).pos p).state.filling = false := by
  refine Bool.eq_false_iff.2 fun h => ?_
  simp only [allPositions, List.foldl] at h
  obtain ⟨n3, h⟩ := esdAtPosition_filling _ _ _ h
  obtain ⟨n2, h⟩ := esdAtPosition_filling _ _ _ h
  obtain ⟨n1, h⟩ := esdAtPosition_filling _ _ _ h
  obtain ⟨n0, -⟩ := esdAtPosition_filling _ _ _ h
  omega

theorem esdAtPositions_keeps : Keeps s (allPositions.foldl State.esdAtPosition s) := by
  have h (u : State) (p : Fin 4) : Keeps u (u.esdAtPosition p) := enterEndingCore_keeps u p .esd
  simp only [allPositions, List.foldl]
  exact (((h s 0).trans (h _ 1)).trans (h _ 2)).trans (h _ 3)

/-- R64, R163: a site without a fill has nothing that waits for a slot. -/
theorem noGrantDue_of_notFilling (hs : slotsHeld s) (h : ∀ p, (s.pos p).state.filling = false) : noGrantDue s := by
  refine .inr (List.eq_nil_iff_forall_not_mem.2 fun p hp => ?_)
  have hst := (hs.2.2.1 p hp).1
  have := h p
  cases hx : (s.pos p).state <;> simp_all [PosState.isStarting, PosState.filling]

theorem esdCauseSet_acts : Acts s ({ s with esdLatch := true }).esdCauseSet := by
  refine acts_of_plant (esdCauseSet_plant s) ?_ ?_ ?_ ?_ ?_ ?_ ?_ <;>
    (unfold State.esdCauseSet State.stopMotor; split <;> rfl)

theorem setEsdLatch_acts : Acts s s.setEsdLatch := by
  refine (esdCauseSet_acts s).trans (.trans ⟨esdAtPositions_keeps _, fun hs => ?_⟩ (raise_acts _ _))
  exact noGrantDue_of_notFilling _ ((esdAtPositions_keeps _).slots ((slotsKept_iff _).1 hs).1) (esdAtPositions_filling _)

theorem esdLineAt_acts (active : Bool) : Acts s (s.esdLineAt active) := by
  have h : Acts s { s with esdLine := active } := acts_of_plant ⟨id, id⟩ rfl rfl rfl rfl rfl rfl rfl
  unfold State.esdLineAt
  dsimp only
  split
  · exact h.trans (setEsdLatch_acts _)
  · exact h

theorem clearEsdLatch_acts : Acts s s.clearEsdLatch := by
  have h : Acts s ({ s with esdLatch := false }).esdCauseCleared := by
    have ho : CompressorOnly _ _ := compressorStartTest_only (({ s with esdLatch := false }).modCmp fun c => { c with esdCause := false })
    unfold CompressorOnly at ho
    refine acts_of_plant (esdCauseCleared_plant s) ?_ ?_ ?_ ?_ ?_ ?_ ?_ <;> (unfold State.esdCauseCleared; rw [ho]; rfl)
  exact h.trans (startTestAll_acts _)

end
end Sys2Proof.Machine
end

section
/-! PROOFS. Every command keeps the six relations, and so does every step (O54 to O59). -/

namespace Sys2Proof.Machine

/-! ### A request and its reply -/

/-- The outcome of a command keeps the relations. -/
def OutcomeActs (s : State) (o : Host.Outcome State Fault Refusal) : Prop := ∀ t, o = .next t → Acts s t

theorem OutcomeActs.next {s t : State} (h : Acts s t) : OutcomeActs s (.next t) := fun u hu => by
  obtain rfl := Host.Outcome.next.inj hu
  exact h

section
variable {s : State}

theorem takeFrame_acts (c : Instr) : Acts s (s.takeFrame c) :=
  acts_of_plant (plantKeeps_of_frame (by simp) (by simp) (by simp) (by simp) (by simp) (by simp)) (by simp) (by simp) (by simp)
    (by simp) (by simp) (by simp) (by simp)

theorem answer_acts {c : Instr} {h : Header} {code : Byte} {body : State → Answer} (hb : ∀ u, Acts u (body u).state) :
    OutcomeActs s (answer c h code s body) :=
  .next (((takeFrame_acts c).trans (hb _)).trans (acts_of_plant ⟨id, id⟩ rfl rfl rfl rfl rfl rfl rfl))

theorem accept_acts {t : State} (h : Acts s t) : Acts s (accept t).state := h

theorem require_acts {test : Bool} {r : Result} {k : Answer} (h : test = true → Acts s k.state) :
    Acts s (require test r s k).state := by
  unfold require
  split
  · next ht => exact h ht
  · exact .refl s

theorem stationOnly_acts {h : Header} {k : Answer} (hk : Acts s k.state) : Acts s (stationOnly h s k).state :=
  require_acts fun _ => hk

theorem spelled_acts {α : Type} {x : Option α} {k : α → Answer} (h : ∀ a, x = some a → Acts s (k a).state) :
    Acts s (spelled x s k).state := by
  unfold spelled
  split
  · exact h _ rfl
  · exact .refl s

theorem configure_acts {h : Header} {k : Answer} (hk : s.commissioned = false → Acts s k.state) :
    Acts s (configure h s k).state :=
  stationOnly_acts (require_acts fun hc => hk (by simpa using hc))

theorem withTicket_acts {h : Header} {n : Nat} {k : Ticket → Answer}
    (hk : ∀ i t, s.ticketSlot n = some i → s.tickets.get i = some t → Acts s (k t).state) : Acts s (withTicket h n s k).state := by
  unfold withTicket
  split
  · next t ht =>
    obtain ⟨i, hi, ht⟩ := Option.bind_eq_some_iff.1 ht
    exact require_acts fun _ => hk i t hi ht
  · exact .refl s

theorem withAccount_acts {n : Nat} {k : Account → Answer} (hk : ∀ a, s.account n = some a → Acts s (k a).state) :
    Acts s (withAccount n s k).state := by
  unfold withAccount
  split
  · next a ha => exact hk a ha
  · exact .refl s

theorem atPosition_acts {h : Header} {b : Byte} {k : Fin 4 → Answer} (hk : ∀ p, Acts s (k p).state) :
    Acts s (atPosition h b s k).state :=
  stationOnly_acts (spelled_acts fun p _ => hk p)

theorem atBank_acts {h : Header} {b : Byte} {k : Fin 6 → Answer} (hk : ∀ b, Acts s (k b).state) :
    Acts s (atBank h b s k).state :=
  stationOnly_acts (spelled_acts fun b _ => hk b)

end

/-! ### The events of the site link -/

section
variable (s : State)

theorem abandonFrame_acts : Acts s s.abandonFrame := acts_of_plant ⟨id, id⟩ rfl rfl rfl rfl rfl rfl rfl

theorem abandonOverdue_acts : Acts s s.abandonOverdue := by
  unfold State.abandonOverdue
  split
  · exact abandonFrame_acts s
  all_goals exact .refl s

theorem completeFrame_acts (f : RawFrame) : Acts s (s.completeFrame f) := by
  unfold State.completeFrame State.appendFrame
  split
  · split <;> exact acts_of_plant ⟨id, id⟩ rfl rfl rfl rfl rfl rfl rfl
  · exact acts_of_plant ⟨id, id⟩ rfl rfl rfl rfl rfl rfl rfl

theorem receiver_acts (r : Receiver) : Acts s { s with receiver := r } := acts_of_plant ⟨id, id⟩ rfl rfl rfl rfl rfl rfl rfl

theorem huntByte_acts (inRun : Bool) (value : Byte) (stopOk : Bool) : Acts s (s.huntByte inRun value stopOk) := by
  unfold State.huntByte
  split
  · exact receiver_acts s _
  · split
    · exact .refl s
    · exact acts_of_plant ⟨id, id⟩ rfl rfl rfl rfl rfl rfl rfl

theorem assembleByte_acts (bytes : List Byte) : Acts s (s.assembleByte bytes) := by
  unfold State.assembleByte
  split
  · exact abandonFrame_acts s
  · split
    · exact (receiver_acts s _).trans (completeFrame_acts _ _)
    · exact receiver_acts s _

theorem requestFrame_acts (f : RawFrame) : OutcomeActs s (execRequestFrame f s) := by
  refine .next ((abandonOverdue_acts s).trans ?_)
  split
  · exact abandonFrame_acts _
  · exact (receiver_acts _ _).trans (completeFrame_acts _ _)

theorem receivedByte_acts (value : Byte) (stopOk : Bool) : OutcomeActs s (execReceivedByte value stopOk s) := by
  refine .next ((abandonOverdue_acts s).trans ?_)
  split
  · exact huntByte_acts _ _ _ _
  · split
    · exact assembleByte_acts _ _
    · exact abandonFrame_acts _

/-! ### The configuration requests -/

theorem execWriteSite_acts (h : Header) (f : SiteLayout) : OutcomeActs s (execWriteSite h f s) :=
  answer_acts fun u => configure_acts fun hc => spelled_acts fun r hr => by
    unfold decodeSite at hr
    split at hr
    · next hg => exact Option.some.inj hr ▸ writeSite_acts u hg hc
    · cases hr

theorem execWritePosition_acts (h : Header) (f : PositionLayout) : OutcomeActs s (execWritePosition h f s) :=
  answer_acts fun u => configure_acts fun hc => spelled_acts fun p _ => spelled_acts fun c _ => writePosition_acts u p c hc

theorem execWriteProfile_acts (h : Header) (f : ProfileLayout) : OutcomeActs s (execWriteProfile h f s) :=
  answer_acts fun _ => configure_acts fun _ => spelled_acts fun _ _ => spelled_acts fun _ _ =>
    acts_of_plant ⟨id, id⟩ rfl rfl rfl rfl rfl rfl rfl

theorem execWriteBank_acts (h : Header) (f : BankLayout) : OutcomeActs s (execWriteBank h f s) :=
  answer_acts fun u => configure_acts fun hc => spelled_acts fun b _ => spelled_acts fun c _ => writeBank_acts u b c hc

theorem execWriteChannel_acts (h : Header) (f : ChannelLayout) : OutcomeActs s (execWriteChannel h f s) :=
  answer_acts fun u => configure_acts fun _ => spelled_acts fun i _ => spelled_acts fun c _ =>
    require_acts fun _ => writeChannel_acts u i c

theorem execWriteTerminal_acts (h : Header) (a x : Byte) : OutcomeActs s (execWriteTerminal h a x s) :=
  answer_acts fun _ => configure_acts fun _ => spelled_acts fun _ _ => acts_of_plant ⟨id, id⟩ rfl rfl rfl rfl rfl rfl rfl

theorem execCommission_acts (h : Header) : OutcomeActs s (execCommission h s) :=
  answer_acts fun u => stationOnly_acts <| require_acts fun hc => require_acts fun _ => by
    have hcom : u.commissioned = false := by simpa using hc
    cases u.commissionFault with
    | some item => exact Acts.refl u
    | none => exact accept_acts (commission_acts u hcom)

theorem execDecommission_acts (h : Header) : OutcomeActs s (execDecommission h s) :=
  answer_acts fun u => stationOnly_acts <| require_acts fun _ => require_acts fun hb => decommission_acts u (by simpa using hb)

theorem execFactoryClear_acts (h : Header) : OutcomeActs s (execFactoryClear h s) :=
  answer_acts fun u => stationOnly_acts <| require_acts fun hc => require_acts fun _ => factoryClear_acts u (by simpa using hc)

/-! ### The tickets, the accounts, the prices and the metrology record -/

theorem execOpenTicket_acts (h : Header) (b : Byte) : OutcomeActs s (execOpenTicket h b s) :=
  answer_acts fun u => spelled_acts fun p _ => require_acts fun _ => require_acts fun hc => require_acts fun _ =>
    placeTicket_acts u h p hc

theorem execAuthorize_acts (h : Header) (f : AuthorizeLayout) : OutcomeActs s (execAuthorize h f s) :=
  answer_acts fun _ => withTicket_acts fun _ _ hi hk => authorize_acts h _ _ _ hi hk

theorem execCancelTicket_acts (h : Header) (n : Word16) : OutcomeActs s (execCancelTicket h n s) :=
  answer_acts fun u => withTicket_acts fun _ _ hi hk => require_acts fun hs =>
    cancelTicket_acts hi hk (by rintro e; simp [e] at hs)

theorem execSettleTicket_acts (h : Header) (n : Word16) : OutcomeActs s (execSettleTicket h n s) :=
  answer_acts fun u => withTicket_acts fun _ _ hi hk => require_acts fun hs => settleTicket_acts hi hk (by simpa using hs)

theorem execWriteAccount_acts (h : Header) (f : AccountLayout) : OutcomeActs s (execWriteAccount h f s) :=
  answer_acts fun u => stationOnly_acts <| spelled_acts fun w hw => writeAccount_acts u w (decodeAccount_sound hw)

theorem execCreditAccount_acts (h : Header) (n x : Word32) : OutcomeActs s (execCreditAccount h n x s) :=
  answer_acts fun u => require_acts fun _ => withAccount_acts fun _ _ => creditMoney_acts u _ _

theorem execCloseAccount_acts (h : Header) (n : Word32) : OutcomeActs s (execCloseAccount h n s) :=
  answer_acts fun u => stationOnly_acts <| withAccount_acts fun _ ha => require_acts fun hh =>
    retireAccount_acts u ha (by simpa using hh)

theorem setPrice_acts (k : NozzleClass) (x : Nat) : Acts s (s.setPrice k x) := by
  cases k <;> exact acts_of_plant ⟨id, id⟩ rfl rfl rfl rfl rfl rfl rfl

theorem execSetPrice_acts (h : Header) (k : Byte) (x : Word32) : OutcomeActs s (execSetPrice h k x s) :=
  answer_acts fun u => stationOnly_acts <| spelled_acts fun k _ => require_acts fun _ => setPrice_acts u k _

theorem execWriteMetrology_acts (h : Header) (p : Byte) (x : Word16) : OutcomeActs s (execWriteMetrology h p x s) :=
  answer_acts fun _ => stationOnly_acts <| require_acts fun _ => spelled_acts fun _ _ => require_acts fun _ => require_acts fun _ =>
    acts_of_plant ⟨id, id⟩ rfl rfl rfl rfl rfl rfl rfl

/-! ### The operating requests -/

theorem resumePosition_acts (p : Fin 4) : Acts s (s.resumePosition p).state := by
  unfold State.resumePosition
  dsimp only
  split
  · next x h =>
    exact require_acts fun _ => (clearStationFactors_keeps s p (.inl ⟨x, h⟩)).acts rfl rfl rfl rfl
  · next h =>
    refine require_acts fun hf => resumeFromFactors_acts s p h ?_
    simp only [Bool.and_eq_true, Bool.not_eq_true'] at hf
    exact hf.2
  · next h => exact resumeOnDemand_acts s p h
  all_goals exact .refl s

theorem execResumePosition_acts (h : Header) (b : Byte) : OutcomeActs s (execResumePosition h b s) :=
  answer_acts fun u => atPosition_acts fun p => resumePosition_acts u p

theorem execHoldPosition_acts (h : Header) (b : Byte) : OutcomeActs s (execHoldPosition h b s) :=
  answer_acts fun u => atPosition_acts fun p => require_acts fun _ => activate_acts u p _

theorem execStopPosition_acts (h : Header) (b : Byte) : OutcomeActs s (execStopPosition h b s) :=
  answer_acts fun u => atPosition_acts fun p => require_acts fun _ => endFill_acts u p _

theorem suspendRefill_acts : Acts s s.suspendRefill.state := by
  have h : Acts s s.suspendMotor := compressor_acts rfl (suspendMotor_plant s)
  unfold State.suspendRefill
  split <;> first | exact h | exact .refl s

theorem execSuspendRefill_acts (h : Header) : OutcomeActs s (execSuspendRefill h s) :=
  answer_acts fun u => stationOnly_acts (suspendRefill_acts u)

theorem enterStopped_acts (h : s.compressor.state ≠ .running) : Acts s s.enterStopped :=
  compressor_acts (enterStopped_only s) (enterStopped_plant s h)

theorem execResumeRefill_acts (h : Header) : OutcomeActs s (execResumeRefill h s) :=
  answer_acts fun u => stationOnly_acts <| require_acts fun hs => enterStopped_acts u (by rintro e; simp [e] at hs)

theorem execIsolateBank_acts (h : Header) (b : Byte) : OutcomeActs s (execIsolateBank h b s) :=
  answer_acts fun u => atBank_acts fun b => isolate_acts u b

theorem execReturnBank_acts (h : Header) (b : Byte) : OutcomeActs s (execReturnBank h b s) :=
  answer_acts fun u => atBank_acts fun b => require_acts fun _ => returnToReady_acts u b

theorem chillerOn_acts : Acts s s.chillerOn.state := by
  unfold State.chillerOn
  split
  · exact switchChillerOn_acts s
  · exact require_acts fun _ => switchChillerOn_acts s
  all_goals exact .refl s

theorem execChillerOn_acts (h : Header) : OutcomeActs s (execChillerOn h s) :=
  answer_acts fun u => stationOnly_acts (chillerOn_acts u)

theorem execChillerOff_acts (h : Header) : OutcomeActs s (execChillerOff h s) :=
  answer_acts fun u => stationOnly_acts (switchChillerOff_acts u)

theorem clearEsd_acts : Acts s s.clearEsd.state := by
  unfold State.clearEsd
  split
  · exact require_acts fun _ => clearEsdLatch_acts s
  · exact .refl s

theorem execClearEsd_acts (h : Header) : OutcomeActs s (execClearEsd h s) :=
  answer_acts fun u => stationOnly_acts (clearEsd_acts u)

theorem execReadEvents_acts (h : Header) : OutcomeActs s (execReadEvents h s) :=
  answer_acts fun _ => stationOnly_acts (acts_of_plant ⟨id, id⟩ rfl rfl rfl rfl rfl rfl rfl)

/-! ### The timers -/

/-- A change of the ACTIVE ticket, in a state that does not meet the relation on the tickets. -/
theorem modActive_acts_of_not (p : Fin 4) (f : Ticket → Ticket) (h : ¬ticketsKept s) : Acts s (s.modActive p f) := by
  refine Keeps.acts ⟨⟨modActive_plant s p f, fun ht => absurd ht h, fun ht => absurd ht h⟩, fun hd => ?_, fun hs => ?_⟩ ?_ ?_ ?_ ?_
  · unfold drawsKept at *
    simpa using hd
  · unfold slotsHeld Waits State.grade at *
    simpa using hs
  all_goals simp

theorem authWindowExpiry_acts (n : Word16) : OutcomeActs s (execAuthWindowExpiry n s) := by
  refine .next (expire_acts fun d hd => expireWindow_acts _ _ fun t ht => ?_)
  have hp := elapse_places s d
  have := hp.ticket n.toNat
  rw [ht] at this
  obtain ⟨k, hk, hw⟩ := Option.bind_eq_some_iff.1 hd
  rw [hk] at this
  have e := (place_eq (Option.some.inj this)).2.2.2.2
  rw [e, hw]
  rfl

/-- R117 (3): the hold total expires on an accumulator that has reached it, as it has where the relation on the tickets holds. -/
theorem holdTotalExpiry_acts (p : Fin 4) : OutcomeActs s (execHoldTotalExpiry p s) := by
  refine .next ?_
  cases hl : s.holdTotalLeft p with
  | none => exact .refl s
  | some d =>
    have hheld : (s.pos p).state.isHeld = true := left_some hl
    have hd : (s.cfg p).holdLimit - (s.pos p).holdTime = d := by
      unfold State.holdTotalLeft at hl
      rw [if_pos hheld] at hl
      exact Option.some.inj hl
    rw [expire_some]
    refine (elapse_acts s d).trans ?_
    by_cases ht : ticketsKept (s.elapse d)
    · refine holdExhausted_acts _ p ?_
      have hmax := ht.2.2.2.1 p (by
        rw [elapse_pos_state]
        cases hx : (s.pos p).state <;> simp_all [PosState.isHeld, PosState.busy, PosState.filling])
      rw [elapse_pos_holdTime, if_pos hheld, elapse_cfg] at hmax ⊢
      unfold PositionConfig.holdLimit at *
      omega
    · exact (modActive_acts_of_not _ p _ ht).trans (endFill_acts _ p _)

theorem siteClockTick_acts : OutcomeActs s (execSiteClockTick s) := .next (elapse_acts s _)

/-- An event of a timer that runs in one state of its position only. -/
theorem substate_acts {sub : Substate} {p : Fin 4} {event : State → State}
    (h : ∀ u, (u.pos p).state = .starting sub → Acts u (event u)) : Acts s (expire (s.substateLeft p sub) s event) :=
  expire_acts fun _ hd => h _ (by simpa using left_some hd)

/-- An event of a timer that runs in one state of the compressor only. -/
theorem compressorTimer_acts {c : CompressorState} {event : State → State}
    (h : ∀ u, u.compressor.state = c → Acts u (event u)) : Acts s (expire (s.compressorLeft c) s event) :=
  expire_acts fun _ hd => h _ (by simpa using left_some hd)

theorem controlStep_acts (p : Fin 4) : OutcomeActs s (execControlStep p s) :=
  .next (expire_acts fun _ hd => runStep_acts _ p (by simpa using left_some hd))

theorem ventTimeEnd_acts (p : Fin 4) : OutcomeActs s (execVentTimeEnd p s) :=
  .next (expire_acts fun _ hd => ventEnded_acts _ p (by simpa using left_some hd))

theorem resumeDelayExpiry_acts (p : Fin 4) : OutcomeActs s (execResumeDelayExpiry p s) :=
  .next (expire_acts fun _ hd => delayEnded_acts _ p (by simpa using left_some hd))

/-- R117 (2): at the end of a second of the hold accumulator it has not passed the hold total. -/
theorem holdSecondElapsed_acts (p : Fin 4) : OutcomeActs s (execHoldSecondElapsed p s) :=
  .next (expire_acts fun d hd => writeHoldTime_acts _ p (by
    obtain ⟨hheld, hlt⟩ := left_some hd
    rw [elapse_pos_holdTime, if_pos hheld, elapse_cfg]
    unfold PositionConfig.holdLimit at *
    omega))

theorem startTimeEnd_acts : OutcomeActs s (execStartTimeEnd s) :=
  .next (compressorTimer_acts s fun u hu => compressor_acts (chooseNext_only u none) (startTimeEnded_plant u hu))

theorem unloadedTimeEnd_acts : OutcomeActs s (execUnloadedTimeEnd s) :=
  .next (compressorTimer_acts s fun u hu => compressor_acts rfl (unloadedEnded_plant u (by simp [hu])))

theorem endLockout_only : CompressorOnly s s.endLockout := by
  unfold State.endLockout
  split
  · rfl
  · exact enterStopped_only s

theorem lockoutTimeEnd_acts : OutcomeActs s (execLockoutTimeEnd s) :=
  .next (compressorTimer_acts s fun u hu => compressor_acts (endLockout_only u) (endLockout_plant u (by simp [hu])))

theorem creditReturn_acts : OutcomeActs s (execCreditReturn s) := by
  refine .next (expire_acts fun d hd => compressor_acts ((modCmp_only _ _).trans (compressorStartTest_only _)) (returnCredit_plant _ ?_))
  intro he
  by_cases h : d = 0
  · subst h
    rw [elapse_zero] at he
    simp [he] at hd
  · simp [State.elapse, h, Compressor.elapse] at he
    simp [he] at hd

/-! ### The command and the step -/

theorem execUnknownRequest_acts (h : Header) (x : Byte) : OutcomeActs s (execUnknownRequest h x s) :=
  answer_acts fun u => .refl u

theorem execSetClock_acts (h : Header) (x : Word32) : OutcomeActs s (execSetClock h x s) :=
  answer_acts fun _ => stationOnly_acts (acts_of_plant ⟨id, id⟩ rfl rfl rfl rfl rfl rfl rfl)

theorem execReadTicket_acts (h : Header) (n : Word16) : OutcomeActs s (execReadTicket h n s) :=
  answer_acts fun u => withTicket_acts fun _ _ _ _ => .refl u

theorem execListTickets_acts (h : Header) (x : Byte) : OutcomeActs s (execListTickets h x s) := answer_acts fun u => .refl u

theorem execReadAccount_acts (h : Header) (n : Word32) : OutcomeActs s (execReadAccount h n s) :=
  answer_acts fun u => withAccount_acts fun _ _ => .refl u

theorem execReadMetrology_acts (h : Header) : OutcomeActs s (execReadMetrology h s) := answer_acts fun u => .refl u

theorem execReadPosition_acts (h : Header) (x : Byte) : OutcomeActs s (execReadPosition h x s) :=
  answer_acts fun u => spelled_acts fun _ _ => require_acts fun _ => .refl u

theorem execReadBank_acts (h : Header) (x : Byte) : OutcomeActs s (execReadBank h x s) :=
  answer_acts fun u => atBank_acts fun _ => .refl u

theorem execReadCompressor_acts (h : Header) : OutcomeActs s (execReadCompressor h s) :=
  answer_acts fun u => stationOnly_acts (.refl u)

theorem execReadPrecool_acts (h : Header) : OutcomeActs s (execReadPrecool h s) :=
  answer_acts fun u => stationOnly_acts (.refl u)

theorem execReadChannel_acts (h : Header) (x : Byte) : OutcomeActs s (execReadChannel h x s) :=
  answer_acts fun u => stationOnly_acts (spelled_acts fun _ _ => .refl u)

end

/-- Every command keeps the six relations. -/
theorem exec_acts (c : Instr) (s : State) : OutcomeActs s (exec c s) := by
  cases c with
  | restart found => exact .next ((afterOutage_acts s _).trans (restarted_acts _ _))
  | requestFrame f => exact requestFrame_acts s f
  | frameGapTimeout => exact .next (expire_acts fun _ _ => abandonFrame_acts _)
  | unknownRequest h code => exact execUnknownRequest_acts s h code
  | writeSite h f => exact execWriteSite_acts s h f
  | writePosition h f => exact execWritePosition_acts s h f
  | writeProfile h f => exact execWriteProfile_acts s h f
  | writeBank h f => exact execWriteBank_acts s h f
  | writeChannel h f => exact execWriteChannel_acts s h f
  | writeTerminal h a x => exact execWriteTerminal_acts s h a x
  | commission h => exact execCommission_acts s h
  | decommission h => exact execDecommission_acts s h
  | factoryClear h => exact execFactoryClear_acts s h
  | setClock h x => exact execSetClock_acts s h x
  | siteClockTick => exact siteClockTick_acts s
  | openTicket h p => exact execOpenTicket_acts s h p
  | authorize h f => exact execAuthorize_acts s h f
  | authWindowExpiry n => exact authWindowExpiry_acts s n
  | cancelTicket h n => exact execCancelTicket_acts s h n
  | settleTicket h n => exact execSettleTicket_acts s h n
  | readTicket h n => exact execReadTicket_acts s h n
  | listTickets h x => exact execListTickets_acts s h x
  | writeAccount h f => exact execWriteAccount_acts s h f
  | creditAccount h n x => exact execCreditAccount_acts s h n x
  | closeAccount h n => exact execCloseAccount_acts s h n
  | readAccount h n => exact execReadAccount_acts s h n
  | setPrice h k x => exact execSetPrice_acts s h k x
  | writeMetrology h p x => exact execWriteMetrology_acts s h p x
  | readMetrology h => exact execReadMetrology_acts s h
  | holdPosition h p => exact execHoldPosition_acts s h p
  | resumePosition h p => exact execResumePosition_acts s h p
  | stopPosition h p => exact execStopPosition_acts s h p
  | suspendRefill h => exact execSuspendRefill_acts s h
  | resumeRefill h => exact execResumeRefill_acts s h
  | isolateBank h b => exact execIsolateBank_acts s h b
  | returnBank h b => exact execReturnBank_acts s h b
  | chillerOn h => exact execChillerOn_acts s h
  | chillerOff h => exact execChillerOff_acts s h
  | clearEsd h => exact execClearEsd_acts s h
  | readPosition h p => exact execReadPosition_acts s h p
  | readBank h b => exact execReadBank_acts s h b
  | readCompressor h => exact execReadCompressor_acts s h
  | readPrecool h => exact execReadPrecool_acts s h
  | readChannel h x => exact execReadChannel_acts s h x
  | readEvents h => exact execReadEvents_acts s h
  | sampleArrival source v => exact .next (sample_acts s _ _)
  | graceTimerExpiry c => exact .next (expire_acts fun _ _ => failChannel_acts _ c)
  | switchRawChange line level => exact .next (rawChange_acts s line level)
  | debounceExpiry line => exact .next (expire_acts fun _ _ => debounced_acts _ line)
  | esdLineChange active => exact .next (esdLineAt_acts s active)
  | meterLineChange p a b => exact .next (meterChange_acts s p a b)
  | vehicleFrameArrival p f => exact .next (vehicleFrame_acts s p _)
  | freshnessExpiry p => exact .next (expire_acts fun _ _ => loseLink_acts _ p)
  | pulseTimeEnd p => exact .next (substate_acts s fun u hu => enterSettle_acts (.refl u p) hu)
  | settleTimeEnd p => exact .next (expire_acts fun _ _ => settleEnded_acts _ p)
  | leakCheckTimeEnd p => exact .next (expire_acts fun _ _ => leakCheckEnded_acts _ p)
  | coolWaitExpiry p => exact .next (expire_acts fun _ _ => coolWaitEnded_acts _ p)
  | controlStep p => exact controlStep_acts s p
  | ventTimeEnd p => exact ventTimeEnd_acts s p
  | resumeDelayExpiry p => exact resumeDelayExpiry_acts s p
  | holdSecondElapsed p => exact holdSecondElapsed_acts s p
  | holdTotalExpiry p => exact holdTotalExpiry_acts s p
  | fallbackExpiry p => exact .next (expire_acts fun _ _ => fallbackExpired_acts _ p)
  | startTimeEnd => exact startTimeEnd_acts s
  | unloadedTimeEnd => exact unloadedTimeEnd_acts s
  | lockoutTimeEnd => exact lockoutTimeEnd_acts s
  | creditReturn => exact creditReturn_acts s
  | receivedByte v ok => exact receivedByte_acts s v ok

/-- Every step keeps the six relations. -/
theorem step_acts {s t : State} (h : step s = .next t) : Acts s t := by
  unfold step at h
  split at h
  · next c rest _ =>
    exact .trans (t := { s with pending := rest }) (acts_of_plant ⟨id, id⟩ rfl rfl rfl rfl rfl rfl rfl) (exec_acts c _ t h)
  · unfold idle at h
    split at h
    · exact exec_acts _ s t h
    · exact OutcomeActs.next (elapse_acts s 1) t h

/-- Settles O54: the credits move in the compressor alone, and each of its operations keeps their number and the order of the
return times. -/
theorem stepKeepsTheCredits : Obligations.StepKeepsTheCredits := fun _ _ hs h => (step_acts h).plant.1 hs

/-- Settles O55: every event leaves the position that it moves with the valve, the draw and the factors of its new state. -/
theorem stepKeepsTheDraws : Obligations.StepKeepsTheDraws := fun _ _ hs h => (step_acts h).draws hs

/-- Settles O56: each operation on the queue, on the ACTIVE bank and on the causes that stop the motor keeps the relation. -/
theorem stepKeepsTheRefill : Obligations.StepKeepsTheRefill := fun _ _ hs h => (step_acts h).plant.2 hs

/-- Settles O57: no event gives more slots than there are, and each ends with the grants that it made due. -/
theorem stepKeepsTheSlots : Obligations.StepKeepsTheSlots := fun _ _ hs h => (step_acts h).slotsKept hs

/-- Settles O58: each event moves a ticket together with the position that refers to it. -/
theorem stepKeepsTheTickets : Obligations.StepKeepsTheTickets := fun _ _ hs h => (step_acts h).tickets hs

/-- Settles O59: each event moves the hold of a ticket together with the held total of its account. -/
theorem stepKeepsTheLedger : Obligations.StepKeepsTheLedger := fun _ _ hs ht h => (step_acts h).ledger ht hs

end Sys2Proof.Machine
end

section
/-! PROOFS. The configuration requests, whose records the payloads spell. -/

namespace Sys2Proof.Machine

/-! ### Value codes -/

section
variable {b : Byte}

theorem yesNoOf_eq (h : b.toNat ≤ 1) : yesNoOf b = some (decide (b.toNat = 1)) := by
  have h : b = 0 ∨ b = 1 := by bv_omega
  rcases h with rfl | rfl <;> rfl

theorem yesNoOf_le {x : Bool} (h : yesNoOf b = some x) : b.toNat ≤ 1 := by
  unfold yesNoOf at h
  split at h <;> simp_all

theorem classOf_eq (h : b.toNat = 1 ∨ b.toNat = 2) : classOf b = some (if b.toNat = 1 then .h70 else .h35) := by
  unfold classOf
  split <;> simp_all

theorem classOf_codes {x : NozzleClass} (h : classOf b = some x) : b.toNat = 1 ∨ b.toNat = 2 := by
  unfold classOf at h
  split at h <;> simp_all

theorem classesOf_eq (h₁ : 1 ≤ b.toNat) (h₂ : b.toNat ≤ 3) : classesOf b = some (b.getLsbD 0, b.getLsbD 1) := by
  have h : b = 1 ∨ b = 2 ∨ b = 3 := by bv_omega
  rcases h with rfl | rfl | rfl <;> rfl

theorem classesOf_le {x : Bool × Bool} (h : classesOf b = some x) : 1 ≤ b.toNat ∧ b.toNat ≤ 3 := by
  unfold classesOf at h
  split at h <;> simp_all

theorem gradeOf_eq (h : b.toNat ≤ 3) : ∃ g, gradeOf b = some g ∧ g.code = b.toNat := by
  have h : b = 0 ∨ b = 1 ∨ b = 2 ∨ b = 3 := by bv_omega
  rcases h with rfl | rfl | rfl | rfl <;> exact ⟨_, rfl, rfl⟩

theorem gradeOf_le {g : Grade} (h : gradeOf b = some g) : b.toNat ≤ 3 := by
  unfold gradeOf at h
  split at h <;> simp_all

theorem commModeOf_eq (h : b.toNat ≤ 1) : commModeOf b = some (if b.toNat = 0 then .comm else .noncomm) := by
  have h : b = 0 ∨ b = 1 := by bv_omega
  rcases h with rfl | rfl <;> rfl

theorem commModeOf_codes {x : CommMode} (h : commModeOf b = some x) :
    b.toNat ≤ 1 ∧ x = if b.toNat = 0 then .comm else .noncomm := by
  unfold commModeOf at h
  split at h <;> simp_all

theorem variantOf_eq (h : b.toNat ≤ 1) : variantOf b = some (if b.toNat = 0 then .pulseCheck else .pulseOnly) := by
  have h : b = 0 ∨ b = 1 := by bv_omega
  rcases h with rfl | rfl <;> rfl

theorem variantOf_le {x : StartVariant} (h : variantOf b = some x) : b.toNat ≤ 1 := by
  unfold variantOf at h
  split at h <;> simp_all

theorem authModeOf_eq (h : b.toNat ≤ 1) : authModeOf b = some (if b.toNat = 0 then .autonomous else .supervised) := by
  have h : b = 0 ∨ b = 1 := by bv_omega
  rcases h with rfl | rfl <;> rfl

theorem authModeOf_le {x : AuthMode} (h : authModeOf b = some x) : b.toNat ≤ 1 := by
  unfold authModeOf at h
  split at h <;> simp_all

theorem clearModeOf_eq (h : b.toNat ≤ 2) :
    clearModeOf b = some (if b.toNat = 0 then .manual else if b.toNat = 1 then .timed else .timedDemand) := by
  have h : b = 0 ∨ b = 1 ∨ b = 2 := by bv_omega
  rcases h with rfl | rfl | rfl <;> rfl

theorem clearModeOf_le {x : ClearMode} (h : clearModeOf b = some x) : b.toNat ≤ 2 := by
  unfold clearModeOf at h
  split at h <;> simp_all

theorem debounceOf_eq (h : b.toNat ≤ 3) : debounceOf b = some ([20, 80, 160, 320].getD b.toNat 0) := by
  have h : b = 0 ∨ b = 1 ∨ b = 2 ∨ b = 3 := by bv_omega
  rcases h with rfl | rfl | rfl | rfl <;> rfl

theorem debounceOf_le {x : Nat} (h : debounceOf b = some x) : b.toNat ≤ 3 := by
  unfold debounceOf at h
  split at h <;> simp_all

/-- 12.6.8: a channel byte that names a channel or none. -/
theorem namedChannelOf_eq (h : namesChannel b) : namedChannelOf b = some (channelNamed b) := by
  unfold namedChannelOf channelNamed channelOf
  rcases h with h | h
  · have h : b.toNat < 32 := by omega
    rw [if_neg (by omega), dif_pos h]
    rfl
  · rw [if_pos h, dif_neg (by omega)]

theorem namedChannelOf_names {x : Option (Fin 32)} (h : namedChannelOf b = some x) : namesChannel b := by
  unfold namedChannelOf at h
  split at h
  · next e => exact .inr e
  · obtain ⟨c, hc, -⟩ := Option.map_eq_some_iff.1 h
    rw [channelOf_eq_some] at hc
    have := c.isLt
    exact .inl (by omega)

end

/-- R43, R121: two channel bytes name different channels, or none. -/
theorem channelsDiffer_named {a b : Byte} (ha : namesChannel a) (hb : namesChannel b) :
    channelsDiffer (channelNamed a) (channelNamed b) = true ↔ (a = b → a.toNat = 255) := by
  unfold channelsDiffer channelNamed
  constructor
  · rintro h rfl
    rcases ha with h' | h'
    · rw [dif_pos (by omega)] at h
      simp at h
    · exact h'
  · intro h
    rcases ha with h' | h'
    · rw [dif_pos (by omega)]
      split
      · simp only [Option.isNone_some, Bool.false_or, bne_iff_ne, ne_eq, Option.some.injEq, Fin.mk.injEq]
        intro e
        have := h (BitVec.eq_of_toNat_eq e)
        omega
      · simp
    · rw [dif_neg (by omega)]
      rfl

theorem within_iff {lo x hi : Nat} : within lo x hi = true ↔ lo ≤ x ∧ x ≤ hi := by simp [within]

/-! ### A configuration request -/

/-- Taking a frame and a change of records do not meet. -/
theorem takeFrame_change (g : State → State) (hb : ∀ s, (g s).inputBuffer = s.inputBuffer)
    (hg : ∀ s b, ({ g s with inputBuffer := b } : State) = g { s with inputBuffer := b }) (s : State) (c : Instr) :
    (g s).takeFrame c = g (s.takeFrame c) := by
  unfold State.takeFrame
  rw [hb]
  cases s.inputBuffer with
  | nil => rfl
  | cons f rest =>
    dsimp only
    split
    · exact hg s rest
    · rfl

section
variable {h : Header} {s : State} {c : Instr} {code : Byte}

/-- R179: an accepted request that changes records as a function of the state. -/
theorem answer_change {body : State → Answer} {payload : List Byte} (g : State → State) (hb : ∀ s, (g s).inputBuffer = s.inputBuffer)
    (hg : ∀ s b, ({ g s with inputBuffer := b } : State) = g { s with inputBuffer := b })
    (hbody : body (s.takeFrame c) = acceptWith (g (s.takeFrame c)) payload) :
    answer c h code s body = .next ((g s).answered c h code .ok payload) := by
  rw [answer_acceptWith_effect hbody, State.answered, takeFrame_change g hb hg]

theorem configure_open (hs : h.sender = 0) (hc : s.commissioned = false) (k : Answer) : configure h s k = k := by
  rw [configure, stationOnly_station hs, hc]
  rfl

/-- R181: a configuration request is refused while the site is commissioned. -/
theorem configure_commissioned (hs : h.sender = 0) (hc : s.commissioned = true) (k : State → Answer) :
    answer c h code s (fun s => configure h s (k s)) = .next (s.answered c h code .refusedState []) :=
  answer_refuse (by rw [configure, stationOnly_station hs, takeFrame_commissioned, hc]; rfl)

theorem configure_badValue (hs : h.sender = 0) (hc : s.commissioned = false) {k : State → Answer}
    (hk : k (s.takeFrame c) = refuse (s.takeFrame c) .badValue) :
    answer c h code s (fun s => configure h s (k s)) = .next (s.answered c h code .badValue []) :=
  answer_refuse (by rw [configure_open hs (by simpa using hc)]; exact hk)

theorem configure_accepted (hs : h.sender = 0) (hc : s.commissioned = false) {k : State → Answer} {payload : List Byte}
    (g : State → State) (hb : ∀ s, (g s).inputBuffer = s.inputBuffer)
    (hg : ∀ s b, ({ g s with inputBuffer := b } : State) = g { s with inputBuffer := b })
    (hk : k (s.takeFrame c) = acceptWith (g (s.takeFrame c)) payload) :
    answer c h code s (fun s => configure h s (k s)) = .next ((g s).answered c h code .ok payload) :=
  answer_change g hb hg (by rw [configure_open hs (by simpa using hc)]; exact hk)

end

/-! ### WRITE_SITE -/

theorem exec_writeSite (h : Header) (f : SiteLayout) (s : State) : exec (.writeSite h f) s = execWriteSite h f s := rfl

/-- R44, R69, R123, R138, R153, R181: the model's test of the site fields is the spec's. -/
theorem siteRecord_good_iff (f : SiteLayout) : (siteRecordOf f).good = true ↔ siteInRange f := by
  simp only [SiteRecord.good, Bool.and_eq_true, within_iff, decide_eq_true_eq]
  simp only [siteRecordOf, siteInRange]
  omega

/-- Settles O8: the tests in their order; the record is the one that the payload spells. -/
theorem writeSiteReplacesTheRecord : Obligations.WriteSiteReplacesTheRecord := by
  intro h f s hs
  rw [exec_writeSite]
  refine ⟨fun hc => configure_commissioned hs hc _, fun hc hr => ?_, fun hc hr => ⟨siteRecordOf f, ?_, ?_⟩⟩
  · refine configure_badValue hs hc ?_
    rw [decodeSite, if_neg (mt (siteRecord_good_iff f).1 hr)]
    rfl
  · refine configure_accepted hs hc (fun s => { s with site := siteRecordOf f }) (fun _ => rfl) (fun _ _ => rfl) ?_
    rw [decodeSite, if_pos ((siteRecord_good_iff f).2 hr)]
    rfl
  · refine ⟨rfl, rfl, rfl, rfl, rfl, rfl, rfl, rfl, rfl, rfl, rfl, rfl, rfl, rfl, rfl, rfl, rfl, rfl, rfl, rfl, rfl, rfl, fun i hi => ?_⟩
    simp [siteRecordOf, hi]

/-! ### WRITE_POSITION -/

/-- R43: the record that a payload within the values spells. -/
def positionRecordOf (f : PositionLayout) : PositionConfig where
  inService := decide (f.inService.toNat = 1)
  nozzleClass := if f.nozzleClass.toNat = 1 then .h70 else .h35
  cooling := decide (f.cooling.toNat = 1)
  authMode := if f.authMode.toNat = 0 then .autonomous else .supervised
  pDisp := channelNamed f.pDisp
  tGas := channelNamed f.tGas
  bankLow := dispositionBit f.dispositions 0
  precool := dispositionBit f.dispositions 1
  sensor := dispositionBit f.dispositions 2
  meter := dispositionBit f.dispositions 3
  clearMode := if f.clearMode.toNat = 0 then .manual else if f.clearMode.toNat = 1 then .timed else .timedDemand
  resumeDelay := f.resumeDelay.toNat
  maxHold := f.maxHold.toNat
  holsterDebounce := [20, 80, 160, 320].getD f.holsterDebounce.toNat 0
  couplingDebounce := [20, 80, 160, 320].getD f.couplingDebounce.toNat 0

theorem decodePosition_inRange {f : PositionLayout} (h : positionInRange f) : decodePosition f = some (positionRecordOf f) := by
  obtain ⟨-, h1, h2, h3, h4, h5, h6, h7, h8, h9, h10, h11, h12, h13, h14⟩ := h
  have hd := (channelsDiffer_named h5 h6).2 h7
  simp only [decodePosition, yesNoOf_eq h1, classOf_eq h2, yesNoOf_eq h3, authModeOf_eq h4, namedChannelOf_eq h5, namedChannelOf_eq h6,
    clearModeOf_eq h8, debounceOf_eq h13, debounceOf_eq h14, hd, within_iff.2 ⟨h9, h10⟩, within_iff.2 ⟨h11, h12⟩]
  rfl

theorem inRange_of_decodePosition {f : PositionLayout} {c : PositionConfig} (hp : f.position.toNat ≤ 3) (h : decodePosition f = some c) :
    positionInRange f := by
  unfold decodePosition at h
  split at h
  · next h1 h2 h3 h4 h5 h6 h7 h8 h9 =>
    split at h
    · next hg =>
      simp only [Bool.and_eq_true, within_iff] at hg
      obtain ⟨⟨hd, hr⟩, hm⟩ := hg
      have n5 := namedChannelOf_names h5
      have n6 := namedChannelOf_names h6
      rw [namedChannelOf_eq n5] at h5
      rw [namedChannelOf_eq n6] at h6
      rw [← Option.some.inj h5, ← Option.some.inj h6, channelsDiffer_named n5 n6] at hd
      exact ⟨hp, yesNoOf_le h1, classOf_codes h2, yesNoOf_le h3, authModeOf_le h4, n5, n6, hd, clearModeOf_le h7, hr.1, hr.2, hm.1, hm.2,
        debounceOf_le h8, debounceOf_le h9⟩
    · cases h
  · cases h

theorem exec_writePosition (h : Header) (f : PositionLayout) (s : State) : exec (.writePosition h f) s = execWritePosition h f s := rfl

/-- Settles O9: the tests in their order; the record is the one that the payload spells. -/
theorem writePositionReplacesTheRecord : Obligations.WritePositionReplacesTheRecord := by
  intro h f s hs
  rw [exec_writePosition]
  refine ⟨fun hc => configure_commissioned hs hc _, fun hc hr => ?_, fun hc hr => ?_⟩
  · refine configure_badValue hs hc ?_
    cases hp : positionOf f.position with
    | none => rfl
    | some p =>
      have hle : f.position.toNat ≤ 3 := by
        have := p.isLt
        rw [positionOf_eq_some] at hp
        omega
      cases hd : decodePosition f with
      | none => rfl
      | some c => exact absurd (inRange_of_decodePosition hle hd) hr
  · have hlt : f.position.toNat < 4 := by have := hr.1; omega
    have hp : positionOf f.position = some ⟨f.position.toNat, hlt⟩ := positionOf_eq_some.2 rfl
    refine ⟨⟨f.position.toNat, hlt⟩, positionRecordOf f, rfl, ?_, rfl, rfl, rfl, rfl, rfl, rfl, rfl, rfl, rfl, rfl, rfl, rfl, rfl, rfl, rfl⟩
    refine configure_accepted hs hc (fun s => { s with positionConfig := setAt s.positionConfig _ (positionRecordOf f) }) (fun _ => rfl)
      (fun _ _ => rfl) ?_
    rw [hp, decodePosition_inRange hr]
    rfl

/-! ### WRITE_TERMINAL -/

theorem exec_writeTerminal (h : Header) (a x : Byte) (s : State) : exec (.writeTerminal h a x) s = execWriteTerminal h a x s := rfl

/-- Settles O13: addresses 1 to 4 name the four permission sets, and every other address names none. -/
theorem writeTerminalReplacesTheSet : Obligations.WriteTerminalReplacesTheSet := by
  intro h address positions s hs
  rw [exec_writeTerminal]
  refine ⟨fun hc => configure_commissioned hs hc _, fun hc ha => ?_, fun hc i hi => ⟨PosSet.ofByte positions, ?_, fun p => ?_⟩⟩
  · refine configure_badValue hs hc ?_
    rw [terminalOf, dif_neg (by omega)]
    rfl
  · refine configure_accepted hs hc (fun s => { s with terminals := setAt s.terminals i (PosSet.ofByte positions) }) (fun _ => rfl)
      (fun _ _ => rfl) ?_
    have ht : terminalOf address = some i := by
      rw [terminalOf, dif_pos (by omega)]
      exact congrArg some (Fin.ext (by dsimp only; omega))
    rw [ht]
    rfl
  · fin_cases p <;> rfl

end Sys2Proof.Machine
end

section
/-! PROOFS. WRITE_PROFILE, WRITE_BANK and WRITE_CHANNEL. -/

namespace Sys2Proof.Machine

/-! ### Numbers sent back as they came -/

@[simp] theorem out8_toNat (x : Byte) : out8 x.toNat = x := by rw [out8, BitVec.ofNat_toNat, BitVec.setWidth_eq]
@[simp] theorem out16_toNat (x : Word16) : out16 x.toNat = bytes16 x := by rw [out16, BitVec.ofNat_toNat, BitVec.setWidth_eq]

theorem out8_of_toNat {n : Nat} {x : Byte} (h : n = x.toNat) : out8 n = x := by rw [h, out8_toNat]

/-! ### WRITE_PROFILE -/

/-- R67, R68: the entry that a payload within the values spells. -/
def profileEntryOf (f : ProfileLayout) (g : Grade) : FillProfile where
  nozzleClass := if f.nozzleClass.toNat = 1 then .h70 else .h35
  grade := g
  comm := if f.commMode.toNat = 0 then some ⟨f.volumeLow.toNat, f.volumeHigh.toNat, f.tankLimit.toNat, f.endSoc.toNat⟩ else none
  ambientLow := f.ambientLow.toNat
  ambientHigh := f.ambientHigh.toNat
  rampRate := f.rampRate.toNat
  endPressure := f.endPressure.toNat
  taperSoc := f.taperSoc.toNat
  variant := if f.variant.toNat = 0 then .pulseCheck else .pulseOnly
  leakTolerance := f.leakTolerance.toNat
  switchDiff := f.switchDiff.toNat
  gain := f.gain.toNat

theorem maxEndPressure_class (b : Byte) :
    (if b.toNat = 1 then NozzleClass.h70 else .h35).maxEndPressure = if b.toNat = 1 then 8750 else 4375 := by
  split <;> rfl

/-- R67: the COMM fields lie within their values, or the entry has none. -/
theorem decodeComm_inRange {f : ProfileLayout} (h : f.commMode.toNat = 0 →
    1 ≤ f.volumeLow.toNat ∧ f.volumeLow.toNat ≤ f.volumeHigh.toNat ∧ f.volumeHigh.toNat ≤ 2500 ∧
    2000 ≤ f.tankLimit.toNat ∧ f.tankLimit.toNat ≤ 3580 ∧ 900 ≤ f.endSoc.toNat ∧ f.endSoc.toNat ≤ 1000) (g : Grade) :
    decodeComm f (if f.commMode.toNat = 0 then .comm else .noncomm) = some (profileEntryOf f g).comm := by
  unfold decodeComm profileEntryOf
  by_cases hm : f.commMode.toNat = 0
  · obtain ⟨h1, h2, h3, h4, h5, h6, h7⟩ := h hm
    simp only [hm, if_true]
    rw [if_pos]
    simp only [Bool.and_eq_true, within_iff, decide_eq_true_eq]
    omega
  · simp only [hm, if_false]

theorem profileEntry_good {f : ProfileLayout} (h : profileInRange f) (g : Grade) : (profileEntryOf f g).good = true := by
  obtain ⟨-, -, -, h1, h2, h3, h4, h5, h6, h7, h8, h9, -, h10, h11, h12, h13, h14, -⟩ := h
  have hgain := f.gain.isLt
  simp only [FillProfile.good, Bool.and_eq_true, within_iff, decide_eq_true_eq]
  simp only [profileEntryOf, maxEndPressure_class]
  omega

theorem decodeInUse_inRange {f : ProfileLayout} {g : Grade} (h : profileInRange f) (hg : gradeOf f.grade = some g) :
    decodeInUse f = some (profileEntryOf f g) := by
  have hgood := profileEntry_good h g
  obtain ⟨hk, -, hm, -, -, -, -, -, -, -, -, -, hv, -, -, -, -, -, hc⟩ := h
  simp only [decodeInUse, classOf_eq hk, hg, commModeOf_eq hm, variantOf_eq hv, decodeComm_inRange hc g]
  exact if_pos hgood

theorem inRange_of_decodeInUse {f : ProfileLayout} {x : FillProfile} (h : decodeInUse f = some x) : profileInRange f := by
  unfold decodeInUse at h
  split at h
  · next k g mode variant hk hg hm hv =>
    obtain ⟨hm1, hm2⟩ := commModeOf_codes hm
    have hkc := classOf_codes hk
    rw [classOf_eq hkc] at hk
    have hk := Option.some.inj hk
    split at h
    · next comm hc =>
      dsimp only at h
      split at h
      · next hgood =>
        simp only [FillProfile.good, Bool.and_eq_true, within_iff, decide_eq_true_eq] at hgood
        rw [← hk, maxEndPressure_class] at hgood
        have hcomm : f.commMode.toNat = 0 →
            1 ≤ f.volumeLow.toNat ∧ f.volumeLow.toNat ≤ f.volumeHigh.toNat ∧ f.volumeHigh.toNat ≤ 2500 ∧
            2000 ≤ f.tankLimit.toNat ∧ f.tankLimit.toNat ≤ 3580 ∧ 900 ≤ f.endSoc.toNat ∧ f.endSoc.toNat ≤ 1000 := by
          intro h0
          rw [hm2, if_pos h0, decodeComm] at hc
          dsimp only at hc
          split at hc
          · next hr =>
            simp only [Bool.and_eq_true, within_iff, decide_eq_true_eq] at hr
            omega
          · cases hc
        have hvv := variantOf_le hv
        have hgg := gradeOf_le hg
        unfold profileInRange
        refine ⟨hkc, hgg, hm1, ?_⟩
        obtain ⟨⟨⟨⟨⟨⟨⟨⟨g1, g2⟩, g3⟩, g4⟩, g5⟩, g6⟩, g7⟩, g8⟩, g9⟩ := hgood
        exact ⟨g1.1, g3, g2.2, g4.1, g4.2, g5.1, g5.2, g6.1, g6.2, hvv, g7.1, g7.2, g8.1, g8.2, g9.1, hcomm⟩
      · cases h
    · cases h
  · cases h

/-- R68: the entry as stored is sent back in the layout in which it came; an entry of comm mode NONCOMM has no COMM fields. -/
theorem profileRecord_entry {f : ProfileLayout} {g : Grade} {i : Fin 16} (hi : i.val = f.index.toNat) (hu : f.inUse.toNat = 1)
    (hk : f.nozzleClass.toNat = 1 ∨ f.nozzleClass.toNat = 2) (hg : g.code = f.grade.toNat) (hm : f.commMode.toNat ≤ 1)
    (hv : f.variant.toNat ≤ 1) :
    profileRecord i (some (profileEntryOf f g)) =
      if f.commMode.toNat = 0 then { f with reserved := 0 }.bytes
      else { f with reserved := 0, volumeLow := 0, volumeHigh := 0, tankLimit := 0, endSoc := 0 }.bytes := by
  have eu : f.inUse = 1 := by bv_omega
  have ek : out8 (if f.nozzleClass.toNat = 1 then NozzleClass.h70 else .h35).code = f.nozzleClass := by
    rcases hk with h | h
    · exact out8_of_toNat (by simp [h, NozzleClass.code])
    · exact out8_of_toNat (by simp [h, NozzleClass.code])
  have ev : out8 (if f.variant.toNat = 0 then StartVariant.pulseCheck else .pulseOnly).code = f.variant := by
    by_cases h : f.variant.toNat = 0
    · exact out8_of_toNat (by simp [h, StartVariant.code])
    · exact out8_of_toNat (by simp [h, StartVariant.code]; omega)
  by_cases h0 : f.commMode.toNat = 0
  · have em : f.commMode = 0 := by bv_omega
    rw [if_pos h0]
    simp [profileRecord, profileEntryOf, ProfileLayout.bytes, hi, eu, ek, hg, em, ev]
  · have em : f.commMode = 1 := by bv_omega
    rw [if_neg h0]
    simp [profileRecord, profileEntryOf, ProfileLayout.bytes, hi, eu, ek, hg, em, ev, out16]

theorem exec_writeProfile (h : Header) (f : ProfileLayout) (s : State) : exec (.writeProfile h f) s = execWriteProfile h f s := rfl

theorem profileOf_eq_some {b : Byte} {i : Fin 16} (h : i.val = b.toNat) : profileOf b = some i := by
  have := i.isLt
  rw [profileOf, dif_pos (by omega)]
  exact congrArg some (Fin.ext h.symm)

/-- Settles O10: the tests in their order; an entry in use is the one that the payload spells. -/
theorem writeProfileReplacesTheEntry : Obligations.WriteProfileReplacesTheEntry := by
  intro h f s hs
  rw [exec_writeProfile]
  refine ⟨fun hc => configure_commissioned hs hc _, fun hc hr => ?_, fun hc hu i hi => ?_, fun hc hu hr i hi => ?_⟩
  · refine configure_badValue hs hc ?_
    rcases hr with hr | hr | ⟨hu, hr⟩
    · rw [profileOf, dif_neg (by omega)]
      rfl
    · have hn : decodeProfile f = none := by
        unfold decodeProfile
        cases hx : yesNoOf f.inUse with
        | none => rfl
        | some x => have := yesNoOf_le hx; omega
      rw [hn]
      cases profileOf f.index <;> rfl
    · have hn : decodeProfile f = none := by
        unfold decodeProfile
        rw [yesNoOf_eq (by omega), hu]
        cases hx : decodeInUse f with
        | none => rfl
        | some x => exact absurd (inRange_of_decodeInUse hx) hr
      rw [hn]
      cases profileOf f.index <;> rfl
  · have hd : decodeProfile f = some none := by
      unfold decodeProfile
      rw [yesNoOf_eq (by omega), hu]
      rfl
    refine configure_accepted hs hc (fun s => { s with profiles := setAt s.profiles i none }) (fun _ => rfl) (fun _ _ => rfl) ?_
    rw [profileOf_eq_some hi, hd]
    change acceptWith _ (out8 i.val :: List.replicate 28 0) = _
    rw [out8_of_toNat hi]
  · obtain ⟨g, hg, hgc⟩ := gradeOf_eq hr.2.1
    have hd : decodeProfile f = some (some (profileEntryOf f g)) := by
      unfold decodeProfile
      rw [yesNoOf_eq (by omega), hu, decodeInUse_inRange hr hg]
      rfl
    refine ⟨profileEntryOf f g, ?_, rfl, hgc, rfl, rfl, rfl, rfl, rfl, rfl, rfl, rfl, rfl, rfl⟩
    obtain ⟨hk, -, hm, -, -, -, -, -, -, -, -, -, hv, -⟩ := hr
    refine configure_accepted hs hc (fun s => { s with profiles := setAt s.profiles i (some (profileEntryOf f g)) }) (fun _ => rfl)
      (fun _ _ => rfl) ?_
    rw [profileOf_eq_some hi, hd]
    change acceptWith _ (profileRecord i _) = _
    rw [profileRecord_entry hi hu hk hgc hm hv]

end Sys2Proof.Machine
end

section
/-! PROOFS. WRITE_BANK and WRITE_CHANNEL, with what they do to the readings of the banks. -/

namespace Sys2Proof.Machine

/-! ### WRITE_BANK -/

/-- R121, R122: the record that a payload within the values spells. -/
def bankRecordOf (f : BankLayout) : BankConfig where
  inService := decide (f.inService.toNat = 1)
  servesH70 := f.serves.getLsbD 0
  servesH35 := f.serves.getLsbD 1
  rated := f.rated.toNat
  volume := f.volume.toNat
  refillTarget := f.refillTarget.toNat
  refillStart := f.refillStart.toNat
  pChannel := channelNamed f.pChannel
  tChannel := channelNamed f.tChannel

theorem decodeBank_inRange {f : BankLayout} (h : bankInRange f) : decodeBank f = some (bankRecordOf f) := by
  obtain ⟨-, h1, h2, h3, h4, h5, h6, h7, h8, h9, h10, h11, h12, h13⟩ := h
  have hd := (channelsDiffer_named h11 h12).2 h13
  simp only [decodeBank, yesNoOf_eq h1, classesOf_eq h2 h3, namedChannelOf_eq h11, namedChannelOf_eq h12]
  refine if_pos ?_
  simp only [BankConfig.good, Bool.and_eq_true, within_iff, decide_eq_true_eq]
  exact ⟨⟨⟨⟨⟨h4, h5⟩, h6, h7⟩, h8, h9⟩, h10⟩, hd⟩

theorem inRange_of_decodeBank {f : BankLayout} {c : BankConfig} (hb : f.bank.toNat ≤ 5) (h : decodeBank f = some c) : bankInRange f := by
  unfold decodeBank at h
  split at h
  · next h1 h2 h3 h4 =>
    dsimp only at h
    split at h
    · next hg =>
      have n3 := namedChannelOf_names h3
      have n4 := namedChannelOf_names h4
      rw [namedChannelOf_eq n3] at h3
      rw [namedChannelOf_eq n4] at h4
      simp only [BankConfig.good, Bool.and_eq_true, within_iff, decide_eq_true_eq] at hg
      obtain ⟨⟨⟨⟨hr, hv⟩, ht⟩, hs⟩, hd⟩ := hg
      rw [← Option.some.inj h3, ← Option.some.inj h4, channelsDiffer_named n3 n4] at hd
      have hc := classesOf_le h2
      exact ⟨hb, yesNoOf_le h1, hc.1, hc.2, hr.1, hr.2, hv.1, hv.2, ht.1, ht.2, hs, n3, n4, hd⟩
    · cases h
  · cases h

theorem out8_namedCode {b : Byte} (h : namesChannel b) : out8 (namedCode (channelNamed b)) = b := by
  unfold namedCode channelNamed
  rcases h with h | h
  · rw [dif_pos (by omega)]
    exact out8_toNat b
  · rw [dif_neg (by omega)]
    exact out8_of_toNat h.symm

theorem outBool_yesNo {b : Byte} (h : b.toNat ≤ 1) : outBool (decide (b.toNat = 1)) = b := by
  have h : b = 0 ∨ b = 1 := by bv_omega
  rcases h with rfl | rfl <;> rfl

theorem out8_classesCode {b : Byte} (h : b.toNat ≤ 3) : out8 (classesCode (b.getLsbD 0) (b.getLsbD 1)) = b := by
  have h : b = 0 ∨ b = 1 ∨ b = 2 ∨ b = 3 := by bv_omega
  rcases h with rfl | rfl | rfl | rfl <;> rfl

theorem bankRecord_bytes {f : BankLayout} (h : bankInRange f) {b : Fin 6} (hb : b.val = f.bank.toNat) :
    bankRecord b (bankRecordOf f) = f.bytes := by
  obtain ⟨-, h1, -, h3, -, -, -, -, -, -, -, h11, h12, -⟩ := h
  simp only [bankRecord, bankRecordOf, BankLayout.bytes, hb, outBool_yesNo h1, out8_classesCode h3, out8_namedCode h11,
    out8_namedCode h12, out8_toNat, out16_toNat, List.append_assoc, List.cons_append, List.nil_append]

/-- R126: the inventory of a bank at a pressure and a temperature. -/
def State.inventoryAt (s : State) (b : Fin 6) (p t : Nat) : Nat := if s.bankMeasured b then gasMass (s.bankCfg b).volume p t else 0

/-- R122: the readings of a bank after a write of its record. -/
def State.bankWritten (s : State) (b : Fin 6) (c : BankConfig) : Bank :=
  let same := (s.bankCfg b).pChannel = c.pChannel ∧ (s.bankCfg b).tChannel = c.tChannel
  let p := if same then (s.bank b).p else s.takenValue c.pChannel
  let t := if same then (s.bank b).t else s.takenValue c.tChannel
  ⟨p, t, if s.namedTaken c.pChannel && s.namedTaken c.tChannel then gasMass c.volume p t else 0, (s.bank b).isolated⟩

section
variable (s : State)

theorem writeBank_eq (b : Fin 6) (c : BankConfig) :
    s.writeBank b c = { s with bankConfig := setAt s.bankConfig b c, banks := setAt s.banks b (s.bankWritten b c) } := by
  have hset (x y : Bank) : setAt (setAt s.banks b x) b y = setAt s.banks b y := by simp [setAt]
  unfold State.writeBank
  dsimp only
  split
  · next h =>
    simp only [State.recomputeInventory, State.modBank, State.bankWritten, State.bankMeasured, State.bankCfg, modAt, get_setAt_self]
    simp only [State.bankCfg] at h
    simp only [h, and_self, if_true]
    rfl
  · next h =>
    simp only [State.recomputeInventory, State.modBank, State.bankWritten, State.bankMeasured, State.bankCfg, modAt, get_setAt_self, hset]
    simp only [State.bankCfg] at h
    simp only [h, if_false]
    rfl

theorem exec_writeBank (h : Header) (f : BankLayout) (s : State) : exec (.writeBank h f) s = execWriteBank h f s := rfl

theorem takenValue_eq (c : Option (Fin 32)) : s.takenValue c = ((c.map s.chan).filter Channel.taken).elim 0 Channel.value := by
  cases c with
  | none => rfl
  | some c =>
    by_cases h : (s.chan c).taken = true <;> simp [State.takenValue, State.namedTaken, State.namedValue, Option.filter, h]

theorem namedTaken_eq (c : Option (Fin 32)) : s.namedTaken c = (c.map s.chan).any Channel.taken := by cases c <;> rfl

end

/-- Settles O11: the tests in their order; the record is the one that the payload spells, and the readings follow its channels. -/
theorem writeBankReplacesTheConfiguration : Obligations.WriteBankReplacesTheConfiguration := by
  intro h f s hs
  rw [exec_writeBank]
  refine ⟨fun hc => configure_commissioned hs hc _, fun hc hr => ?_, fun hc hr b hb => ?_⟩
  · refine configure_badValue hs hc ?_
    cases hp : bankOf f.bank with
    | none => rfl
    | some b =>
      have hle : f.bank.toNat ≤ 5 := by
        have := b.isLt
        rw [bankOf_eq_some] at hp
        omega
      cases hd : decodeBank f with
      | none => rfl
      | some c => exact absurd (inRange_of_decodeBank hle hd) hr
  · refine ⟨bankRecordOf f, s.bankWritten b (bankRecordOf f), ?_, rfl, rfl, rfl, rfl, rfl, rfl, rfl, rfl, rfl, rfl, ?_, ?_⟩
    · rw [← writeBank_eq]
      refine configure_accepted hs hc (fun s => s.writeBank b (bankRecordOf f)) (fun _ => by rw [writeBank_eq]) (fun _ _ => ?_) ?_
      · rw [writeBank_eq, writeBank_eq]
        rfl
      · rw [bankOf_eq_some.2 hb, decodeBank_inRange hr]
        change acceptWith _ (bankRecord b _) = _
        rw [bankRecord_bytes hr hb]
    · unfold State.bankWritten
      dsimp only
      rw [← takenValue_eq, ← takenValue_eq]
      by_cases hsame : (s.bankCfg b).pChannel = (bankRecordOf f).pChannel ∧ (s.bankCfg b).tChannel = (bankRecordOf f).tChannel
      · rw [if_pos ⟨hsame.1.symm, hsame.2.symm⟩, if_pos hsame, if_pos hsame]
        exact ⟨rfl, rfl⟩
      · rw [if_neg fun e => hsame ⟨e.1.symm, e.2.symm⟩, if_neg hsame, if_neg hsame]
        exact ⟨rfl, rfl⟩
    · rw [← namedTaken_eq, ← namedTaken_eq]
      simp only [← Bool.and_eq_true]
      rfl

/-! ### WRITE_CHANNEL -/

/-- 12.6.8: the codes of the users of a channel. -/
theorem userOf_code (r : Role) : userOf (out8 r.code) = some (some r) := by
  cases r with
  | pDisp p => fin_cases p <;> rfl
  | tGas p => fin_cases p <;> rfl
  | bankP b => fin_cases b <;> rfl
  | bankT b => fin_cases b <;> rfl
  | supply => rfl
  | discharge => rfl
  | coolant => rfl
  | ambient => rfl

theorem Role.code_injective {r r' : Role} (h : r.code = r'.code) : r = r' := by
  have := userOf_code r
  rw [h, userOf_code] at this
  exact (Option.some.inj (Option.some.inj this)).symm

/-- R167: the kind of a role by its code. -/
def roleKindCode (code : Nat) : Nat := if code ≤ 4 ∨ (9 ≤ code ∧ code ≤ 14) ∨ code = 21 then 0 else 1

theorem Role.kind_code (r : Role) : r.kind.code = roleKindCode r.code := by
  cases r with
  | pDisp p => fin_cases p <;> rfl
  | tGas p => fin_cases p <;> rfl
  | bankP b => fin_cases b <;> rfl
  | bankT b => fin_cases b <;> rfl
  | supply => rfl
  | discharge => rfl
  | coolant => rfl
  | ambient => rfl

theorem Role.code_pos (r : Role) : r.code ≠ 0 := by
  cases r <;> simp [Role.code]

theorem userOf_le {b : Byte} {u : Option Role} (h : userOf b = some u) : b.toNat ≤ 24 := by
  unfold userOf at h
  split at h <;> simp_all

theorem userOf_eq {b : Byte} (h : b.toNat ≤ 24) : ∃ u, userOf b = some u ∧ (u.map Role.code).getD 0 = b.toNat := by
  obtain ⟨k, rfl⟩ : ∃ k : Fin 25, b = out8 k.val := ⟨⟨b.toNat, by omega⟩, (out8_toNat b).symm⟩
  fin_cases k <;> exact ⟨_, rfl, rfl⟩

theorem ChannelKind.code_injective {k k' : ChannelKind} (h : k.code = k'.code) : k = k' := by
  cases k <;> cases k' <;> first | rfl | cases h

theorem kindOf_eq {b : Byte} (h : b.toNat ≤ 1) : ∃ k, kindOf b = some k ∧ k.code = b.toNat := by
  have h : b = 0 ∨ b = 1 := by bv_omega
  rcases h with rfl | rfl <;> exact ⟨_, rfl, rfl⟩

theorem kindOf_codes {b : Byte} {k : ChannelKind} (h : kindOf b = some k) : b.toNat ≤ 1 ∧ k.code = b.toNat := by
  unfold kindOf at h
  split at h
  · next e => obtain rfl := Option.some.inj h; exact ⟨by omega, e.symm⟩
  · next e => obtain rfl := Option.some.inj h; exact ⟨by omega, e.symm⟩
  · cases h

theorem range_of_code {k : ChannelKind} {n : Nat} (h : k.code = n) :
    k.range = (if n = 0 then 0 else 2000, if n = 0 then 10000 else 3730) := by
  subst h
  cases k <;> rfl

/-- R167: the record that a payload spells with its user and kind. -/
def channelRecordOf (f : ChannelLayout) (u : Option Role) (k : ChannelKind) : ChannelConfig :=
  ⟨u, k, f.source.toNat, f.windowMin.toNat, f.windowMax.toNat, f.grace.toNat⟩

theorem decodeChannel_inRange {f : ChannelLayout} (h : channelInRange f) {u : Option Role} {k : ChannelKind} (hu : userOf f.user = some u)
    (hk : kindOf f.kind = some k) : decodeChannel f = some (channelRecordOf f u k) := by
  obtain ⟨-, -, -, h1, h2, h3, h4, h5⟩ := h
  simp only [decodeChannel, hu, hk]
  refine if_pos ?_
  simp only [ChannelConfig.good, Bool.and_eq_true, within_iff, decide_eq_true_eq, range_of_code (kindOf_codes hk).2]
  omega

theorem inRange_of_decodeChannel {f : ChannelLayout} {c : ChannelConfig} (hc : f.channel.toNat ≤ 31) (h : decodeChannel f = some c) :
    channelInRange f := by
  unfold decodeChannel at h
  split at h
  · next u k hu hk =>
    dsimp only at h
    split at h
    · next hg =>
      obtain ⟨k1, k2⟩ := kindOf_codes hk
      simp only [ChannelConfig.good, Bool.and_eq_true, within_iff, decide_eq_true_eq, range_of_code k2] at hg
      have := userOf_le hu
      unfold channelInRange
      omega
    · cases h
  · cases h

theorem channelRecord_bytes {f : ChannelLayout} {u : Option Role} {k : ChannelKind} {i : Fin 32} (hi : i.val = f.channel.toNat)
    (hu : (u.map Role.code).getD 0 = f.user.toNat) (hk : k.code = f.kind.toNat) : channelRecord i (channelRecordOf f u k) = f.bytes := by
  simp [channelRecord, channelRecordOf, ChannelLayout.bytes, hi, hu, hk]

/-- R168 test 4, for a channel with a user: its kind is the role's, and no other channel has the role or the source. -/
theorem channelFits_iff {s : State} {i : Fin 32} {c : ChannelConfig} {r : Role} (hr : c.user = some r) :
    s.channelFits i c = true ↔ c.kind = r.kind ∧
      ∀ j x, j ≠ i → (s.chanCfg j).user = some x → x ≠ r ∧ (s.chanCfg j).source ≠ c.source := by
  unfold State.channelFits
  rw [hr]
  simp only [Bool.and_eq_true, beq_iff_eq, List.all_eq_true, List.mem_finRange, true_implies, Bool.or_eq_true, bne_iff_ne, ne_eq,
    Option.isNone_iff_eq_none]
  refine and_congr_right fun _ => forall_congr' fun j => ?_
  constructor
  · intro h x hj hx
    rcases h with (h | h) | ⟨h1, h2⟩
    · exact absurd h hj
    · rw [hx] at h; cases h
    · exact ⟨fun e => h1 (by rw [hx, e]), h2⟩
  · intro h
    by_cases hj : j = i
    · exact .inl (.inl hj)
    · cases hx : (s.chanCfg j).user with
      | none => exact .inl (.inr rfl)
      | some x =>
        obtain ⟨h1, h2⟩ := h x hj hx
        exact .inr ⟨fun e => h1 (Option.some.inj e), h2⟩

/-! The readings of the banks -/

/-- R168: what the restart of a channel's user makes of a bank. -/
def State.bankRestarted (s : State) (u : Option Role) (b : Fin 6) (x : Bank) : Bank :=
  if u = some (.bankP b) then { x with p := 0, inventory := s.inventoryAt b 0 x.t }
  else if u = some (.bankT b) then { x with t := 0, inventory := s.inventoryAt b x.p 0 }
  else x

section
variable (s : State)

theorem userRestart_eq (u : Option Role) : s.userRestart u = { s with banks := (s.userRestart u).banks } := by
  unfold State.userRestart
  split <;> rfl

theorem userRestart_inputBuffer (u : Option Role) (b : List Frame) :
    ({ s.userRestart u with inputBuffer := b } : State) = State.userRestart { s with inputBuffer := b } u := by
  unfold State.userRestart
  split <;> rfl

theorem restart_reading (b b' : Fin 6) (f : Bank → Bank) :
    ((s.modBank b f).recomputeInventory b).bank b' =
      if b' = b then { f (s.bank b) with inventory := s.inventoryAt b (f (s.bank b)).p (f (s.bank b)).t } else s.bank b' := by
  unfold State.recomputeInventory
  rw [modBank_bank]
  split
  · next h =>
    subst h
    rw [modBank_bank_self]
    rfl
  · next h => rw [modBank_bank_ne _ _ h]

theorem userRestart_bank (u : Option Role) (b : Fin 6) : (s.userRestart u).bank b = s.bankRestarted u b (s.bank b) := by
  unfold State.userRestart State.bankRestarted
  cases u with
  | none => simp
  | some r =>
    cases r with
    | bankP b' =>
      dsimp only
      rw [restart_reading]
      by_cases h : b = b'
      · subst h; simp
      · have h' : ¬b' = b := fun e => h e.symm
        simp [h, h']
    | bankT b' =>
      dsimp only
      rw [restart_reading]
      by_cases h : b = b'
      · subst h; simp
      · have h' : ¬b' = b := fun e => h e.symm
        simp [h, h']
    | _ => simp

theorem writeChannel_eq (i : Fin 32) (c : ChannelConfig) :
    s.writeChannel i c =
      { s with
        channelConfig := setAt s.channelConfig i c
        channels := setAt s.channels i .atRestart
        banks := (s.writeChannel i c).banks } := by
  unfold State.writeChannel
  dsimp only
  rw [userRestart_eq, userRestart_eq _ (s.chanCfg i).user]
  rfl

/-- R126, R168: whether the two channels of a bank have taken a value once one channel is at its restart values. -/
theorem namedTaken_restarted (i : Fin 32) (c : ChannelConfig) (n : Option (Fin 32)) :
    ({ s with channelConfig := setAt s.channelConfig i c }.setChan i .atRestart).namedTaken n = true ↔
      ∃ j, n = some j ∧ j ≠ i ∧ (s.chan j).taken = true := by
  cases n with
  | none => simp [State.namedTaken]
  | some j =>
    unfold State.namedTaken
    dsimp only
    rw [setChan_chan]
    by_cases h : j = i
    · simp [h, Channel.atRestart]
    · rw [if_neg h]
      constructor
      · intro e; exact ⟨j, rfl, h, e⟩
      · rintro ⟨_, e, -, e'⟩
        cases e
        exact e'

/-- R126, R168: the readings of a bank after the channel that served or serves it has been written. -/
theorem writeChannel_bank (i : Fin 32) (c : ChannelConfig) (b : Fin 6) :
    (s.writeChannel i c).bank b =
      (({ s with channelConfig := setAt s.channelConfig i c }.setChan i .atRestart).bankRestarted c.user b
        (({ s with channelConfig := setAt s.channelConfig i c }.setChan i .atRestart).bankRestarted (s.chanCfg i).user b (s.bank b))) := by
  unfold State.writeChannel
  dsimp only
  rw [userRestart_bank, userRestart_bank]
  have h (u : State) (o r : Option Role) (x : Bank) : (u.userRestart o).bankRestarted r b x = u.bankRestarted r b x := by
    rw [userRestart_eq]
    rfl
  rw [h]
  rfl

/-- R168: both readings of a bank after two restarts of channel users, and its inventory when one of them served it. -/
theorem bankRestarted_twice (o r : Option Role) (b : Fin 6) (x : Bank) :
    let servesP := o = some (.bankP b) ∨ r = some (.bankP b)
    let servesT := o = some (.bankT b) ∨ r = some (.bankT b)
    let y := s.bankRestarted r b (s.bankRestarted o b x)
    y.isolated = x.isolated ∧ y.p = (if servesP then 0 else x.p) ∧ y.t = (if servesT then 0 else x.t) ∧
      (¬servesP → ¬servesT → y.inventory = x.inventory) ∧ (servesP ∨ servesT → y.inventory = s.inventoryAt b y.p y.t) := by
  have hne : ¬(Role.bankT b = Role.bankP b) := by simp
  unfold State.bankRestarted
  by_cases h1 : o = some (.bankP b)
  · by_cases h2 : r = some (.bankP b)
    · simp [h1, h2]
    · by_cases h3 : r = some (.bankT b)
      · simp [h1, h3]
      · simp [h1, h2, h3]
  · by_cases h0 : o = some (.bankT b)
    · by_cases h2 : r = some (.bankP b)
      · simp [h0, h2]
      · by_cases h3 : r = some (.bankT b)
        · simp [h0, h3]
        · simp [h0, h2, h3]
    · by_cases h2 : r = some (.bankP b)
      · simp [h0, h1, h2]
      · by_cases h3 : r = some (.bankT b)
        · simp [h0, h1, h3]
        · simp [h0, h1, h2, h3]

theorem exec_writeChannel (h : Header) (f : ChannelLayout) (s : State) : exec (.writeChannel h f) s = execWriteChannel h f s := rfl

/-- R168: an accepted WRITE_CHANNEL. -/
theorem writeChannel_accepted {h : Header} {f : ChannelLayout} {i : Fin 32} {c : ChannelConfig} (hs : h.sender = 0)
    (hc : s.commissioned = false) (hi : i.val = f.channel.toNat) (hd : decodeChannel f = some c) (hfit : s.channelFits i c = true)
    (hrec : channelRecord i c = f.bytes) :
    exec (.writeChannel h f) s = .next ((s.writeChannel i c).answered (.writeChannel h f) h 0x14 .ok f.bytes) := by
  rw [exec_writeChannel]
  refine configure_accepted hs hc (fun s => s.writeChannel i c) (fun _ => by rw [writeChannel_eq]) (fun u b => ?_) ?_
  · unfold State.writeChannel
    dsimp only
    rw [userRestart_inputBuffer, userRestart_inputBuffer]
    rfl
  · have hfit' : (s.takeFrame (.writeChannel h f)).channelFits i c = true := by
      simpa [State.channelFits] using hfit
    rw [channelOf_eq_some.2 hi, hd]
    simp only [spelled_some, hfit', require_true, hrec]

end

/-- Settles O12: the tests in their order; the record is the one that the payload spells, and the bank that it serves restarts. -/
theorem writeChannelReplacesTheConfiguration : Obligations.WriteChannelReplacesTheConfiguration := by
  intro h f s hs
  refine ⟨fun hc => by rw [exec_writeChannel]; exact configure_commissioned hs hc _, fun hc hr => ?_, fun hc hr i hi => ?_⟩
  · rw [exec_writeChannel]
    refine configure_badValue hs hc ?_
    cases hp : channelOf f.channel with
    | none => rfl
    | some i =>
      have hle : f.channel.toNat ≤ 31 := by
        have := i.isLt
        rw [channelOf_eq_some] at hp
        omega
      cases hd : decodeChannel f with
      | none => rfl
      | some c => exact absurd (inRange_of_decodeChannel hle hd) hr
  · obtain ⟨-, hu, hk, -⟩ := id hr
    obtain ⟨u, hu, hcode⟩ := userOf_eq hu
    obtain ⟨k, hk, hkcode⟩ := kindOf_eq hk
    have hd := decodeChannel_inRange hr hu hk
    refine ⟨fun ⟨hne, hbad⟩ => ?_, fun hgood => ?_⟩
    · rw [exec_writeChannel]
      refine configure_badValue hs hc ?_
      obtain ⟨r, rfl⟩ : ∃ r, u = some r := by
        cases u with
        | none => exact absurd hcode.symm hne
        | some r => exact ⟨r, rfl⟩
      have hcode : r.code = f.user.toNat := hcode
      have hfit : (s.takeFrame (.writeChannel h f)).channelFits i (channelRecordOf f (some r) k) = false := by
        refine Bool.eq_false_iff.2 fun hfit => ?_
        obtain ⟨f1, f2⟩ := (channelFits_iff rfl).1 hfit
        rcases hbad with hbad | ⟨j, x, hj, hx, hbad⟩
        · refine hbad ?_
          rw [← hkcode, ← hcode]
          exact (congrArg ChannelKind.code f1).trans r.kind_code
        · obtain ⟨g1, g2⟩ := f2 j x hj (by simpa using hx)
          rcases hbad with hbad | hbad
          · exact g1 (Role.code_injective (hbad.trans hcode.symm))
          · exact g2 (by simpa [channelRecordOf] using hbad)
      rw [channelOf_eq_some.2 hi, hd]
      simp only [spelled_some, hfit, require_false]
    · have hfit : s.channelFits i (channelRecordOf f u k) = true := by
        cases u with
        | none => rfl
        | some r =>
          have hcode : r.code = f.user.toNat := hcode
          rcases hgood with h0 | ⟨h1, h2⟩
          · exact absurd (hcode.trans h0) r.code_pos
          · refine (channelFits_iff rfl).2 ⟨ChannelKind.code_injective ?_, fun j x hj hx => ?_⟩
            · rw [r.kind_code, hcode]
              exact hkcode.trans h1
            · obtain ⟨g1, g2⟩ := h2 j x hj hx
              exact ⟨fun e => g1 (by rw [e]; exact hcode), g2⟩
      refine ⟨channelRecordOf f u k, (s.writeChannel i (channelRecordOf f u k)).banks, ?_, hcode, hkcode, rfl, rfl, rfl, rfl, fun b => ?_⟩
      · rw [writeChannel_accepted s hs hc hi hd hfit (channelRecord_bytes hi hcode hkcode)]
        conv_lhs => rw [writeChannel_eq]
        rfl
      · set w := { s with channelConfig := setAt s.channelConfig i (channelRecordOf f u k) }.setChan i .atRestart with hw
        have hb : (s.writeChannel i (channelRecordOf f u k)).banks.get b =
            w.bankRestarted u b (w.bankRestarted (s.chanCfg i).user b (s.bank b)) := writeChannel_bank s i _ b
        obtain ⟨r1, r2, r3, r4, r5⟩ := bankRestarted_twice w (s.chanCfg i).user u b (s.bank b)
        have hm (n : Option (Fin 32)) := namedTaken_restarted s i (channelRecordOf f u k) n
        dsimp only
        rw [hb]
        refine ⟨r1, r2, r3, r4, fun hsv hp ht => ?_, fun hsv hno => ?_⟩
        · have hmeas : w.bankMeasured b = true := Bool.and_eq_true_iff.2 ⟨(hm _).2 hp, (hm _).2 ht⟩
          rw [r5 hsv, State.inventoryAt, if_pos hmeas]
          rfl
        · rw [r5 hsv, State.inventoryAt, if_neg]
          intro hmeas
          obtain ⟨e1, e2⟩ := Bool.and_eq_true_iff.1 hmeas
          rcases hno with hno | hno
          · exact hno ((hm _).1 e1)
          · exact hno ((hm _).1 e2)

end Sys2Proof.Machine
end

section
/-! PROOFS. Refusals of the site link; RESTART, DECOMMISSION and FACTORY_CLEAR. -/

namespace Sys2Proof.Machine

/-! ### Requests of the station computer from a terminal -/

/-- R179 (3): a code outside the catalogue. -/
theorem exec_unknownRequest (h : Header) (code : Byte) (s : State) :
    exec (.unknownRequest h code) s = .next (s.answered (.unknownRequest h code) h code .unknownRequest []) := by
  change execUnknownRequest h code s = _
  exact answer_refuse rfl

/-- Settles O7: each request of the catalogue that terminals may not send makes the test of the sender first. -/
theorem terminalsAndUnknownCodesAreRefused : Obligations.TerminalsAndUnknownCodesAreRefused := by
  refine ⟨fun c h code payload s hw he hcode hs => ?_, fun h code s _ => exec_unknownRequest h code s⟩
  cases c with
  | unknownRequest h' code' =>
    simp only [encode, Option.some.injEq, Prod.mk.injEq] at he
    obtain ⟨rfl, rfl, -⟩ := he
    simp only [Instr.wellFormed, Option.isNone_iff_eq_none] at hw
    simp [stationCode, hw] at hcode
  | writeSite | writePosition | writeProfile | writeBank | writeChannel | writeTerminal | commission | decommission
  | factoryClear | setClock | writeAccount | closeAccount | setPrice | writeMetrology | holdPosition | resumePosition
  | stopPosition | suspendRefill | resumeRefill | isolateBank | returnBank | chillerOn | chillerOff | clearEsd | readBank
  | readCompressor | readPrecool | readChannel | readEvents =>
    simp only [encode, Option.some.injEq, Prod.mk.injEq] at he
    obtain ⟨rfl, rfl, -⟩ := he
    simp only [exec, execWriteSite, execWritePosition, execWriteProfile, execWriteBank, execWriteChannel, execWriteTerminal,
      execCommission, execDecommission, execFactoryClear, execSetClock, execWriteAccount, execCloseAccount, execSetPrice,
      execWriteMetrology, execHoldPosition, execResumePosition, execStopPosition, execSuspendRefill, execResumeRefill,
      execIsolateBank, execReturnBank, execChillerOn, execChillerOff, execClearEsd, execReadBank, execReadCompressor,
      execReadPrecool, execReadChannel, execReadEvents]
    exact answer_refuse (stationOnly_terminal hs _ _)
  | openTicket | authorize | cancelTicket | settleTicket | readTicket | listTickets | creditAccount | readAccount
  | readMetrology | readPosition =>
    simp only [encode, Option.some.injEq, Prod.mk.injEq] at he
    obtain ⟨rfl, rfl, -⟩ := he
    exact absurd hcode (by decide)
  | _ => cases he

/-! ### RESTART -/

/-- Settles O15: the restart of each block by its fields, and of each ticket by its state. -/
theorem restartKeepsMemoryAndEndsTickets : Obligations.RestartKeepsMemoryAndEndsTickets := by
  refine ⟨fun off lines s => ⟨mapAll (Option.map fun t : Ticket => t.atRestart (s.clock + off)) s.tickets, positionsAtRestart lines,
    debouncersAtRestart lines, rfl, fun i => by simp, fun p => ?_, fun p => ?_, rfl, rfl⟩, fun off lines s => ⟨_, rfl, rfl, rfl, ?_,
      fun p => ?_, fun i => ?_⟩⟩
  · fin_cases p <;> rfl
  · simp [debouncersAtRestart, Debouncer.atRestart]
  · change restartFlags.getLsbD EventFlag.restart.bit = true
    decide
  · rw [restarted_pos]
    exact ⟨rfl, rfl⟩
  · have hget : ((s.afterOutage off).restarted lines).tickets.get i = (s.tickets.get i).map fun t : Ticket => t.atRestart (s.clock + off) := by
      simp [State.restarted, State.afterOutage]
    rw [hget]
    cases s.tickets.get i with
    | none => rfl
    | some k =>
      dsimp only [Option.map_some]
      unfold Ticket.atRestart
      cases k.state <;> rfl

/-! ### DECOMMISSION -/

theorem exec_decommission (h : Header) (s : State) : exec (.decommission h) s = execDecommission h s := rfl

theorem anyBusy_eq_false {s : State} : s.anyBusy = false ↔ ∀ p, (s.pos p).state.busy = false := by
  unfold State.anyBusy
  rw [List.any_eq_false]
  refine ⟨fun h p => by simpa using h p (by simp [allPositions]; omega), fun h p _ => by simp [h p]⟩

@[simp] theorem takeFrame_anyBusy (s : State) (c : Instr) : (s.takeFrame c).anyBusy = s.anyBusy := by simp [State.anyBusy]

/-- R137: the state of the compressor after DECOMMISSION. -/
theorem decommissioned_state (c : CompressorState) :
    (if c.motorOn then CompressorState.stopped else c) = if c = .suspended ∨ c = .lockout then c else .stopped := by
  cases c <;> rfl

/-- Settles O17: the tests in their order; each block is closed by its fields, and each ticket by its state. -/
theorem decommissionClosesTheSite : Obligations.DecommissionClosesTheSite := by
  intro h s hs
  rw [exec_decommission]
  refine ⟨fun hc => answer_refuse ?_, fun hc ⟨p, hp⟩ => answer_refuse ?_, fun hc hb =>
    ⟨mapAll (Option.map fun t : Ticket => t.decommissioned s.clock) s.tickets, mapAll Position.decommissioned s.positions, ?_,
      fun p => ?_, fun i => ?_⟩⟩
  · rw [stationOnly_station hs, takeFrame_commissioned, hc]
    rfl
  · have hbusy : s.anyBusy = true := Bool.eq_true_of_not_eq_false fun e => by simp [anyBusy_eq_false.1 e p] at hp
    rw [stationOnly_station hs, takeFrame_commissioned, hc, takeFrame_anyBusy, hbusy]
    rfl
  · refine (answer_change State.decommission (payload := []) (fun _ => rfl) (fun _ _ => rfl) ?_).trans ?_
    · rw [stationOnly_station hs, takeFrame_commissioned, hc, takeFrame_anyBusy, anyBusy_eq_false.2 hb]
      rfl
    · unfold State.decommission State.decommissionPrecool State.decommissionCompressor State.modPcl State.modCmp
      dsimp only
      rw [decommissioned_state]
  · rw [get_mapAll]
    rfl
  · rw [get_mapAll]
    congr 1
    funext k
    unfold Ticket.decommissioned
    cases k.state <;> rfl

/-! ### FACTORY_CLEAR -/

theorem exec_factoryClear (h : Header) (s : State) : exec (.factoryClear h) s = execFactoryClear h s := rfl

/-- Settles O18: the tests in their order; each record by its default. -/
theorem factoryClearEmptiesTheRecords : Obligations.FactoryClearEmptiesTheRecords := by
  intro h s hs
  rw [exec_factoryClear]
  refine ⟨fun hc => answer_refuse ?_, fun hc ho => answer_refuse ?_, fun hc ho => ⟨mapAll Bank.cleared s.banks, ?_, fun b => ?_⟩⟩
  · rw [stationOnly_station hs, takeFrame_commissioned, hc]
    rfl
  · rw [stationOnly_station hs, takeFrame_commissioned, hc, takeFrame_tradeLockOpen, ho]
    rfl
  · refine answer_change State.factoryClear (payload := []) (fun _ => rfl) (fun _ _ => rfl) ?_
    rw [stationOnly_station hs, takeFrame_commissioned, hc, takeFrame_tradeLockOpen, ho]
    rfl
  · rw [get_mapAll]
    rfl

end Sys2Proof.Machine
end

section
/-! PROOFS. Requests and the frames that spell them. -/

namespace Sys2Proof

/-! ### Numbers and their bytes -/

theorem extract16_append (x : Word16) : x.extractLsb' 8 8 ++ x.extractLsb' 0 8 = x := BitVec.extractLsb'_append_extractLsb' (w := 8)

theorem extract32_append (x : Word32) : x.extractLsb' 16 16 ++ x.extractLsb' 0 16 = x :=
  BitVec.extractLsb'_append_extractLsb' (w := 16)

theorem extract_high {n m : Nat} (x : BitVec n) (y : BitVec m) : (x ++ y).extractLsb' m n = x := by
  ext i hi
  simp [← BitVec.getLsbD_eq_getElem, BitVec.getLsbD_append, hi]

theorem extract_low {n m : Nat} (x : BitVec n) (y : BitVec m) : (x ++ y).extractLsb' 0 m = y := by
  ext i hi
  simp [← BitVec.getLsbD_eq_getElem, BitVec.getLsbD_append, hi]

theorem bytes16_append (a b : Byte) : bytes16 (a ++ b) = [a, b] := by
  rw [bytes16]
  exact congrArg₂ (fun x y => [x, y]) (extract_high a b) (extract_low a b)

theorem bytes16_u16 (p : List Byte) (i : Nat) : bytes16 (u16 p i) = [u8 p i, u8 p (i + 1)] := bytes16_append _ _

theorem bytes32_u32 (p : List Byte) (i : Nat) : bytes32 (u32 p i) = [u8 p i, u8 p (i + 1), u8 p (i + 2), u8 p (i + 3)] := by
  have h1 : (u32 p i).extractLsb' 16 16 = u16 p i := extract_high (u16 p i) (u16 p (i + 2))
  have h2 : (u32 p i).extractLsb' 0 16 = u16 p (i + 2) := extract_low (u16 p i) (u16 p (i + 2))
  rw [bytes32, h1, h2, bytes16_u16, bytes16_u16]
  rfl

theorem tagBytes_tagAt (p : List Byte) (i : Nat) :
    tagBytes (tagAt p i) =
      [u8 p i, u8 p (i + 1), u8 p (i + 2), u8 p (i + 3), u8 p (i + 4), u8 p (i + 5), u8 p (i + 6), u8 p (i + 7)] := rfl

/-- A tag is its eight characters. -/
theorem tag_eq (t : Vector Byte 8) : ∃ a b c d e f g h : Byte, t = #v[a, b, c, d, e, f, g, h] := by
  obtain ⟨⟨l⟩, hl⟩ := t
  match l, hl with
  | [a, b, c, d, e, f, g, h], _ => exact ⟨a, b, c, d, e, f, g, h, rfl⟩

/-- A payload is the list of its bytes. -/
theorem payload_eq {p : List Byte} {n : Nat} (h : p.length = n) : (List.range n).map (u8 p) = p := by
  subst h
  refine List.ext_getElem (by simp) fun i h1 h2 => ?_
  simp [u8, List.getD_eq_getElem?_getD, h2]

/-! ### The layouts -/

section
variable {p : List Byte}

theorem siteLayout_bytes (h : p.length = 44) : (SiteLayout.ofBytes p).bytes = p := by
  conv_rhs => rw [← payload_eq h]
  unfold SiteLayout.bytes SiteLayout.ofBytes
  dsimp only
  simp only [bytes16_u16, bytes32_u32, List.append_assoc]
  rfl

theorem positionLayout_bytes (h : p.length = 14) : (PositionLayout.ofBytes p).bytes = p := by
  conv_rhs => rw [← payload_eq h]
  unfold PositionLayout.bytes PositionLayout.ofBytes
  dsimp only
  simp only [bytes16_u16, List.append_assoc]
  rfl

theorem profileLayout_bytes (h : p.length = 29) : (ProfileLayout.ofBytes p).bytes = p := by
  conv_rhs => rw [← payload_eq h]
  unfold ProfileLayout.bytes ProfileLayout.ofBytes
  dsimp only
  simp only [bytes16_u16, List.append_assoc]
  rfl

theorem bankLayout_bytes (h : p.length = 13) : (BankLayout.ofBytes p).bytes = p := by
  conv_rhs => rw [← payload_eq h]
  unfold BankLayout.bytes BankLayout.ofBytes
  dsimp only
  simp only [bytes16_u16, List.append_assoc]
  rfl

theorem channelLayout_bytes (h : p.length = 10) : (ChannelLayout.ofBytes p).bytes = p := by
  conv_rhs => rw [← payload_eq h]
  unfold ChannelLayout.bytes ChannelLayout.ofBytes
  dsimp only
  simp only [bytes16_u16, List.append_assoc]
  rfl

theorem accountLayout_bytes (h : p.length = 24) : (AccountLayout.ofBytes p).bytes = p := by
  conv_rhs => rw [← payload_eq h]
  unfold AccountLayout.bytes AccountLayout.ofBytes
  dsimp only
  simp only [bytes32_u32, tagBytes_tagAt, List.append_assoc]
  rfl

theorem authorizeLayout_bytes (h : p.length = 15) : (AuthorizeLayout.ofBytes p).bytes = p := by
  conv_rhs => rw [← payload_eq h]
  unfold AuthorizeLayout.bytes AuthorizeLayout.ofBytes
  dsimp only
  simp only [bytes16_u16, bytes32_u32, List.append_assoc]
  rfl

end

theorem siteLayout_ofBytes (f : SiteLayout) : SiteLayout.ofBytes f.bytes = f := by
  unfold SiteLayout.ofBytes SiteLayout.bytes
  simp only [bytes16, bytes32, u16, u32, u8, List.cons_append, List.nil_append, List.getD_cons_succ,
    List.getD_cons_zero, extract16_append, extract32_append]

theorem positionLayout_ofBytes (f : PositionLayout) : PositionLayout.ofBytes f.bytes = f := by
  unfold PositionLayout.ofBytes PositionLayout.bytes
  simp only [bytes16, u16, u8, List.cons_append, List.nil_append, List.getD_cons_succ,
    List.getD_cons_zero, extract16_append]

theorem profileLayout_ofBytes (f : ProfileLayout) : ProfileLayout.ofBytes f.bytes = f := by
  unfold ProfileLayout.ofBytes ProfileLayout.bytes
  simp only [bytes16, u16, u8, List.cons_append, List.nil_append, List.getD_cons_succ,
    List.getD_cons_zero, extract16_append]

theorem bankLayout_ofBytes (f : BankLayout) : BankLayout.ofBytes f.bytes = f := by
  unfold BankLayout.ofBytes BankLayout.bytes
  simp only [bytes16, u16, u8, List.cons_append, List.nil_append, List.getD_cons_succ,
    List.getD_cons_zero, extract16_append]

theorem channelLayout_ofBytes (f : ChannelLayout) : ChannelLayout.ofBytes f.bytes = f := by
  unfold ChannelLayout.ofBytes ChannelLayout.bytes
  simp only [bytes16, u16, u8, List.cons_append, List.nil_append, List.getD_cons_succ,
    List.getD_cons_zero, extract16_append]

theorem accountLayout_ofBytes (f : AccountLayout) : AccountLayout.ofBytes f.bytes = f := by
  obtain ⟨number, kind, status, permission, presence, perFillMax, tag, money⟩ := f
  obtain ⟨a, b, c, d, e, f, g, h, rfl⟩ := tag_eq tag
  unfold AccountLayout.ofBytes AccountLayout.bytes tagBytes tagAt
  simp only [bytes16, bytes32, u16, u32, u8, List.cons_append, List.nil_append, List.getD_cons_succ,
    List.getD_cons_zero, extract16_append, extract32_append]

theorem authorizeLayout_ofBytes (f : AuthorizeLayout) : AuthorizeLayout.ofBytes f.bytes = f := by
  unfold AuthorizeLayout.ofBytes AuthorizeLayout.bytes
  simp only [bytes16, bytes32, u16, u32, u8, List.cons_append, List.nil_append, List.getD_cons_succ,
    List.getD_cons_zero, extract16_append, extract32_append]

/-! ### Requests -/

theorem bytes16_read (x : Word16) : u16 (bytes16 x) 0 = x := extract16_append x

theorem bytes32_read (x : Word32) (p : List Byte) : u32 (bytes32 x ++ p) 0 = x := by
  simp only [bytes16, bytes32, u16, u32, u8, List.cons_append, List.nil_append, List.getD_cons_succ, List.getD_cons_zero,
    extract16_append, extract32_append]

theorem bytes32_read_after (x y : Word32) : u32 (bytes32 x ++ bytes32 y) 4 = y := by
  simp only [bytes16, bytes32, u16, u32, u8, List.cons_append, List.nil_append, List.getD_cons_succ, List.getD_cons_zero,
    extract16_append, extract32_append]

/-- R179 (3): a code outside the catalogue spells UNKNOWN_REQUEST. -/
theorem requestOf_unknown (sender : Fin 5) (tag code : Byte) (p : List Byte) (h : requestLength code = none) :
    requestOf sender tag code p = .unknownRequest ⟨sender, tag⟩ code := by
  unfold requestOf
  split
  case h_40 => rfl
  all_goals
    rename_i hcode
    simp [requestLength, hcode] at h

section
variable {p : List Byte}

theorem bytes1_read_all (h : p.length = 1) : [u8 p 0] = p := payload_eq h

theorem bytes2_read_all (h : p.length = 2) : [u8 p 0] ++ [u8 p 1] = p := payload_eq h

theorem bytes16_read_all (h : p.length = 2) : bytes16 (u16 p 0) = p := (bytes16_u16 p 0).trans (payload_eq h)

theorem bytes32_read_all (h : p.length = 4) : bytes32 (u32 p 0) = p := (bytes32_u32 p 0).trans (payload_eq h)

theorem creditBytes_read_all (h : p.length = 8) : bytes32 (u32 p 0) ++ bytes32 (u32 p 4) = p := by
  rw [bytes32_u32, bytes32_u32]
  exact payload_eq h

theorem priceBytes_read_all (h : p.length = 5) : [u8 p 0] ++ bytes32 (u32 p 1) = p := by
  rw [bytes32_u32]
  exact payload_eq h

theorem metrologyBytes_read_all (h : p.length = 3) : [u8 p 0] ++ bytes16 (u16 p 1) = p := by
  rw [bytes16_u16]
  exact payload_eq h

end

theorem price_read (x : Byte) (y : Word32) : u32 ([x] ++ bytes32 y) 1 = y := by
  simp only [bytes16, bytes32, u16, u32, u8, List.cons_append, List.nil_append, List.getD_cons_succ, List.getD_cons_zero,
    extract16_append, extract32_append]

theorem metrology_read (x : Byte) (y : Word16) : u16 ([x] ++ bytes16 y) 1 = y := extract16_append y

/-- 12.6.9: a frame with the payload length of its code is the frame that spells its request. -/
theorem encode_requestOf (sender : Fin 5) (tag code : Byte) (p : List Byte) (n : Nat)
    (h : requestLength code = some n) (hp : p.length = n) :
    encode (requestOf sender tag code p) = some (⟨sender, tag⟩, code, p) := by
  have spelled (c : Byte) (q : List Byte) (hc : code.toNat = c.toNat) (hq : q = p) :
      some ((⟨sender, tag⟩ : Header), c, q) = some (⟨sender, tag⟩, code, p) := by
    rw [BitVec.eq_of_toNat_eq hc, hq]
  unfold requestLength at h
  unfold requestOf
  dsimp only
  split at h
  case h_40 => cases h
  all_goals
    rename_i hcode
    injection h with h
    subst h
    refine spelled _ _ hcode ?_
  case h_1 => exact siteLayout_bytes hp
  case h_2 => exact positionLayout_bytes hp
  case h_3 => exact profileLayout_bytes hp
  case h_4 => exact bankLayout_bytes hp
  case h_5 => exact channelLayout_bytes hp
  case h_6 => exact bytes2_read_all hp
  case h_10 => exact bytes32_read_all hp
  case h_12 => exact authorizeLayout_bytes hp
  case h_13 | h_14 | h_15 => exact bytes16_read_all hp
  case h_17 => exact accountLayout_bytes hp
  case h_18 => exact creditBytes_read_all hp
  case h_19 | h_20 => exact bytes32_read_all hp
  case h_21 => exact priceBytes_read_all hp
  case h_22 => exact metrologyBytes_read_all hp
  case h_7 | h_8 | h_9 | h_23 | h_27 | h_28 | h_31 | h_32 | h_33 | h_36 | h_37 | h_39 =>
    exact (List.eq_nil_of_length_eq_zero hp).symm
  all_goals exact bytes1_read_all hp

theorem siteLayout_length (f : SiteLayout) : requestLength 0x10 = some f.bytes.length := by
  have h : f.bytes.length = 44 := by
    unfold SiteLayout.bytes
    simp [bytes16, bytes32]
  rw [h]
  rfl

theorem positionLayout_length (f : PositionLayout) : requestLength 0x11 = some f.bytes.length := by
  have h : f.bytes.length = 14 := by
    unfold PositionLayout.bytes
    simp [bytes16]
  rw [h]
  rfl

theorem profileLayout_length (f : ProfileLayout) : requestLength 0x12 = some f.bytes.length := by
  have h : f.bytes.length = 29 := by
    unfold ProfileLayout.bytes
    simp [bytes16]
  rw [h]
  rfl

theorem bankLayout_length (f : BankLayout) : requestLength 0x13 = some f.bytes.length := by
  have h : f.bytes.length = 13 := by
    unfold BankLayout.bytes
    simp [bytes16]
  rw [h]
  rfl

theorem channelLayout_length (f : ChannelLayout) : requestLength 0x14 = some f.bytes.length := by
  have h : f.bytes.length = 10 := by
    unfold ChannelLayout.bytes
    simp [bytes16]
  rw [h]
  rfl

theorem accountLayout_length (f : AccountLayout) : requestLength 0x30 = some f.bytes.length := by
  have h : f.bytes.length = 24 := by
    unfold AccountLayout.bytes
    simp [bytes16, bytes32, tagBytes]
  rw [h]
  rfl

theorem authorizeLayout_length (f : AuthorizeLayout) : requestLength 0x21 = some f.bytes.length := by
  have h : f.bytes.length = 15 := by
    unfold AuthorizeLayout.bytes
    simp [bytes16, bytes32]
  rw [h]
  rfl

/-- 12.6.3: what a request and its frame have to do with each other. -/
def Spells (c : Instr) (h : Header) (code : Byte) (p : List Byte) : Prop :=
  requestOf h.sender h.tag code p = c ∧ ∀ n, requestLength code = some n → p.length = n

/-- A code of the catalogue has one payload length. -/
theorem Spells.of_encode {c : Instr} {h h' : Header} {code code' : Byte} {p p' : List Byte}
    (he : some (h', code', p') = some (h, code, p)) (hc : requestOf h'.sender h'.tag code' p' = c)
    (hn : requestLength code' = some p'.length) : Spells c h code p := by
  cases he
  exact ⟨hc, fun _ h => Option.some.inj (hn.symm.trans h)⟩

/-- 12.6.3: the frame that spells a request. -/
theorem spells_of_encode (c : Instr) (h : Header) (code : Byte) (p : List Byte) (hw : c.wellFormed = true)
    (he : encode c = some (h, code, p)) : Spells c h code p := by
  cases c
  case unknownRequest h code =>
    cases he
    have hn : requestLength code = none := Option.isNone_iff_eq_none.mp hw
    exact ⟨requestOf_unknown _ _ _ _ hn, fun n hs => absurd (hn.symm.trans hs) nofun⟩
  case writeSite h f => exact .of_encode he (congrArg (Instr.writeSite h) (siteLayout_ofBytes f)) (siteLayout_length f)
  case writePosition h f => exact .of_encode he (congrArg (Instr.writePosition h) (positionLayout_ofBytes f)) (positionLayout_length f)
  case writeProfile h f => exact .of_encode he (congrArg (Instr.writeProfile h) (profileLayout_ofBytes f)) (profileLayout_length f)
  case writeBank h f => exact .of_encode he (congrArg (Instr.writeBank h) (bankLayout_ofBytes f)) (bankLayout_length f)
  case writeChannel h f => exact .of_encode he (congrArg (Instr.writeChannel h) (channelLayout_ofBytes f)) (channelLayout_length f)
  case writeAccount h f => exact .of_encode he (congrArg (Instr.writeAccount h) (accountLayout_ofBytes f)) (accountLayout_length f)
  case authorize h f => exact .of_encode he (congrArg (Instr.authorize h) (authorizeLayout_ofBytes f)) (authorizeLayout_length f)
  case setClock h x => exact .of_encode he (congrArg (Instr.setClock h) (bytes32_read x [])) rfl
  case cancelTicket h x => exact .of_encode he (congrArg (Instr.cancelTicket h) (bytes16_read x)) rfl
  case settleTicket h x => exact .of_encode he (congrArg (Instr.settleTicket h) (bytes16_read x)) rfl
  case readTicket h x => exact .of_encode he (congrArg (Instr.readTicket h) (bytes16_read x)) rfl
  case closeAccount h x => exact .of_encode he (congrArg (Instr.closeAccount h) (bytes32_read x [])) rfl
  case readAccount h x => exact .of_encode he (congrArg (Instr.readAccount h) (bytes32_read x [])) rfl
  case creditAccount h x y =>
    exact .of_encode he (congrArg₂ (Instr.creditAccount h) (bytes32_read x _) (bytes32_read_after x y)) rfl
  case setPrice h x y => exact .of_encode he (congrArg (Instr.setPrice h x) (price_read x y)) rfl
  case writeMetrology h x y => exact .of_encode he (congrArg (Instr.writeMetrology h x) (metrology_read x y)) rfl
  all_goals first
    | exact .of_encode he rfl rfl
    | cases he

/-- Settles O4: each layout and each number is read back from its bytes, and spells the bytes it was read from. -/
theorem requestsAndFramesAgree : Obligations.RequestsAndFramesAgree :=
  ⟨fun c h code p hw he => spells_of_encode c h code p hw he, encode_requestOf⟩

end Sys2Proof
end

section
/-! PROOFS. The receiver: what one byte, one gap and one complete frame do. -/

namespace Sys2Proof.Machine

/-! ### One received byte -/

theorem abandonFrame_eq (s : State) :
    s.abandonFrame = { s with receiver := .hunting false, discardedFrames := min 65535 (s.discardedFrames + 1) } := rfl

theorem exec_receivedByte (v : Byte) (ok : Bool) (s : State) : exec (.receivedByte v ok) s = execReceivedByte v ok s := rfl

theorem exec_requestFrame (f : RawFrame) (s : State) : exec (.requestFrame f) s = execRequestFrame f s := rfl

theorem exec_frameGapTimeout (s : State) : exec .frameGapTimeout s = .next (expire s.gapLeft s State.abandonFrame) := rfl

section
variable {s : State}

/-- R178 (1): a byte received while hunting. -/
theorem receivedByte_hunting {inRun : Bool} (h : s.receiver = .hunting inRun) (v : Byte) (ok : Bool) :
    exec (.receivedByte v ok) s = .next (s.huntByte inRun v ok) := by
  have hs : s.abandonOverdue = s := abandonOverdue_of_gap fun b hb => by cases h.symm.trans hb
  rw [exec_receivedByte, execReceivedByte, hs]
  simp only [h]

/-- R178 (2): a byte received within the gap while a frame is assembled. -/
theorem receivedByte_assembling {bytes : List Byte} {gap : Nat} (h : s.receiver = .assembling bytes gap) (hg : 0 < gap)
    (v : Byte) (ok : Bool) :
    exec (.receivedByte v ok) s = .next (if ok then s.assembleByte (bytes ++ [v]) else s.abandonFrame) := by
  have hs : s.abandonOverdue = s := abandonOverdue_of_gap fun b hb => by
    cases h.symm.trans hb
    exact absurd hg (Nat.lt_irrefl 0)
  rw [exec_receivedByte, execReceivedByte, hs]
  simp only [h]

/-- R178 (2): what comes after a gap that is too long comes while hunting. -/
theorem abandonOverdue_overdue {bytes : List Byte} (h : s.receiver = .assembling bytes 0) :
    s.abandonOverdue = s.abandonFrame := by
  rw [State.abandonOverdue]
  simp only [h]

/-- R178 (1): a good start byte begins a frame. -/
theorem huntByte_start (inRun : Bool) : s.huntByte inRun 0xA5 true = { s with receiver := .assembling [] 6 } := rfl

/-- R178 (1), (4): every other byte is dropped, and the first of a run is counted. -/
theorem huntByte_dropped {inRun : Bool} (h : s.receiver = .hunting inRun) {v : Byte} {ok : Bool} (hv : ¬(v = 0xA5 ∧ ok = true)) :
    s.huntByte inRun v ok =
      { s with
        receiver := .hunting true
        discardedFrames := if inRun then s.discardedFrames else min 65535 (s.discardedFrames + 1) } := by
  have hn : ¬(ok && v == 0xA5) = true := fun hc => hv (by
    rw [Bool.and_eq_true, beq_iff_eq] at hc
    exact hc.symm)
  rw [State.huntByte, if_neg hn]
  cases inRun
  · rfl
  · simp only [if_true, ← h]

/-- R178 (2): while the length field is not complete, a byte is appended. -/
theorem assembleByte_short {bytes : List Byte} (h : bytes.length < 5) :
    s.assembleByte bytes = { s with receiver := .assembling bytes 6 } := by
  have hd : decide (5 ≤ bytes.length) = false := decide_eq_false (by omega)
  rw [State.assembleByte, hd]
  rfl

/-- R178 (2), (3): with the length field complete, a length above 512 abandons the frame, the last byte completes it, and every
other byte is appended. -/
theorem assembleByte_long {bytes : List Byte} (h : 5 ≤ bytes.length) :
    s.assembleByte bytes =
      if 512 < lengthField bytes then s.abandonFrame
      else if bytes.length = lengthField bytes + 7 then s.hunt.completeFrame (frameOfBytes bytes)
      else { s with receiver := .assembling bytes 6 } := by
  rw [State.assembleByte, decide_eq_true h]
  simp only [Bool.true_and, decide_eq_true_eq, beq_iff_eq]
  rfl

end

/-! ### A complete frame -/

section
variable {f : RawFrame}

/-- R178 (3): a frame that passes its checks. -/
theorem checkedFrame_good (good : f.address.toNat < 5) (hcrc : crc16 (requestBytes f) = f.crc)
    (hn : ∀ n, requestLength f.code = some n → f.payload.length = n) :
    checkedFrame f = some ⟨⟨f.address.toNat, good⟩, f.tag, f.code, f.payload⟩ := by
  have hl : (requestLength f.code).all (fun n => n == f.payload.length) = true := by
    cases h : requestLength f.code with
    | none => rfl
    | some n => simp [hn n h]
  rw [checkedFrame, dif_pos good, if_pos ⟨hcrc, hl⟩]

/-- R178 (3): a frame that fails a check. -/
theorem checkedFrame_bad
    (hb : 5 ≤ f.address.toNat ∨ crc16 (requestBytes f) ≠ f.crc ∨
      ∃ n, requestLength f.code = some n ∧ f.payload.length ≠ n) :
    checkedFrame f = none := by
  rw [checkedFrame]
  split
  · next good =>
    refine if_neg fun hc => ?_
    obtain ⟨hcrc, hl⟩ := hc
    rcases hb with ha | hcr | ⟨n, hn, hne⟩
    · omega
    · exact hcr hcrc
    · rw [hn] at hl
      exact hne (beq_iff_eq.mp hl).symm
  · rfl

end

section
variable {s : State}

theorem requestFrame_standing (h : ∀ bytes, s.receiver ≠ .assembling bytes 0) (f : RawFrame) :
    exec (.requestFrame f) s = .next (if 512 < f.payload.length then s.abandonFrame else s.hunt.completeFrame f) := by
  rw [exec_requestFrame, execRequestFrame, abandonOverdue_of_gap h]
  rfl

/-- R179 (1): a frame that passes its checks is appended, or lost to an overrun. -/
theorem completeFrame_good {f : RawFrame} {g : Frame} (h : checkedFrame f = some g) :
    s.hunt.completeFrame f =
      if s.inputBuffer.length < 2 then { s with receiver := .hunting false, inputBuffer := s.inputBuffer ++ [g] }
      else { s with receiver := .hunting false, bufferOverruns := min 65535 (s.bufferOverruns + 1) } := by
  rw [State.completeFrame, h]
  rfl

theorem completeFrame_bad {f : RawFrame} (h : checkedFrame f = none) : s.hunt.completeFrame f = s.abandonFrame := by
  rw [State.completeFrame, h]
  rfl

end

/-- Settles O6. -/
theorem receiverAssemblesAndChecksFrames : Obligations.ReceiverAssemblesAndChecksFrames := by
  refine ⟨⟨fun s inRun h => ⟨?_, fun v ok hv => ?_⟩, fun s bytes gap h => ?_, fun s inRun h => ?_⟩, fun f s hs => ⟨?_, ?_⟩⟩
  · rw [receivedByte_hunting h, huntByte_start]
  · rw [receivedByte_hunting h, huntByte_dropped h hv]
  · refine ⟨fun v hg => ?_, fun v hg hl => ?_, fun v hg hl => ?_, fun hg => ⟨fun v ok => ?_, fun f => ?_⟩, ?_⟩
    · exact receivedByte_assembling h hg v false
    · rw [receivedByte_assembling h hg, if_pos rfl, assembleByte_short (by simp; omega)]
    · have h5 : (bytes ++ [v]).length = 5 := by simp [hl]
      rw [receivedByte_assembling h hg, if_pos rfl, assembleByte_long (by omega), h5, if_neg (c := 5 = _) (by omega)]
      rfl
    · subst hg
      rw [exec_receivedByte, execReceivedByte, abandonOverdue_overdue h]
      exact (receivedByte_hunting (s := s.abandonFrame) rfl v ok).symm
    · subst hg
      rw [exec_requestFrame, execRequestFrame, abandonOverdue_overdue h, ← abandonOverdue_abandonFrame]
      rfl
    · have hgap : s.gapLeft = some gap := by rw [State.gapLeft, h]
      rw [exec_frameGapTimeout, hgap, expire_some, abandonFrame_eq, elapse_discardedFrames]
  · have hgap : s.gapLeft = none := by rw [State.gapLeft, h]
    rw [exec_frameGapTimeout, hgap, expire_none]
  · intro good hp hcrc hn
    rw [requestFrame_standing hs, if_neg (Nat.not_lt.mpr hp), completeFrame_good (checkedFrame_good good hcrc hn)]
  · intro hb
    rw [requestFrame_standing hs]
    by_cases hp : 512 < f.payload.length
    · rw [if_pos hp, abandonFrame_eq]
    · rw [if_neg hp, completeFrame_bad (checkedFrame_bad (hb.resolve_left hp)), abandonFrame_eq]

/-! ### The bytes of a frame -/

theorem frameBytes_eq (f : RawFrame) :
    frameBytes f = [f.address, f.tag, f.code] ++ out16 f.payload.length ++ (f.payload ++ bytes16 f.crc) :=
  List.append_assoc ..

theorem length_bytes16 (x : Word16) : (bytes16 x).length = 2 := rfl

theorem frameBytes_length (f : RawFrame) : (frameBytes f).length = f.payload.length + 7 := by
  rw [frameBytes_eq]
  simp [out16, length_bytes16]
  omega

theorem lengthField_append {p q : List Byte} (h : 5 ≤ p.length) : lengthField (p ++ q) = lengthField p := by
  rw [lengthField, lengthField, u16, u16, u8_append_left (by omega), u8_append_left (by omega)]

/-- 12.6.1: the length field of a frame is the length of its payload. -/
theorem lengthField_frameBytes {f : RawFrame} (h : f.payload.length ≤ 512) : lengthField (frameBytes f) = f.payload.length := by
  have hu : u16 (frameBytes f) 3 = BitVec.ofNat 16 f.payload.length := by
    rw [frameBytes_eq]
    exact extract16_append _
  rw [lengthField, hu, BitVec.toNat_ofNat]
  omega

/-- 12.6.1: the bytes of a frame spell that frame. -/
theorem frameOfBytes_frameBytes {f : RawFrame} (h : f.payload.length ≤ 512) : frameOfBytes (frameBytes f) = f := by
  have hcrc : u16 (frameBytes f) (5 + f.payload.length) = f.crc := by
    have h0 : requestBytes f = [f.address, f.tag, f.code] ++ out16 f.payload.length ++ f.payload := rfl
    have hl : (requestBytes f).length = 5 + f.payload.length := by
      rw [h0]
      simp [out16, length_bytes16]
      omega
    rw [frameBytes, u16, u8_append_right (by omega), u8_append_right (by omega), hl, Nat.sub_self,
      show 5 + f.payload.length + 1 - (5 + f.payload.length) = 1 by omega]
    exact extract16_append f.crc
  have hp : ((frameBytes f).drop 5).take f.payload.length = f.payload := by
    rw [frameBytes_eq]
    exact List.take_left
  rw [frameOfBytes, lengthField_frameBytes h, hcrc]
  rw [hp]
  rfl

/-- R178: the bytes of a frame that are still to come complete it. -/
theorem receiveAll_rest {f : RawFrame} (hf : f.payload.length ≤ 512) (s : State) (rest : List Byte) :
    ∀ pre, rest ≠ [] → pre ++ rest = frameBytes f →
      receiveAll rest { s with receiver := .assembling pre 6 } = .next (s.hunt.completeFrame f) := by
  induction rest with
  | nil => exact fun _ h => absurd rfl h
  | cons v rest ih =>
    intro pre _ hpre
    have hq : (pre ++ [v]) ++ rest = frameBytes f := by simpa using hpre
    have hlen : (pre ++ [v]).length + rest.length = f.payload.length + 7 := by
      rw [← List.length_append, hq, frameBytes_length]
    have hgo : rest ≠ [] →
        State.assembleByte { s with receiver := .assembling pre 6 } (pre ++ [v]) =
          { s with receiver := .assembling (pre ++ [v]) 6 } := by
      intro hr
      have hpos := List.length_pos_of_ne_nil hr
      by_cases h5 : 5 ≤ (pre ++ [v]).length
      · have hl : lengthField (pre ++ [v]) = f.payload.length := by
          rw [← lengthField_append (q := rest) h5, hq, lengthField_frameBytes hf]
        rw [assembleByte_long h5, hl, if_neg (by omega), if_neg (by omega)]
      · exact assembleByte_short (by omega)
    rw [receiveAll, receivedByte_assembling (bytes := pre) (gap := 6) rfl (by omega), if_pos rfl]
    dsimp only
    cases rest with
    | nil =>
      rw [List.append_nil] at hq
      have h5 : 5 ≤ (pre ++ [v]).length := by
        rw [hq, frameBytes_length]
        omega
      rw [assembleByte_long h5, hq, lengthField_frameBytes hf, frameBytes_length, frameOfBytes_frameBytes hf,
        if_neg (by omega), if_pos rfl]
      rfl
    | cons w rest =>
      rw [hgo (List.cons_ne_nil _ _)]
      exact ih _ (List.cons_ne_nil _ _) hq

/-- Settles O5: the start byte begins a frame, and the bytes after it complete it. -/
theorem bytesSpellTheFrame : Obligations.BytesSpellTheFrame := by
  intro f s inRun hf h
  have hne : frameBytes f ≠ [] := fun he => by simpa [frameBytes_length] using congrArg List.length he
  rw [receiveAll, receivedByte_hunting h, huntByte_start]
  dsimp only
  rw [receiveAll_rest hf s _ [] hne rfl,
    requestFrame_standing (fun b hb => by cases h.symm.trans hb), if_neg (Nat.not_lt.mpr hf)]

end Sys2Proof.Machine
end

section
/-! PROOFS. The passing of time in parts, and the expiry of a timer. -/

namespace Sys2Proof.Machine

/-! ### Time in two parts -/

section
variable (a b : Nat)

theorem runDown_runDown (t : Option Nat) : runDown b (runDown a t) = runDown (a + b) t := by
  cases t with
  | none => rfl
  | some x => simp [Nat.sub_sub]

theorem position_elapse_elapse (limit : Nat) (q : Position) : (q.elapse a limit).elapse b limit = q.elapse (a + b) limit := by
  have hf : ((q.elapse a limit).elapse b limit).fillTime = (q.elapse (a + b) limit).fillTime := by
    simp only [Position.elapse, satAdd]
    split <;> omega
  have hh : ((q.elapse a limit).elapse b limit).holdTime = (q.elapse (a + b) limit).holdTime := by
    simp only [Position.elapse]
    split <;> omega
  simp only [Position.elapse, runDown_runDown, Position.mk.injEq, true_and, and_true]
  exact ⟨hf, hh⟩

theorem compressor_elapse_elapse (c : Compressor) : (c.elapse a).elapse b = c.elapse (a + b) := by
  simp only [Compressor.elapse, runDown_runDown, List.map_map]
  refine congrArg (fun r => { c with timer := runDown (a + b) c.timer, returns := r }) (List.map_congr_left fun x _ => ?_)
  exact Nat.sub_sub x a b

theorem precool_elapse_elapse (c : Precool) : (c.elapse a).elapse b = c.elapse (a + b) := by
  refine congrArg (fun r => { c with fallback := r }) (table_ext fun i => ?_)
  simp [Precool.elapse, runDown_runDown]

theorem channel_elapse_elapse (c : Channel) : (c.elapse a).elapse b = c.elapse (a + b) := by
  simp only [Channel.elapse, runDown_runDown]

theorem debouncer_elapse_elapse (x : Debouncer) : (x.elapse a).elapse b = x.elapse (a + b) := by
  simp only [Debouncer.elapse, runDown_runDown]

theorem debouncers_elapse_elapse (x : Debouncers) : (x.elapse a).elapse b = x.elapse (a + b) := by
  have hv (v : Vector Debouncer 4) :
      mapAll (Debouncer.elapse b) (mapAll (Debouncer.elapse a) v) = mapAll (Debouncer.elapse (a + b)) v :=
    table_ext fun i => by simp only [get_mapAll, debouncer_elapse_elapse]
  simp only [Debouncers.elapse, debouncer_elapse_elapse, hv]

theorem receiver_elapse_elapse (r : Receiver) : (r.elapse a).elapse b = r.elapse (a + b) := by
  cases r with
  | hunting => rfl
  | assembling bytes gap => simp only [Receiver.elapse, Nat.sub_sub]

end

section
variable {s : State} {a b : Nat}

theorem elapse_of_ne (h : a ≠ 0) :
    s.elapse a =
      { s with
        tickets := mapAll (Option.map (s.agedTicket a)) s.tickets
        positions := #v[s.agedPos a 0, s.agedPos a 1, s.agedPos a 2, s.agedPos a 3]
        compressor := s.compressor.elapse a
        precool := s.precool.elapse a
        channels := mapAll (Channel.elapse a) s.channels
        debouncers := s.debouncers.elapse a
        receiver := s.receiver.elapse a
        clock := s.agedClock a
        clockPhase := Fin.ofNat 1000 (s.clockPhase.val + a) } := if_neg h

theorem agedPos_elapse (ha : a ≠ 0) (p : Fin 4) : (s.elapse a).agedPos b p = s.agedPos (a + b) p := by
  rw [State.agedPos, elapse_cfg, elapse_pos a s ha, position_elapse_elapse]
  rfl

theorem holdsFill_elapse (t : Ticket) : (s.elapse a).holdsFill (s.agedTicket a t) = s.holdsFill t := by
  simp only [State.holdsFill, agedTicket_position, agedTicket_number, elapse_pos_active, elapse_pos_state]

theorem agedTicket_elapse (ha : a ≠ 0) (t : Ticket) :
    (s.elapse a).agedTicket b (s.agedTicket a t) = s.agedTicket (a + b) t := by
  have hu : ((s.elapse a).agedTicket b (s.agedTicket a t)).holdUsed = (s.agedTicket (a + b) t).holdUsed := by
    rw [agedTicket_holdUsed, holdsFill_elapse, agedTicket_holdUsed, agedTicket_holdUsed, agedTicket_position,
      agedPos_elapse ha]
    split <;> rfl
  have hw : ((s.elapse a).agedTicket b (s.agedTicket a t)).window = (s.agedTicket (a + b) t).window :=
    runDown_runDown a b t.window
  exact congrArg₂ (fun w u => { t with window := w, holdUsed := u }) hw hu

/-- R185: the seconds of two times are the seconds of both. -/
theorem agedClock_elapse : (s.elapse a).agedClock b = s.agedClock (a + b) := by
  rw [State.agedClock, State.agedClock, elapse_clock, elapse_clockPhase, BitVec.add_assoc, ← BitVec.ofNat_add]
  congr 2
  omega

theorem clockPhase_elapse :
    Fin.ofNat 1000 ((s.elapse a).clockPhase.val + b) = Fin.ofNat 1000 (s.clockPhase.val + (a + b)) := by
  refine Fin.ext ?_
  simp only [Fin.ofNat, elapse_clockPhase]
  omega

theorem elapse_elapse (s : State) (a b : Nat) : (s.elapse a).elapse b = s.elapse (a + b) := by
  by_cases ha : a = 0
  · subst ha
    rw [elapse_zero, Nat.zero_add]
  by_cases hb : b = 0
  · subst hb
    rfl
  rw [elapse_of_ne hb, elapse_of_ne (s := s) (a := a + b) (by omega), agedClock_elapse, clockPhase_elapse,
    agedPos_elapse ha, agedPos_elapse ha, agedPos_elapse ha, agedPos_elapse ha]
  have ht : mapAll (Option.map ((s.elapse a).agedTicket b)) (s.elapse a).tickets =
      mapAll (Option.map (s.agedTicket (a + b))) s.tickets := table_ext fun i => by
    rw [get_mapAll, get_mapAll, elapse_ticket a s ha, Option.map_map]
    exact congrArg (fun f => Option.map f _) (funext fun t => agedTicket_elapse ha t)
  have hch : mapAll (Channel.elapse b) (s.elapse a).channels = mapAll (Channel.elapse (a + b)) s.channels :=
    table_ext fun i => by
      rw [get_mapAll, get_mapAll]
      exact (congrArg _ (elapse_chan a s ha i)).trans (channel_elapse_elapse a b _)
  have hc : (s.elapse a).compressor.elapse b = s.compressor.elapse (a + b) := by
    rw [elapse_of_ne ha]
    exact compressor_elapse_elapse a b _
  have hp : (s.elapse a).precool.elapse b = s.precool.elapse (a + b) := by
    rw [elapse_of_ne ha]
    exact precool_elapse_elapse a b _
  have hd : (s.elapse a).debouncers.elapse b = s.debouncers.elapse (a + b) := by
    rw [elapse_of_ne ha]
    exact debouncers_elapse_elapse a b _
  have hr : (s.elapse a).receiver.elapse b = s.receiver.elapse (a + b) := by
    rw [elapse_of_ne ha]
    exact receiver_elapse_elapse a b _
  rw [ht, hch, hc, hp, hd, hr, elapse_of_ne ha]

end

/-! ### The time left -/

section
variable (s : State) (d : Nat)

theorem ticketSlot_elapse (n : Nat) : (s.elapse d).ticketSlot n = s.ticketSlot n := by
  by_cases h : d = 0
  · subst h
    rfl
  · unfold State.ticketSlot findSlot
    refine congrArg (fun p => (List.finRange 32).find? p) (funext fun i => ?_)
    rw [elapse_ticket d s h, Option.any_map]
    rfl

theorem windowLeft_elapse (n : Nat) : (s.elapse d).windowLeft n = runDown d (s.windowLeft n) := by
  by_cases h : d = 0
  · subst h
    simp [runDown]
  · rw [State.windowLeft, State.windowLeft, State.ticket, State.ticket, ticketSlot_elapse]
    cases s.ticketSlot n with
    | none => rfl
    | some i =>
      simp only [Option.bind_some, elapse_ticket d s h]
      cases s.tickets.get i <;> rfl

theorem elapse_pos_timer {f : Position → Option Nat} (hf : ∀ d limit q, f (Position.elapse d limit q) = runDown d (f q))
    (p : Fin 4) : f ((s.elapse d).pos p) = runDown d (f (s.pos p)) := by
  by_cases h : d = 0
  · subst h
    simp [runDown]
  · rw [elapse_pos d s h, hf]

theorem runDown_if {c : Prop} [Decidable c] (t : Option Nat) :
    runDown d (if c then t else none) = if c then runDown d t else none := by
  split <;> rfl

theorem substateLeft_elapse (p : Fin 4) (sub : Substate) :
    (s.elapse d).substateLeft p sub = runDown d (s.substateLeft p sub) := by
  rw [State.substateLeft, State.substateLeft, runDown_if, elapse_pos_state,
    elapse_pos_timer s d (f := Position.substateTimer) fun _ _ _ => rfl]

theorem coolWaitLeft_elapse (p : Fin 4) : (s.elapse d).coolWaitLeft p = runDown d (s.coolWaitLeft p) := by
  rw [State.coolWaitLeft, State.coolWaitLeft, runDown_if, elapse_pos_state,
    elapse_pos_timer s d (f := Position.coolWaitTimer) fun _ _ _ => rfl]

theorem stepLeft_elapse (p : Fin 4) : (s.elapse d).stepLeft p = runDown d (s.stepLeft p) := by
  rw [State.stepLeft, State.stepLeft, runDown_if, elapse_pos_state,
    elapse_pos_timer s d (f := fun q => q.ramp.stepTimer) fun _ _ _ => rfl]

theorem ventLeft_elapse (p : Fin 4) : (s.elapse d).ventLeft p = runDown d (s.ventLeft p) := by
  rw [State.ventLeft, State.ventLeft, runDown_if, elapse_pos_state,
    elapse_pos_timer s d (f := Position.substateTimer) fun _ _ _ => rfl]

theorem delayLeft_elapse (p : Fin 4) : (s.elapse d).delayLeft p = runDown d (s.delayLeft p) := by
  rw [State.delayLeft, State.delayLeft, runDown_if, elapse_pos_state,
    elapse_pos_timer s d (f := Position.resumeTimer) fun _ _ _ => rfl]

theorem freshnessLeft_elapse (p : Fin 4) : (s.elapse d).freshnessLeft p = runDown d (s.freshnessLeft p) := by
  rw [State.freshnessLeft, State.freshnessLeft, runDown_if, elapse_link_state,
    elapse_pos_timer s d (f := fun q => q.link.freshness) fun _ _ _ => rfl]

/-- R117 (3): the hold accumulator takes what is left to the maximum hold total. -/
theorem holdTotalLeft_elapse (p : Fin 4) : (s.elapse d).holdTotalLeft p = runDown d (s.holdTotalLeft p) := by
  rw [State.holdTotalLeft, State.holdTotalLeft, elapse_pos_state, elapse_cfg, elapse_pos_holdTime]
  split
  · rw [runDown_some]
    congr 1
    omega
  · rfl

theorem gapLeft_elapse : (s.elapse d).gapLeft = runDown d s.gapLeft := by
  by_cases h : d = 0
  · subst h
    simp [runDown]
  · rw [elapse_of_ne h, State.gapLeft, State.gapLeft]
    cases s.receiver <;> rfl

theorem graceLeft_elapse (c : Fin 32) : ((s.elapse d).chan c).grace = runDown d (s.chan c).grace := by
  by_cases h : d = 0
  · subst h
    simp [runDown]
  · rw [elapse_chan d s h]
    rfl

theorem debounceLeft_elapse (line : SwitchLine) :
    ((s.elapse d).debouncers.at line).timer = runDown d (s.debouncers.at line).timer := by
  by_cases h : d = 0
  · subst h
    simp [runDown]
  · rw [elapse_of_ne h]
    cases line <;> simp [Debouncers.at, Debouncers.elapse, Debouncer.elapse]

theorem fallbackLeft_elapse (p : Fin 4) : (s.elapse d).precool.fallback.get p = runDown d (s.precool.fallback.get p) := by
  by_cases h : d = 0
  · subst h
    simp [runDown]
  · rw [elapse_of_ne h]
    exact get_mapAll _ _ _

theorem compressorLeft_elapse (c : CompressorState) : (s.elapse d).compressorLeft c = runDown d (s.compressorLeft c) := by
  by_cases h : d = 0
  · subst h
    simp [runDown]
  · rw [State.compressorLeft, State.compressorLeft, runDown_if, elapse_compressor_state, elapse_of_ne h]
    rfl

theorem creditLeft_elapse : (s.elapse d).compressor.returns.head? = runDown d s.compressor.returns.head? := by
  by_cases h : d = 0
  · subst h
    simp [runDown]
  · rw [elapse_of_ne h]
    exact List.head?_map

/-- A timer runs down by the time that passes; the running second of a hold accumulator starts again instead. -/
theorem timeLeft_elapse (c : Instr) (h : ∀ p, c ≠ .holdSecondElapsed p) :
    (s.elapse d).timeLeft c = runDown d (s.timeLeft c) := by
  cases c
  case frameGapTimeout => exact gapLeft_elapse s d
  case authWindowExpiry n => exact windowLeft_elapse s d _
  case graceTimerExpiry c => exact graceLeft_elapse s d c
  case debounceExpiry line => exact debounceLeft_elapse s d line
  case freshnessExpiry p => exact freshnessLeft_elapse s d p
  case pulseTimeEnd p | settleTimeEnd p | leakCheckTimeEnd p => exact substateLeft_elapse s d p _
  case coolWaitExpiry p => exact coolWaitLeft_elapse s d p
  case controlStep p => exact stepLeft_elapse s d p
  case ventTimeEnd p => exact ventLeft_elapse s d p
  case resumeDelayExpiry p => exact delayLeft_elapse s d p
  case holdSecondElapsed p => exact absurd rfl (h p)
  case holdTotalExpiry p => exact holdTotalLeft_elapse s d p
  case fallbackExpiry p => exact fallbackLeft_elapse s d p
  case startTimeEnd | unloadedTimeEnd | lockoutTimeEnd => exact compressorLeft_elapse s d _
  case creditReturn => exact creditLeft_elapse s d
  all_goals rfl

end

/-! ### The expiry of a timer -/

/-- What the expiry of a timer does once its time has passed. -/
def expiryEvent (c : Instr) (s : State) : State :=
  match c with
  | .frameGapTimeout => s.abandonFrame
  | .authWindowExpiry n => s.expireWindow n.toNat
  | .graceTimerExpiry c => s.failChannel c
  | .debounceExpiry line => s.debounced line
  | .freshnessExpiry p => s.loseLink p
  | .pulseTimeEnd p => s.enterSettle p
  | .settleTimeEnd p => s.settleEnded p
  | .leakCheckTimeEnd p => s.leakCheckEnded p
  | .coolWaitExpiry p => s.coolWaitEnded p
  | .controlStep p => s.runStep p
  | .ventTimeEnd p => s.ventEnded p
  | .resumeDelayExpiry p => s.delayEnded p
  | .holdSecondElapsed p => s.writeHoldTime p
  | .holdTotalExpiry p => s.holdExhausted p
  | .fallbackExpiry p => s.fallbackExpired p
  | .startTimeEnd => s.chooseNext none
  | .unloadedTimeEnd => s.unloadedEnded
  | .lockoutTimeEnd => s.endLockout
  | .creditReturn => s.returnCredit
  | _ => s

/-- Every expiry lets the time left on its timer pass, then acts. -/
theorem exec_expiry (c : Instr) (s : State) (h : isExpiry c = true) :
    exec c s = .next (expire (s.timeLeft c) s (expiryEvent c)) := by
  cases c <;> first | rfl | cases h

theorem timeLeft_of_not_expiry (c : Instr) (s : State) (h : isExpiry c ≠ true) : s.timeLeft c = none := by
  cases c <;> first | rfl | exact absurd rfl h

/-- R85: the fill time counts from STARTING to HELD. -/
theorem elapse_fillTime (s : State) {d : Nat} (h : 0 < d) (p : Fin 4) :
    ((s.elapse d).pos p).fillTime =
      if (s.pos p).state.isStarting = true ∨ (s.pos p).state = .fuelling ∨ (s.pos p).state.isHeld = true then
        min 4294967295 ((s.pos p).fillTime + d)
      else (s.pos p).fillTime := by
  have hf : ((s.pos p).state.filling = true) =
      ((s.pos p).state.isStarting = true ∨ (s.pos p).state = .fuelling ∨ (s.pos p).state.isHeld = true) := by
    cases (s.pos p).state <;> simp [PosState.filling, PosState.isStarting, PosState.isHeld]
  rw [elapse_pos d s (Nat.ne_of_gt h)]
  simp only [← hf]
  rfl

/-- Settles O3. -/
theorem expiryActsWhenItsTimeIsUp : Obligations.ExpiryActsWhenItsTimeIsUp := by
  refine ⟨elapse_elapse, fun c s d hc hd => ?_, fun c s he hn => ?_, fun s => rfl, fun s d p hd => elapse_fillTime s hd p⟩
  · have h0 : (s.elapse d).timeLeft c = some 0 := by
      rw [timeLeft_elapse s d c hc, hd, runDown_some, Nat.sub_self]
    have he : isExpiry c = true := by
      by_contra hne
      rw [timeLeft_of_not_expiry c s hne] at hd
      cases hd
    rw [exec_expiry c s he, exec_expiry c _ he, h0, hd]
    exact ⟨rfl, rfl⟩
  · rw [exec_expiry c s he, hn, expire_none]

end Sys2Proof.Machine
end

section
/-! PROOFS. The queue and the input buffer stand at every command; the waiting frame is taken; the bytes of a reply. -/

namespace Sys2Proof.Machine

/-- The queue of the commands that wait and the input buffer are the same in two states. -/
def LinkStands (s t : State) : Prop := t.pending = s.pending ∧ t.inputBuffer = s.inputBuffer

namespace LinkStands
variable {s t u : State}

theorem refl (s : State) : LinkStands s s := ⟨rfl, rfl⟩

theorem trans (h : LinkStands s t) (k : LinkStands t u) : LinkStands s u := ⟨k.1.trans h.1, k.2.trans h.2⟩

theorem of_base (h : t.base = s.base) : LinkStands s t :=
  have hp : t.base.pending = s.base.pending := congrArg State.pending h
  have hb : t.base.inputBuffer = s.base.inputBuffer := congrArg State.inputBuffer h
  ⟨hp, hb⟩

/-- A change that leaves the rest alone, then one that keeps the link. -/
theorem after (h : LinkStands s t) (k : u.base = t.base) : LinkStands s u := h.trans (of_base k)

theorem foldl {α : Type} (f : State → α → State) (h : ∀ s a, LinkStands s (f s a)) (l : List α) (s : State) :
    LinkStands s (l.foldl f s) := by
  induction l generalizing s with
  | nil => exact refl s
  | cons a l ih => exact (h s a).trans (ih _)

/-! ### Requests -/

theorem require {test : Bool} {r : Result} {k : Answer} (h : LinkStands s k.state) :
    LinkStands s (require test r s k).state := by
  unfold Machine.require
  split
  · exact h
  · exact refl s

theorem stationOnly {h : Header} {k : Answer} (hk : LinkStands s k.state) : LinkStands s (stationOnly h s k).state := require hk

theorem spelled {α : Type} {x : Option α} {k : α → Answer} (h : ∀ a, LinkStands s (k a).state) :
    LinkStands s (spelled x s k).state := by
  unfold Machine.spelled
  split
  · exact h _
  · exact refl s

theorem configure {h : Header} {k : Answer} (hk : LinkStands s k.state) : LinkStands s (configure h s k).state :=
  stationOnly (require hk)

theorem withTicket {h : Header} {n : Nat} {k : Ticket → Answer} (hk : ∀ t, LinkStands s (k t).state) :
    LinkStands s (withTicket h n s k).state := by
  unfold Machine.withTicket
  split
  · exact require (hk _)
  · exact refl s

theorem withAccount {n : Nat} {k : Account → Answer} (hk : ∀ a, LinkStands s (k a).state) :
    LinkStands s (withAccount n s k).state := by
  unfold Machine.withAccount
  split
  · exact hk _
  · exact refl s

theorem atPosition {h : Header} {b : Byte} {k : Fin 4 → Answer} (hk : ∀ p, LinkStands s (k p).state) :
    LinkStands s (atPosition h b s k).state := stationOnly (spelled hk)

theorem atBank {h : Header} {b : Byte} {k : Fin 6 → Answer} (hk : ∀ b, LinkStands s (k b).state) :
    LinkStands s (atBank h b s k).state := stationOnly (spelled hk)

end LinkStands

/-! ### The changes that a command makes outside a fill -/

section
variable (s : State)

theorem modAccount_link (n : Nat) (f : Account → Account) : LinkStands s (s.modAccount n f) := by
  unfold State.modAccount
  split <;> exact .refl s

theorem followDebt_link (n : Nat) : LinkStands s (s.followDebt n) := by
  unfold State.followDebt
  repeat' split
  · exact (modAccount_link s _ _).after (raise_base _ _)
  · exact modAccount_link s _ _
  all_goals exact .refl s

theorem cancelHold_link (t : Ticket) : LinkStands s (s.cancelHold t) := by
  unfold State.cancelHold
  split
  · exact modAccount_link s _ _
  · exact .refl s

theorem settleMoney_link (t : Ticket) : LinkStands s (s.settleMoney t) := by
  unfold State.settleMoney
  split
  · exact ((modAccount_link s _ _).trans (modAccount_link _ _ _)).trans (followDebt_link _ _)
  · exact .refl s

theorem takeTerms_link (x : Terms) : LinkStands s (s.takeTerms x) := by
  unfold State.takeTerms
  split
  · exact modAccount_link s _ _
  · exact .refl s

theorem cancelTicket_link (t : Ticket) : LinkStands s (s.cancelTicket t) := by
  have h : LinkStands s ((s.cancelHold t).retireTicket t.number) := (cancelHold_link s t).after (retireTicket_base _ _)
  unfold State.cancelTicket
  dsimp only
  split
  · exact h.after (by simp)
  · exact h.after (by simp)
  · exact h

theorem settleTicket_link (t : Ticket) : LinkStands s (s.settleTicket t) := by
  have h : LinkStands s ((s.settleMoney t).retireTicket t.number) := (settleMoney_link s t).after (retireTicket_base _ _)
  unfold State.settleTicket
  dsimp only
  split
  · exact h.after (by simp)
  · exact h

theorem authorize_link (h : Header) (t : Ticket) (a m x : Option Nat) : LinkStands s (s.authorize h t a m x).state := by
  refine .require (.require ?_)
  split
  · exact .refl s
  · next x _ =>
    have hx := takeTerms_link s x
    change LinkStands s (s.authorizeTicket t x)
    unfold State.authorizeTicket
    dsimp only
    split
    · exact hx.after (by simp)
    · exact hx.after (by simp)

theorem placeTicket_link (h : Header) (p : Fin 4) : LinkStands s (s.placeTicket h p).state := by
  unfold State.placeTicket
  repeat' split
  all_goals exact ⟨rfl, rfl⟩

theorem writeAccount_link (w : AccountWrite) : LinkStands s (s.writeAccount w).state := by
  unfold State.writeAccount State.changeAccount State.createAccount
  repeat' split
  · exact (modAccount_link s _ _).trans (followDebt_link _ _)
  · exact .refl s
  · exact ⟨rfl, rfl⟩
  · exact .refl s

theorem retireAccount_link (n : Nat) : LinkStands s (s.retireAccount n) := by
  unfold State.retireAccount
  split <;> exact .refl s

theorem setPrice_link (k : NozzleClass) (x : Nat) : LinkStands s (s.setPrice k x) := by
  cases k <;> exact .refl s

theorem writeBank_link (b : Fin 6) (c : BankConfig) : LinkStands s (s.writeBank b c) := by
  have h : LinkStands s { s with bankConfig := setAt s.bankConfig b c } := ⟨rfl, rfl⟩
  unfold State.writeBank
  dsimp only
  split
  · exact h.after (by simp)
  · exact h.after (by simp)

theorem userRestart_link (r : Option Role) : LinkStands s (s.userRestart r) := by
  unfold State.userRestart
  split
  case h_1 | h_2 => exact .of_base (by simp)
  all_goals exact .refl s

theorem writeChannel_link (i : Fin 32) (c : ChannelConfig) : LinkStands s (s.writeChannel i c) :=
  LinkStands.trans ⟨rfl, rfl⟩ ((userRestart_link ((State.setChan { s with channelConfig := setAt s.channelConfig i c } i .atRestart)) _).trans (userRestart_link _ _))

theorem commissionPosition_base (p : Fin 4) : (s.commissionPosition p).base = s.base := by
  unfold State.commissionPosition
  repeat' split
  all_goals simp

theorem commission_link : LinkStands s s.commission := by
  have h : LinkStands s { s with commissioned := true } := ⟨rfl, rfl⟩
  refine h.after ?_
  unfold State.commission
  dsimp only
  rw [compressorStartTest_base, commissionChiller_base, foldl_base _ queueEntryAtCommission_base,
    foldl_base _ commissionPosition_base]

theorem decommission_link : LinkStands s s.decommission :=
  LinkStands.after (t := { s with
      commissioned := false
      tickets := mapAll (Option.map fun t : Ticket => t.decommissioned s.clock) s.tickets
      positions := mapAll Position.decommissioned s.positions
      waiting := .empty }) ⟨rfl, rfl⟩
    ((decommissionPrecool_base _).trans (decommissionCompressor_base _))

theorem clearStationFactors_base (p : Fin 4) : (s.clearStationFactors p).base = s.base := rfl

theorem resumePosition_link (p : Fin 4) : LinkStands s (s.resumePosition p).state := by
  unfold State.resumePosition State.resumeFromFactors State.resumeOnDemand
  split
  · exact .require (.of_base (clearStationFactors_base s p))
  · refine .require (.of_base ?_)
    change (if _ then _ else _ : State).base = _
    split <;> simp [clearStationFactors_base]
  · exact .of_base (by simp [accept])
  all_goals exact .refl s

theorem suspendRefill_link : LinkStands s s.suspendRefill.state := by
  have h : LinkStands s s.suspendMotor := .of_base (suspendMotor_base _)
  unfold State.suspendRefill
  split <;> exact h

theorem chillerOn_link : LinkStands s s.chillerOn.state := by
  have h : LinkStands s s.switchChillerOn := .of_base (switchChillerOn_base _)
  unfold State.chillerOn
  split
  · exact h
  · exact .require h
  all_goals exact .refl s

theorem startTestAll_link : LinkStands s s.startTestAll := .foldl _ (fun _ _ => .of_base (startTest_base _ _)) _ s

theorem clearEsdLatch_link : LinkStands s s.clearEsdLatch := by
  have hl : LinkStands s { s with esdLatch := false } := ⟨rfl, rfl⟩
  have hc : LinkStands s (State.esdCauseCleared { s with esdLatch := false }) := hl.after (esdCauseCleared_base _)
  exact hc.trans (startTestAll_link _)

theorem clearEsd_link : LinkStands s s.clearEsd.state := by
  have h : LinkStands s (accept s.clearEsdLatch).state := clearEsdLatch_link s
  unfold State.clearEsd
  split
  · exact .require h
  · exact .refl s

end

/-! ### Every request is answered -/

/-- R179 (2): the outcome of a request: its frame is taken, the queue and the buffer stand, and its reply has been sent. -/
def Answered (s : State) (c : Instr) (h : Header) (code : Byte) (o : Host.Outcome State Fault Refusal) : Prop :=
  ∃ a : Answer, LinkStands (s.takeFrame c) a.state ∧ o = .next { a.state with reply := some ⟨h.sender, h.tag, code, a.result, a.payload⟩ }

theorem answered {s : State} {c : Instr} {h : Header} {code : Byte} {body : State → Answer}
    (hb : ∀ u, LinkStands u (body u).state) : Answered s c h code (answer c h code s body) := ⟨body (s.takeFrame c), hb _, rfl⟩

section
variable (s : State) (h : Header)

theorem unknownRequest_answered (code : Byte) : Answered s (.unknownRequest h code) h code (execUnknownRequest h code s) :=
  answered fun u => .refl u

theorem writeSite_answered (f : SiteLayout) : Answered s (.writeSite h f) h 0x10 (execWriteSite h f s) :=
  answered fun _ => .configure (.spelled fun _ => ⟨rfl, rfl⟩)

theorem writePosition_answered (f : PositionLayout) : Answered s (.writePosition h f) h 0x11 (execWritePosition h f s) :=
  answered fun _ => .configure (.spelled fun _ => .spelled fun _ => ⟨rfl, rfl⟩)

theorem writeProfile_answered (f : ProfileLayout) : Answered s (.writeProfile h f) h 0x12 (execWriteProfile h f s) :=
  answered fun _ => .configure (.spelled fun _ => .spelled fun _ => ⟨rfl, rfl⟩)

theorem writeBank_answered (f : BankLayout) : Answered s (.writeBank h f) h 0x13 (execWriteBank h f s) :=
  answered fun u => .configure (.spelled fun _ => .spelled fun _ => writeBank_link u _ _)

theorem writeChannel_answered (f : ChannelLayout) : Answered s (.writeChannel h f) h 0x14 (execWriteChannel h f s) :=
  answered fun u => .configure (.spelled fun _ => .spelled fun _ => .require (writeChannel_link u _ _))

theorem writeTerminal_answered (address : Byte) (positions : Byte) : Answered s (.writeTerminal h address positions) h 0x15 (execWriteTerminal h address positions s) :=
  answered fun _ => .configure (.spelled fun _ => ⟨rfl, rfl⟩)

theorem accept_link {s t : State} (h : LinkStands s t) : LinkStands s (accept t).state := h

theorem commission_answered : Answered s (.commission h) h 0x16 (execCommission h s) := by
  refine answered fun u => .stationOnly (.require (.require ?_))
  split
  · exact .refl u
  · exact accept_link (commission_link u)

theorem decommission_answered : Answered s (.decommission h) h 0x17 (execDecommission h s) :=
  answered fun u => .stationOnly (.require (.require (decommission_link u)))

theorem factoryClear_answered : Answered s (.factoryClear h) h 0x18 (execFactoryClear h s) :=
  answered fun _ => .stationOnly (.require (.require ⟨rfl, rfl⟩))

theorem setClock_answered (value : Word32) : Answered s (.setClock h value) h 0x19 (execSetClock h value s) :=
  answered fun _ => .stationOnly ⟨rfl, rfl⟩

theorem openTicket_answered (position : Byte) : Answered s (.openTicket h position) h 0x20 (execOpenTicket h position s) :=
  answered fun u => .spelled fun _ => .require (.require (.require (placeTicket_link u _ _)))

theorem authorize_answered (f : AuthorizeLayout) : Answered s (.authorize h f) h 0x21 (execAuthorize h f s) :=
  answered fun u => .withTicket fun _ => authorize_link u _ _ _ _ _

theorem cancelTicket_answered (ticket : Word16) : Answered s (.cancelTicket h ticket) h 0x22 (execCancelTicket h ticket s) :=
  answered fun u => .withTicket fun _ => .require (cancelTicket_link u _)

theorem settleTicket_answered (ticket : Word16) : Answered s (.settleTicket h ticket) h 0x23 (execSettleTicket h ticket s) :=
  answered fun u => .withTicket fun _ => .require (settleTicket_link u _)

theorem readTicket_answered (ticket : Word16) : Answered s (.readTicket h ticket) h 0x24 (execReadTicket h ticket s) :=
  answered fun u => .withTicket fun _ => .refl u

theorem listTickets_answered (filter : Byte) : Answered s (.listTickets h filter) h 0x25 (execListTickets h filter s) :=
  answered fun u => .refl u

theorem writeAccount_answered (f : AccountLayout) : Answered s (.writeAccount h f) h 0x30 (execWriteAccount h f s) :=
  answered fun u => .stationOnly (.spelled fun _ => writeAccount_link u _)

theorem creditAccount_answered (number : Word32) (amount : Word32) : Answered s (.creditAccount h number amount) h 0x31 (execCreditAccount h number amount s) :=
  answered fun u => .require (.withAccount fun _ => (modAccount_link u _ _).trans (followDebt_link _ _))

theorem closeAccount_answered (number : Word32) : Answered s (.closeAccount h number) h 0x32 (execCloseAccount h number s) :=
  answered fun u => .stationOnly (.withAccount fun _ => .require (retireAccount_link u _))

theorem readAccount_answered (number : Word32) : Answered s (.readAccount h number) h 0x33 (execReadAccount h number s) :=
  answered fun u => .withAccount fun _ => .refl u

theorem setPrice_answered (nozzleClass : Byte) (value : Word32) : Answered s (.setPrice h nozzleClass value) h 0x34 (execSetPrice h nozzleClass value s) :=
  answered fun u => .stationOnly (.spelled fun _ => .require (setPrice_link u _ _))

theorem writeMetrology_answered (position : Byte) (weight : Word16) : Answered s (.writeMetrology h position weight) h 0x35 (execWriteMetrology h position weight s) :=
  answered fun _ => .stationOnly (.require (.spelled fun _ => .require (.require ⟨rfl, rfl⟩)))

theorem readMetrology_answered : Answered s (.readMetrology h) h 0x36 (execReadMetrology h s) :=
  answered fun u => .refl u

theorem holdPosition_answered (position : Byte) : Answered s (.holdPosition h position) h 0x40 (execHoldPosition h position s) :=
  answered fun _ => .atPosition fun _ => .require (.of_base (activate_base _ _ _))

theorem resumePosition_answered (position : Byte) : Answered s (.resumePosition h position) h 0x41 (execResumePosition h position s) :=
  answered fun u => .atPosition fun p => resumePosition_link u p

theorem stopPosition_answered (position : Byte) : Answered s (.stopPosition h position) h 0x42 (execStopPosition h position s) :=
  answered fun _ => .atPosition fun _ => .require (.of_base (endFill_base _ _ _))

theorem suspendRefill_answered : Answered s (.suspendRefill h) h 0x43 (execSuspendRefill h s) :=
  answered fun u => .stationOnly (suspendRefill_link u)

theorem resumeRefill_answered : Answered s (.resumeRefill h) h 0x44 (execResumeRefill h s) :=
  answered fun _ => .stationOnly (.require (.of_base (enterStopped_base _)))

theorem isolateBank_answered (bank : Byte) : Answered s (.isolateBank h bank) h 0x45 (execIsolateBank h bank s) :=
  answered fun _ => .atBank fun _ => .of_base (isolate_base _ _)

theorem returnBank_answered (bank : Byte) : Answered s (.returnBank h bank) h 0x46 (execReturnBank h bank s) :=
  answered fun _ => .atBank fun _ => .require (.of_base (returnToReady_base _ _))

theorem chillerOn_answered : Answered s (.chillerOn h) h 0x47 (execChillerOn h s) :=
  answered fun u => .stationOnly (chillerOn_link u)

theorem chillerOff_answered : Answered s (.chillerOff h) h 0x48 (execChillerOff h s) :=
  answered fun _ => .stationOnly (.of_base (switchChillerOff_base _))

theorem clearEsd_answered : Answered s (.clearEsd h) h 0x49 (execClearEsd h s) :=
  answered fun u => .stationOnly (clearEsd_link u)

theorem readPosition_answered (position : Byte) : Answered s (.readPosition h position) h 0x50 (execReadPosition h position s) :=
  answered fun u => .spelled fun _ => .require (.refl u)

theorem readBank_answered (bank : Byte) : Answered s (.readBank h bank) h 0x51 (execReadBank h bank s) :=
  answered fun u => .atBank fun _ => .refl u

theorem readCompressor_answered : Answered s (.readCompressor h) h 0x52 (execReadCompressor h s) :=
  answered fun u => .stationOnly (.refl u)

theorem readPrecool_answered : Answered s (.readPrecool h) h 0x53 (execReadPrecool h s) :=
  answered fun u => .stationOnly (.refl u)

theorem readChannel_answered (channel : Byte) : Answered s (.readChannel h channel) h 0x54 (execReadChannel h channel s) :=
  answered fun u => .stationOnly (.spelled fun _ => .refl u)

theorem readEvents_answered : Answered s (.readEvents h) h 0x55 (execReadEvents h s) :=
  answered fun _ => .stationOnly ⟨rfl, rfl⟩

end

/-- R179 (2): every request is answered. -/
theorem exec_answered {c : Instr} {h : Header} {code : Byte} {p : List Byte} (he : encode c = some (h, code, p)) (s : State) :
    Answered s c h code (exec c s) := by
  have found {c' : Instr} {h' : Header} {code' : Byte} {p' : List Byte} {o : Host.Outcome State Fault Refusal}
      (he : some (h', code', p') = some (h, code, p)) (hx : Answered s c' h' code' o) : Answered s c' h code o := by
    cases he
    exact hx
  cases c
  case unknownRequest => exact found he (unknownRequest_answered s _ _)
  case writeSite => exact found he (writeSite_answered s _ _)
  case writePosition => exact found he (writePosition_answered s _ _)
  case writeProfile => exact found he (writeProfile_answered s _ _)
  case writeBank => exact found he (writeBank_answered s _ _)
  case writeChannel => exact found he (writeChannel_answered s _ _)
  case writeTerminal => exact found he (writeTerminal_answered s _ _ _)
  case commission => exact found he (commission_answered s _)
  case decommission => exact found he (decommission_answered s _)
  case factoryClear => exact found he (factoryClear_answered s _)
  case setClock => exact found he (setClock_answered s _ _)
  case openTicket => exact found he (openTicket_answered s _ _)
  case authorize => exact found he (authorize_answered s _ _)
  case cancelTicket => exact found he (cancelTicket_answered s _ _)
  case settleTicket => exact found he (settleTicket_answered s _ _)
  case readTicket => exact found he (readTicket_answered s _ _)
  case listTickets => exact found he (listTickets_answered s _ _)
  case writeAccount => exact found he (writeAccount_answered s _ _)
  case creditAccount => exact found he (creditAccount_answered s _ _ _)
  case closeAccount => exact found he (closeAccount_answered s _ _)
  case readAccount => exact found he (readAccount_answered s _ _)
  case setPrice => exact found he (setPrice_answered s _ _ _)
  case writeMetrology => exact found he (writeMetrology_answered s _ _ _)
  case readMetrology => exact found he (readMetrology_answered s _)
  case holdPosition => exact found he (holdPosition_answered s _ _)
  case resumePosition => exact found he (resumePosition_answered s _ _)
  case stopPosition => exact found he (stopPosition_answered s _ _)
  case suspendRefill => exact found he (suspendRefill_answered s _)
  case resumeRefill => exact found he (resumeRefill_answered s _)
  case isolateBank => exact found he (isolateBank_answered s _ _)
  case returnBank => exact found he (returnBank_answered s _ _)
  case chillerOn => exact found he (chillerOn_answered s _)
  case chillerOff => exact found he (chillerOff_answered s _)
  case clearEsd => exact found he (clearEsd_answered s _)
  case readPosition => exact found he (readPosition_answered s _ _)
  case readBank => exact found he (readBank_answered s _ _)
  case readCompressor => exact found he (readCompressor_answered s _)
  case readPrecool => exact found he (readPrecool_answered s _)
  case readChannel => exact found he (readChannel_answered s _ _)
  case readEvents => exact found he (readEvents_answered s _)
  all_goals cases he

/-! ### The events -/

section
variable (s : State)

theorem expireWindow_link (n : Nat) : LinkStands s (s.expireWindow n) := by
  unfold State.expireWindow
  split
  · exact .of_base (by simp)
  · exact .refl s

theorem senseDoubt_base (p : Fin 4) : (s.senseDoubt p).base = s.base := by
  unfold State.senseDoubt
  split <;> simp

theorem tGasTaken_base (p : Fin 4) (v : Nat) : (s.tGasTaken p v).base = s.base := by
  unfold State.tGasTaken
  dsimp only
  repeat' split
  all_goals simp

theorem notifyTaken_base (r : Role) (v : Nat) (changed : Bool) : (s.notifyTaken r v changed).base = s.base := by
  have hd (p : Fin 4) : (if changed then s.senseDoubt p else s).base = s.base := by
    split
    · exact senseDoubt_base s p
    · rfl
  cases r with
  | pDisp p => exact hd p
  | tGas p => exact (tGasTaken_base _ p v).trans (hd p)
  | bankP b => exact bankPressureTaken_base s b v
  | bankT b => exact bankTemperatureTaken_base s b v
  | supply => exact supplyTaken_base s v
  | discharge => exact dischargeTaken_base s v
  | coolant =>
    refine (coolantTaken_base _ v).trans ?_
    split
    · exact coolantReturned_base s
    · rfl
  | ambient => rfl

theorem notifyHeld_base (r : Role) : (s.notifyHeld r).base = s.base := by
  cases r <;> first | rfl | exact senseDoubt_base s _

theorem notifyFailed_base (r : Role) : (s.notifyFailed r).base = s.base := by
  cases r with
  | pDisp p => exact endFill_base s p _
  | tGas p => exact senseDoubt_base s p
  | bankP b => exact isolate_base s b
  | supply => exact supplyFailed_base s
  | discharge => exact dischargeFailed_base s
  | coolant => exact coolantFailed_base s
  | bankT => rfl
  | ambient => rfl

theorem notify_base (c : Fin 32) (tell : State → Role → State) (h : ∀ s r, (tell s r).base = s.base) :
    (s.notify c tell).base = s.base := by
  unfold State.notify
  split
  · exact h s _
  · rfl

theorem setChan_link (c : Fin 32) (x : Channel) : LinkStands s (s.setChan c x) := ⟨rfl, rfl⟩

theorem channelSample_link (c : Fin 32) (v : Nat) : LinkStands s (s.channelSample c v) := by
  unfold State.channelSample
  dsimp only
  split
  · exact (setChan_link s c _).after (notify_base _ c _ fun s r => notifyTaken_base s r v _)
  · split
    · exact (setChan_link s c _).after (notify_base _ c _ notifyHeld_base)
    · exact .refl s

theorem sample_link (source value : Nat) : LinkStands s (s.sample source value) := by
  unfold State.sample
  split
  · exact channelSample_link s _ _
  · exact ⟨rfl, rfl⟩

theorem failChannel_link (c : Fin 32) : LinkStands s (s.failChannel c) :=
  (setChan_link s c _).after ((notify_base _ c _ notifyFailed_base).trans (raise_base _ _))

theorem metrologyChange_link (closed : Bool) : LinkStands s (s.metrologyChange closed) := by
  unfold State.metrologyChange
  split
  · exact LinkStands.trans (t := { s with tradeLockOpen := false }) ⟨rfl, rfl⟩ (startTestAll_link _)
  · exact ⟨rfl, rfl⟩

theorem switchEvent_link (line : SwitchLine) (level : Bool) : LinkStands s (s.switchEvent line level) := by
  cases line with
  | holster p =>
    change LinkStands _ (if _ then State.nozzleHolstered _ p else State.nozzleLifted _ p)
    split
    · exact .of_base (nozzleHolstered_base _ p)
    · exact .of_base (nozzleLifted_base _ p)
  | coupling p =>
    change LinkStands _ (if _ then State.couplingClosed _ p else State.couplingOpened _ p)
    split
    · exact .of_base (couplingClosed_base _ p)
    · exact .of_base (couplingOpened_base _ p)
  | metrology => exact metrologyChange_link _ _
  | chillerFault => exact .of_base (faultLineChange_base _ _)

theorem debounced_link (line : SwitchLine) : LinkStands s (s.debounced line) := by
  have h (x : Debouncers) : LinkStands s { s with debouncers := x } := ⟨rfl, rfl⟩
  exact (h (s.debouncers.put line ⟨_, _, none⟩)).trans (switchEvent_link _ line _)

theorem setEsdLatch_link : LinkStands s s.setEsdLatch := by
  have hl : LinkStands s { s with esdLatch := true } := ⟨rfl, rfl⟩
  have hc : LinkStands s (State.esdCauseSet { s with esdLatch := true }) := hl.after (esdCauseSet_base _)
  exact (hc.trans (.foldl _ (fun u p => .of_base (enterEndingCore_base u p .esd)) _ _)).after (raise_base _ _)

theorem esdLineAt_link (active : Bool) : LinkStands s (s.esdLineAt active) := by
  have h : LinkStands s { s with esdLine := active } := ⟨rfl, rfl⟩
  unfold State.esdLineAt
  dsimp only
  split
  · exact h.trans (setEsdLatch_link _)
  · exact h

theorem completeFrame_pending (f : RawFrame) : (s.completeFrame f).pending = s.pending := by
  unfold State.completeFrame State.appendFrame
  repeat' split
  all_goals rfl

theorem abandonOverdue_pending : s.abandonOverdue.pending = s.pending := by
  rcases abandonOverdue_cases s with ⟨-, h⟩ | ⟨-, h⟩ <;> rw [h]
  rfl

theorem requestFrame_pending (f : RawFrame) :
    (if Config.maxPayload < f.payload.length then s.abandonOverdue.abandonFrame
      else s.abandonOverdue.hunt.completeFrame f).pending = s.pending := by
  split
  · exact abandonOverdue_pending s
  · exact (completeFrame_pending _ f).trans (abandonOverdue_pending s)

theorem huntByte_pending (inRun : Bool) (v : Byte) (ok : Bool) : (s.huntByte inRun v ok).pending = s.pending := by
  unfold State.huntByte
  repeat' split
  all_goals rfl

theorem assembleByte_pending (bytes : List Byte) : (s.assembleByte bytes).pending = s.pending := by
  unfold State.assembleByte
  repeat' split
  · rfl
  · exact completeFrame_pending s.hunt _
  · rfl

theorem receivedByte_pending (v : Byte) (ok : Bool) (t : State) (h : execReceivedByte v ok s = .next t) :
    t.pending = s.pending := by
  obtain rfl := Host.Outcome.next.inj h
  refine Eq.trans ?_ (abandonOverdue_pending s)
  split
  · exact huntByte_pending _ _ v ok
  · split
    · exact assembleByte_pending _ _
    · rfl

/-- The event of a timer leaves the queue alone. -/
theorem expiryEvent_pending (c : Instr) (u : State) : (expiryEvent c u).pending = u.pending := by
  cases c
  case authWindowExpiry n => exact (expireWindow_link u _).1
  case graceTimerExpiry c => exact (failChannel_link u c).1
  case debounceExpiry line => exact (debounced_link u line).1
  case freshnessExpiry p => exact (LinkStands.of_base (loseLink_base u p)).1
  case pulseTimeEnd p => exact (LinkStands.of_base (enterSettle_base u p)).1
  case settleTimeEnd p => exact (LinkStands.of_base (settleEnded_base u p)).1
  case leakCheckTimeEnd p => exact (LinkStands.of_base (leakCheckEnded_base u p)).1
  case coolWaitExpiry p => exact (LinkStands.of_base (coolWaitEnded_base u p)).1
  case controlStep p => exact (LinkStands.of_base (runStep_base u p)).1
  case ventTimeEnd p => exact (LinkStands.of_base (ventEnded_base u p)).1
  case resumeDelayExpiry p => exact (LinkStands.of_base (delayEnded_base u p)).1
  case holdSecondElapsed p => exact (LinkStands.of_base (writeHoldTime_base u p)).1
  case holdTotalExpiry p => exact (LinkStands.of_base (holdExhausted_base u p)).1
  case fallbackExpiry p => exact (LinkStands.of_base (fallbackExpired_base u p)).1
  case startTimeEnd => exact (LinkStands.of_base (chooseNext_base u none)).1
  case lockoutTimeEnd => exact (LinkStands.of_base (endLockout_base u)).1
  case creditReturn => exact (LinkStands.of_base (returnCredit_base u)).1
  all_goals rfl

theorem expire_pending (left : Option Nat) {event : State → State} (h : ∀ u, (event u).pending = u.pending) :
    (expire left s event).pending = s.pending := by
  cases left with
  | none => rfl
  | some d => exact (h _).trans (elapse_pending d s)

/-- No command touches the queue of the commands that wait. -/
theorem exec_pending (c : Instr) (t : State) (h : exec c s = .next t) : t.pending = s.pending := by
  cases he : encode c with
  | some x =>
    obtain ⟨hd, code, p⟩ := x
    obtain ⟨a, hl, ha⟩ := exec_answered he s
    obtain rfl := Host.Outcome.next.inj (ha.symm.trans h)
    exact hl.1.trans (takeFrame_pending s c)
  | none =>
    by_cases hx : isExpiry c = true
    · rw [exec_expiry c s hx] at h
      obtain rfl := Host.Outcome.next.inj h
      exact expire_pending s _ (expiryEvent_pending c)
    · cases c
      case restart => obtain rfl := Host.Outcome.next.inj h; rfl
      case requestFrame f => obtain rfl := Host.Outcome.next.inj h; exact requestFrame_pending s f
      case siteClockTick => obtain rfl := Host.Outcome.next.inj h; exact elapse_pending _ s
      case sampleArrival => obtain rfl := Host.Outcome.next.inj h; exact (sample_link s _ _).1
      case switchRawChange => obtain rfl := Host.Outcome.next.inj h; rfl
      case esdLineChange => obtain rfl := Host.Outcome.next.inj h; exact (esdLineAt_link s _).1
      case meterLineChange p a b => obtain rfl := Host.Outcome.next.inj h; exact (LinkStands.of_base (meterChange_base s p a b)).1
      case vehicleFrameArrival p f => obtain rfl := Host.Outcome.next.inj h; exact (LinkStands.of_base (vehicleFrame_base s p _)).1
      case receivedByte v ok => exact receivedByte_pending s v ok t h
      all_goals first | exact absurd rfl hx | cases he

end

/-! ### The waiting frame -/

/-- 12.6.1: a frame spells a request with its own sender, tag and code. -/
theorem requestOf_header (sender : Fin 5) (tag code : Byte) (p : List Byte) :
    ∃ q, encode (requestOf sender tag code p) = some (⟨sender, tag⟩, code, q) := by
  have spelled (c : Byte) (q : List Byte) (hc : code.toNat = c.toNat) :
      ∃ q', some ((⟨sender, tag⟩ : Header), c, q) = some (⟨sender, tag⟩, code, q') :=
    ⟨q, by rw [BitVec.eq_of_toNat_eq hc]⟩
  unfold requestOf
  dsimp only
  split
  case h_40 => exact ⟨_, rfl⟩
  all_goals
    rename_i hcode
    exact spelled _ _ hcode

/-- R179 (2): an empty queue takes the frame at the head of the buffer. -/
theorem step_takes {s : State} {f : Frame} {rest : List Frame} (hp : s.pending = []) (hb : s.inputBuffer = f :: rest) :
    step s = exec f.request s ∧ (s.takeFrame f.request).inputBuffer = rest := by
  have hi : s.internalCommand = some f.request := by
    rw [State.internalCommand, hb]
    rfl
  constructor
  · rw [step, hp]
    dsimp only
    rw [idle, hi]
  · rw [State.takeFrame, hb]
    dsimp only
    rw [if_pos rfl]

/-! ### The bytes of a reply -/

theorem resultOf_code (r : Result) :
    [Result.ok, .okReduced, .refusedState, .notFound, .tableFull, .badValue, .locked, .notPermitted, .notCommissioned,
      .insufficient, .noStock, .unknownRequest][(out8 r.code).toNat]? = some r := by
  cases r <;> rfl

theorem reply_covered_length (r : Reply) : r.covered.length = r.payload.length + 6 := by
  simp [Reply.covered, out16, length_bytes16]
  omega

theorem reply_frame_eq (r : Reply) :
    r.frame = [0x5A, out8 r.sender.val, r.tag, r.code, out8 r.result.code] ++ out16 r.payload.length ++
      (r.payload ++ bytes16 (crc16 r.covered)) := by
  simp [Reply.frame, Reply.covered]

theorem u16_append_right {p q : List Byte} {i : Nat} (h : p.length = i) : u16 (p ++ q) i = u16 q 0 := by
  rw [u16, u8_append_right (by omega), u8_append_right (by omega), h, Nat.sub_self, Nat.add_sub_cancel_left]
  rfl

/-- 12.6.1: a reply frame ends with the CRC of all that stands between it and the start byte. -/
theorem reply_crc (r : Reply) :
    u16 r.frame (r.payload.length + 7) = crc16 ((r.frame.drop 1).take (r.payload.length + 6)) := by
  have hcov : (r.frame.drop 1).take (r.payload.length + 6) = r.covered := by
    rw [← reply_covered_length]
    exact List.take_left
  have hf : r.frame = (0x5A :: r.covered) ++ bytes16 (crc16 r.covered) := rfl
  rw [hcov, hf, u16_append_right (by simp [reply_covered_length])]
  exact bytes16_read _

/-- 12.6: a byte enters the CRC at its high end. -/
theorem crcByte_eq (c : Word16) (v : Byte) :
    crcByte c v =
      (List.range 8).foldl (fun c _ => if c.getLsbD 15 then (c <<< 1) ^^^ 0x1021 else c <<< 1) (c ^^^ (v.setWidth 16 <<< 8)) := by
  have hv : v ++ 0#8 = v.setWidth 16 <<< 8 := by
    refine BitVec.eq_of_getLsbD_eq fun i hi => ?_
    have hg : (v ++ 0#8).getLsbD i = if i < 8 then (0#8).getLsbD i else v.getLsbD (i - 8) := BitVec.getLsbD_append
    rw [hg]
    by_cases h : i < 8
    · simp [h]
    · simp [h, show i < 16 by omega]
  rw [crcByte, hv]
  rfl

/-- Settles O2. -/
theorem queueStandsAndWaitingFrameIsTaken : Obligations.QueueStandsAndWaitingFrameIsTaken := by
  refine ⟨fun c s t h => exec_pending s c t h, fun s f rest hp hb => ?_, fun r => ?_, rfl, fun bytes v => ?_⟩
  · obtain ⟨hstep, hrest⟩ := step_takes hp hb
    obtain ⟨q, hq⟩ := requestOf_header f.sender f.tag f.code f.payload
    obtain ⟨a, hl, ha⟩ := exec_answered hq s
    exact ⟨_, a.result, a.payload, hstep.trans ha, hl.2.trans hrest, rfl⟩
  · have hlen : r.frame.length = r.payload.length + 9 := by
      rw [reply_frame_eq]
      simp [out16, length_bytes16]
      omega
    refine ⟨hlen, ?_, ?_, ?_, ?_, ?_, ?_, ?_, reply_crc r⟩
    all_goals rw [reply_frame_eq]
    · rfl
    · rfl
    · rfl
    · rfl
    · exact resultOf_code r.result
    · exact bytes16_read _
    · exact List.take_left
  · rw [crc16, List.foldl_append, ← crcByte_eq]
    rfl

end Sys2Proof.Machine
end

section
/-! PROOFS. Prices, the metrology record, and the money and the writing of accounts. -/

namespace Sys2Proof.Machine

/-! ### SET_PRICE -/

section
variable {h : Header} {k : Byte} {value : Word32} {s : State}

theorem exec_setPrice : exec (.setPrice h k value) s = execSetPrice h k value s := rfl

theorem setPrice_notPermitted (hs : h.sender ≠ 0) :
    exec (.setPrice h k value) s = .next (s.answered (.setPrice h k value) h 0x34 .notPermitted []) := by
  rw [exec_setPrice]
  exact answer_refuse (stationOnly_terminal hs _ _)

theorem setPrice_badValue (hs : h.sender = 0) (hb : k.toNat = 0 ∨ 3 ≤ k.toNat ∨ value.toNat = 0 ∨ 10000000 < value.toNat) :
    exec (.setPrice h k value) s = .next (s.answered (.setPrice h k value) h 0x34 .badValue []) := by
  rw [exec_setPrice]
  refine answer_refuse ((stationOnly_station hs _ _).trans ?_)
  cases hk : classOf k with
  | none => rfl
  | some x =>
    have hx := classOf_codes hk
    have hw : within 1 value.toNat 10000000 = false := by
      rw [Bool.eq_false_iff, ne_eq, within_iff]
      omega
    rw [spelled_some, hw, require_false]

/-- R37: an accepted price is written, and the reply shows the one before it. -/
theorem setPrice_accepted (hs : h.sender = 0) (h1 : 1 ≤ value.toNat) (h2 : value.toNat ≤ 10000000) {x : NozzleClass}
    (hk : classOf k = some x) :
    exec (.setPrice h k value) s =
      .next ((s.setPrice x value.toNat).answered (.setPrice h k value) h 0x34 .ok (priceReply (s.price x))) := by
  rw [exec_setPrice]
  refine answer_change (fun s => s.setPrice x value.toNat) (fun s => by cases x <;> rfl) (fun s b => by cases x <;> rfl) ?_
  rw [stationOnly_station hs, hk, spelled_some, (within_iff ..).2 ⟨h1, h2⟩, require_true]
  cases x <;> simp [State.price]

theorem priceReply_eq (price : Option Nat) :
    priceReply price = (if price = none then 0 else 1) :: bytes32 (BitVec.ofNat 32 (price.getD 0)) := by
  cases price <;> rfl

end

/-! ### WRITE_METROLOGY and READ_METROLOGY -/

section
variable {h : Header} {x : Byte} {w : Word16} {s : State}

theorem exec_writeMetrology : exec (.writeMetrology h x w) s = execWriteMetrology h x w s := rfl

/-- R39: the tests of WRITE_METROLOGY after the sender. -/
def State.writeMetrology (x : Byte) (w : Word16) (s : State) : Answer :=
  require s.tradeLockOpen .locked s <| spelled (positionOf x) s fun p =>
    require (within 10 w.toNat 10000) .badValue s <| require (!(s.pos p).state.busy) .refusedState s <|
      accept { s with pulseWeights := setAt s.pulseWeights p w.toNat }

theorem writeMetrology_station (hs : h.sender = 0) :
    exec (.writeMetrology h x w) s = answer (.writeMetrology h x w) h 0x35 s (State.writeMetrology x w) := by
  rw [exec_writeMetrology, execWriteMetrology, answer, answer, stationOnly_station hs]
  rfl

theorem writeMetrology_notPermitted (hs : h.sender ≠ 0) :
    exec (.writeMetrology h x w) s = .next (s.answered (.writeMetrology h x w) h 0x35 .notPermitted []) := by
  rw [exec_writeMetrology]
  exact answer_refuse (stationOnly_terminal hs _ _)

theorem writeMetrology_locked (hs : h.sender = 0) (ho : s.tradeLockOpen = false) :
    exec (.writeMetrology h x w) s = .next (s.answered (.writeMetrology h x w) h 0x35 .locked []) := by
  rw [writeMetrology_station hs]
  exact answer_refuse (by rw [State.writeMetrology, takeFrame_tradeLockOpen, ho, require_false])

theorem writeMetrology_badValue (hs : h.sender = 0) (ho : s.tradeLockOpen = true)
    (hb : 4 ≤ x.toNat ∨ w.toNat < 10 ∨ 10000 < w.toNat) :
    exec (.writeMetrology h x w) s = .next (s.answered (.writeMetrology h x w) h 0x35 .badValue []) := by
  rw [writeMetrology_station hs]
  refine answer_refuse ?_
  rw [State.writeMetrology, takeFrame_tradeLockOpen, ho, require_true]
  cases hp : positionOf x with
  | none => rfl
  | some p =>
    have hx := positionOf_eq_some.1 hp
    have hw : within 10 w.toNat 10000 = false := by
      rw [Bool.eq_false_iff, ne_eq, within_iff]
      omega
    rw [spelled_some, hw, require_false]

section
variable (hs : h.sender = 0) (ho : s.tradeLockOpen = true) (h1 : 10 ≤ w.toNat) (h2 : w.toNat ≤ 10000) {p : Fin 4}
  (hp : p.val = x.toNat)
include hs ho h1 h2 hp

theorem writeMetrology_refusedState (hb : (s.pos p).state.busy = true) :
    exec (.writeMetrology h x w) s = .next (s.answered (.writeMetrology h x w) h 0x35 .refusedState []) := by
  rw [writeMetrology_station hs]
  refine answer_refuse ?_
  rw [State.writeMetrology, takeFrame_tradeLockOpen, ho, require_true, positionOf_eq_some.2 hp, spelled_some,
    (within_iff ..).2 ⟨h1, h2⟩, require_true, takeFrame_pos, hb]
  rfl

theorem writeMetrology_accepted (hb : (s.pos p).state.busy = false) :
    exec (.writeMetrology h x w) s =
      .next ({ s with pulseWeights := setAt s.pulseWeights p w.toNat }.answered (.writeMetrology h x w) h 0x35 .ok []) := by
  rw [writeMetrology_station hs]
  refine answer_change (fun s => { s with pulseWeights := setAt s.pulseWeights p w.toNat }) (fun s => rfl) (fun s b => rfl) ?_
  rw [State.writeMetrology, takeFrame_tradeLockOpen, ho, require_true, positionOf_eq_some.2 hp, spelled_some,
    (within_iff ..).2 ⟨h1, h2⟩, require_true, takeFrame_pos, hb]
  rfl

end

theorem exec_readMetrology : exec (.readMetrology h) s = execReadMetrology h s := rfl

theorem readMetrology_shows :
    exec (.readMetrology h) s = .next (s.answered (.readMetrology h) h 0x36 .ok s.metrologyReply) := by
  rw [exec_readMetrology]
  refine answer_acceptWith ?_
  simp only [State.metrologyReply, takeFrame_pulseWeights, takeFrame_metrologyCount, takeFrame_tradeLockOpen]

end

/-- Settles O31: the tests in their order, and the record read back. -/
theorem pricesAndMetrologyAreWrittenAndRead : Obligations.PricesAndMetrologyAreWrittenAndRead := by
  refine ⟨fun h k value s => ?_, fun h x w s => ?_, fun h s => ⟨s.metrologyReply, readMetrology_shows, rfl, fun p => ?_, ?_, ?_⟩⟩
  · refine ⟨setPrice_notPermitted, setPrice_badValue, fun hs h1 h2 => ⟨fun hk => ?_, fun hk => ?_⟩⟩
    · rw [setPrice_accepted hs h1 h2 (classOf_eq (.inl hk)), if_pos hk, priceReply_eq]
      rfl
    · rw [setPrice_accepted hs h1 h2 (classOf_eq (.inr hk)), if_neg (by omega), priceReply_eq]
      rfl
  · exact ⟨writeMetrology_notPermitted, writeMetrology_locked, writeMetrology_badValue, fun hs ho h1 h2 p hp =>
      ⟨writeMetrology_refusedState hs ho h1 h2 hp, writeMetrology_accepted hs ho h1 h2 hp⟩⟩
  · fin_cases p <;> exact extract16_append _
  · exact extract16_append _
  · cases ho : s.tradeLockOpen <;> exact congrArg outBool ho

/-! ### Slots of a table -/

section
variable {α : Type} {n : Nat} {v : Vector (Option α) n} {p : α → Bool} {i : Fin n}

theorem find?_finRange_eq_some {q : Fin n → Bool} : (List.finRange n).find? q = some i ↔ q i = true ∧ ∀ j < i, q j = false := by
  rw [← Fin.find?_eq_find?_finRange]
  exact Fin.find?_eq_some_iff

theorem findSlot_eq_some_iff :
    findSlot v p = some i ↔ (v.get i).any p = true ∧ ∀ j < i, (v.get j).any p = false := find?_finRange_eq_some

/-- The lowest free entry of a table. -/
theorem freeSlot_eq_some (hi : v.get i = none) (hj : ∀ j < i, (v.get j).isSome = true) : freeSlot v = some i := by
  refine find?_finRange_eq_some.2 ⟨by rw [hi]; rfl, fun j h => ?_⟩
  rw [Option.isNone_eq_false_iff]
  exact hj j h

theorem freeSlot_eq_none (h : ∀ i, (v.get i).isSome = true) : freeSlot v = none := by
  refine List.find?_eq_none.2 fun i _ => ?_
  rw [Bool.not_eq_true, Option.isNone_eq_false_iff]
  exact h i

/-- A record that takes the place of the one found is found itself. -/
theorem findSlot_setAt (h : findSlot v p = some i) {a : α} (ha : p a = true) : findSlot (setAt v i (some a)) p = some i := by
  obtain ⟨-, hlow⟩ := findSlot_eq_some_iff.1 h
  refine findSlot_eq_some_iff.2 ⟨by simpa using ha, fun j hj => ?_⟩
  rw [get_setAt_ne _ _ (Fin.ne_of_lt hj)]
  exact hlow j hj

end

/-! ### The status that follows the debt (R25) -/

section
variable {s : State} {n : Nat} {j : Fin 64} {a b : Account}

/-- R25: the status of the account found follows its debt. -/
theorem followDebt_of_slot (hj : s.accountSlot n = some j) (ha : s.accounts.get j = some a) :
    s.followDebt n =
      { s with
        accounts := setAt s.accounts j (some { a with status := statusByDebt a.status a.inDebt })
        pendingFlags := flagsByDebt s.pendingFlags a.status a.inDebt } := by
  have hf : s.account n = some a := (account_of_slot hj).trans ha
  have same : setAt s.accounts j (some a) = s.accounts := by rw [← ha, setAt_get_self]
  rw [State.followDebt, hf]
  dsimp only
  by_cases hover : a.status = .active ∧ a.inDebt = true
  · rw [if_pos hover, modAccount_of_slot hj, statusByDebt, if_pos hover, flagsByDebt, if_pos hover, modAt, ha]
    rfl
  · rw [if_neg hover, statusByDebt, if_neg hover, flagsByDebt, if_neg hover]
    by_cases hback : a.status = .overdrawn ∧ a.inDebt = false
    · rw [if_pos hback, if_pos (by simpa using hback), modAccount_of_slot hj, modAt, ha]
      rfl
    · rw [if_neg hback, if_neg (by simpa using hback)]
      rw [same]

/-- R25: the account found is changed, and its status follows its debt. -/
theorem modAccount_followDebt (hj : s.accountSlot n = some j) (ha : s.accounts.get j = some a) (f : Account → Account)
    (hf : (f a).number = a.number) :
    (s.modAccount n f).followDebt n =
      { s with
        accounts := setAt s.accounts j (some { f a with status := statusByDebt (f a).status (f a).inDebt })
        pendingFlags := flagsByDebt s.pendingFlags (f a).status (f a).inDebt } := by
  have hmod : s.modAccount n f = { s with accounts := setAt s.accounts j (some (f a)) } := by
    rw [modAccount_of_slot hj, modAt, ha]
    rfl
  have hnum := number_of_accountSlot hj ha
  have hslot : State.accountSlot { s with accounts := setAt s.accounts j (some (f a)) } n = some j :=
    findSlot_setAt hj (beq_iff_eq.2 (hf.trans hnum))
  rw [hmod, followDebt_of_slot hslot (get_setAt_self _ _ _)]
  dsimp only
  rw [setAt_setAt]

end

/-! ### CREDIT_ACCOUNT -/

section
variable {h : Header} {number amount : Word32} {s : State} {j : Fin 64} {a : Account}

theorem exec_creditAccount : exec (.creditAccount h number amount) s = execCreditAccount h number amount s := rfl

theorem creditAccount_badValue (h0 : amount.toNat = 0) :
    exec (.creditAccount h number amount) s = .next (s.answered (.creditAccount h number amount) h 0x31 .badValue []) := by
  rw [exec_creditAccount]
  exact answer_refuse (by rw [decide_eq_false (by omega), require_false])

theorem creditAccount_notFound (h0 : amount.toNat ≠ 0) (hn : s.account number.toNat = none) :
    exec (.creditAccount h number amount) s = .next (s.answered (.creditAccount h number amount) h 0x31 .notFound []) := by
  rw [exec_creditAccount]
  refine answer_refuse ?_
  rw [decide_eq_true (by omega), require_true, withAccount_none ((takeFrame_account _).trans hn)]

/-- R34 (1), (2): an account with an amount paid in, its status by its debt. -/
def Account.credited (a : Account) (amount : Nat) : Account :=
  { a with
    money := a.money.pay amount
    status := statusByDebt a.status { a with money := a.money.pay amount }.inDebt }

theorem creditMoney_of_slot (hj : s.accountSlot number.toNat = some j) (ha : s.accounts.get j = some a) (x : Nat) :
    s.creditMoney number.toNat x =
      { s with
        accounts := setAt s.accounts j (some (a.credited x))
        pendingFlags := flagsByDebt s.pendingFlags a.status (a.credited x).inDebt } :=
  modAccount_followDebt hj ha _ rfl

theorem creditReply_of_slot (hj : s.accountSlot number.toNat = some j) (ha : s.accounts.get j = some a) :
    s.creditReply number.toNat = a.money.standing ++ out32 a.available := by
  rw [State.creditReply, account_of_slot hj, ha]
  rfl

theorem creditAccount_accepted (h0 : amount.toNat ≠ 0) (hj : s.accountSlot number.toNat = some j)
    (ha : s.accounts.get j = some a) :
    exec (.creditAccount h number amount) s =
      .next ({ s with
          accounts := setAt s.accounts j (some (a.credited amount.toNat))
          pendingFlags := flagsByDebt s.pendingFlags a.status (a.credited amount.toNat).inDebt }.answered
        (.creditAccount h number amount) h 0x31 .ok
        ((a.money.pay amount.toNat).standing ++ out32 (a.credited amount.toNat).available)) := by
  rw [exec_creditAccount]
  refine answer_change (fun s =>
    { s with
      accounts := setAt s.accounts j (some (a.credited amount.toNat))
      pendingFlags := flagsByDebt s.pendingFlags a.status (a.credited amount.toNat).inDebt })
    (fun s => rfl) (fun s b => rfl) ?_
  have hj' : (s.takeFrame (.creditAccount h number amount)).accountSlot number.toNat = some j := by
    rw [takeFrame_accountSlot, hj]
  have ha' : (s.takeFrame (.creditAccount h number amount)).accounts.get j = some a := by rw [takeFrame_accounts, ha]
  have hnum : a.number = number.toNat := number_of_accountSlot hj ha
  rw [decide_eq_true (by omega), require_true, withAccount_some ((account_of_slot hj').trans ha'),
    creditMoney_of_slot hj' ha']
  refine congrArg (acceptWith _) (creditReply_of_slot (j := j) (a := a.credited amount.toNat) ?_ (get_setAt_self _ _ _))
  exact findSlot_setAt hj' (beq_iff_eq.2 hnum)

end

/-- Settles O27. -/
theorem creditAccountPaysIn : Obligations.CreditAccountPaysIn := by
  intro h number amount s c
  refine ⟨creditAccount_badValue, creditAccount_notFound, fun h0 j a hj ha =>
    ⟨a.credited amount.toNat, (a.money.pay amount.toNat).standing, ?_, rfl, creditAccount_accepted h0 hj ha⟩⟩
  unfold Account.credited
  cases a.money <;> exact ⟨rfl, rfl⟩

/-! ### WRITE_ACCOUNT -/

/-- R32 test 2: the account that good fields spell. -/
def writtenAccount (f : AccountLayout) : AccountWrite :=
  ⟨f.number.toNat, statusGiven f, openingGiven f, f.permission.getLsbD 0, f.permission.getLsbD 1, perFillGiven f, tagGiven f⟩

section
variable {b : Byte}

theorem accountKindOf_eq (h : b.toNat ≤ 1) : accountKindOf b = some (decide (b.toNat = 1)) := yesNoOf_eq h

theorem accountKindOf_le {x : Bool} (h : accountKindOf b = some x) : b.toNat ≤ 1 := yesNoOf_le h

theorem writtenStatusOf_eq (h : b.toNat ≤ 1) :
    writtenStatusOf b = some (if b.toNat = 0 then .active else .blocked) := by
  have h : b = 0 ∨ b = 1 := by bv_omega
  rcases h with rfl | rfl <;> rfl

theorem writtenStatusOf_le {x : AccountStatus} (h : writtenStatusOf b = some x) : b.toNat ≤ 1 := by
  unfold writtenStatusOf at h
  split at h <;> simp_all

end

theorem printable_iff {b : Byte} : printable b = true ↔ 0x20 ≤ b.toNat ∧ b.toNat ≤ 0x7E := by
  simp [printable]

theorem tagBytes_all (t : Vector Byte 8) (p : Byte → Bool) : (tagBytes t).all p = true ↔ ∀ i, p (t.get i) = true := by
  rw [List.all_eq_true]
  constructor
  · exact fun h i => h _ (by simp [tagBytes, Vector.get])
  · intro h x hx
    obtain ⟨i, hi, rfl⟩ := List.getElem_of_mem hx
    have hi' : i < 8 := by simpa [tagBytes] using hi
    simpa [tagBytes, Vector.get] using h ⟨i, hi'⟩

/-- R23: eight spaces are no tag. -/
theorem presentTag_eq (t : Tag) : presentTag t = if t ≠ Vector.replicate 8 0x20 then some t else none := by
  have hs : (tagBytes t).all (fun b => b == 0x20#8) = true ↔ t = Vector.replicate 8 0x20 := by
    rw [tagBytes_all]
    constructor
    · exact fun h => table_ext fun i => by simpa using h i
    · rintro rfl i
      simp
  unfold presentTag
  by_cases h : t = Vector.replicate 8 0x20
  · rw [if_pos (hs.2 h), if_neg (not_not.2 h)]
  · rw [if_neg (mt hs.1 h), if_pos h]

section
variable {f : AccountLayout}

theorem perFillOf_eq (h : f.presence.getLsbD 0 = true → 1 ≤ f.perFillMax.toNat) : perFillOf f = some (perFillGiven f) := by
  unfold perFillOf perFillGiven
  by_cases hp : f.presence.getLsbD 0 = true
  · rw [if_pos hp, if_pos hp, if_pos (h hp)]
  · rw [if_neg hp, if_neg hp]

theorem perFillOf_sound {x : Option Nat} (h : perFillOf f = some x) (hp : f.presence.getLsbD 0 = true) :
    1 ≤ f.perFillMax.toNat := by
  unfold perFillOf at h
  rw [if_pos hp] at h
  by_contra hn
  rw [if_neg hn] at h
  cases h

theorem accountTagOf_eq
    (h : f.presence.getLsbD 1 = true → ∀ i, 0x20 ≤ (f.tag.get i).toNat ∧ (f.tag.get i).toNat ≤ 0x7E) :
    accountTagOf f = some (tagGiven f) := by
  unfold accountTagOf tagGiven
  by_cases hp : f.presence.getLsbD 1 = true
  · rw [if_pos hp, if_pos ((tagBytes_all _ _).2 fun i => printable_iff.2 (h hp i)), presentTag_eq]
    by_cases ht : f.tag ≠ Vector.replicate 8 0x20
    · rw [if_pos ht, if_pos ⟨hp, ht⟩]
    · rw [if_neg ht, if_neg fun hc => ht hc.2]
  · rw [if_neg hp, if_neg fun hc => hp hc.1]

theorem accountTagOf_sound {x : Option Tag} (h : accountTagOf f = some x) (hp : f.presence.getLsbD 1 = true) (i : Fin 8) :
    0x20 ≤ (f.tag.get i).toNat ∧ (f.tag.get i).toNat ≤ 0x7E := by
  unfold accountTagOf at h
  rw [if_pos hp] at h
  by_cases ha : (tagBytes f.tag).all printable = true
  · exact printable_iff.1 ((tagBytes_all _ _).1 ha i)
  · rw [if_neg ha] at h
    cases h

theorem toInt_of_le {x : Word32} (h : x.toNat ≤ 2147483647) : x.toInt = x.toNat := by
  rw [BitVec.toInt_eq_toNat_cond, if_pos (by omega)]

theorem openingMoney_eq (hk : f.kind.toNat ≤ 1) (hm : f.kind.toNat = 0 → f.money.toNat ≤ 2147483647) :
    openingMoney (!decide (f.kind.toNat = 1)) f.money = some (openingGiven f) := by
  unfold openingMoney openingGiven
  by_cases h0 : f.kind.toNat = 0
  · rw [if_pos h0, h0, toInt_of_le (hm h0)]
    simp
  · rw [if_neg h0, show f.kind.toNat = 1 by omega]
    rfl

theorem openingMoney_sound {m : Money} (h : openingMoney true f.money = some m) : f.money.toNat ≤ 2147483647 := by
  have hx : 0 ≤ f.money.toInt := by
    by_contra hn
    simp [openingMoney, hn] at h
  rw [BitVec.toInt_eq_toNat_cond] at hx
  split at hx <;> omega

/-- R32 test 2: fields within their values spell an account. -/
theorem decodeAccount_eq (h : accountInRange f) : decodeAccount f = some (writtenAccount f) := by
  obtain ⟨hn, hk, hs, hp1, hp2, hf, ht, hm⟩ := h
  rw [decodeAccount, accountKindOf_eq hk, writtenStatusOf_eq hs, classesOf_eq hp1 hp2, perFillOf_eq hf, accountTagOf_eq ht]
  dsimp only
  rw [openingMoney_eq hk hm]
  dsimp only
  rw [if_neg hn]
  rfl

theorem accountInRange_of_decode {w : AccountWrite} (h : decodeAccount f = some w) : accountInRange f := by
  unfold decodeAccount at h
  split at h
  · next credit _ classes _ _ hk hs hc hf ht =>
    have hk1 := accountKindOf_le hk
    obtain ⟨h1, h3⟩ := classesOf_le hc
    have hcr : decide (f.kind.toNat = 1) = credit := Option.some.inj ((accountKindOf_eq hk1).symm.trans hk)
    split at h
    · next hm =>
      refine ⟨fun h0 => ?_, hk1, writtenStatusOf_le hs, h1, h3, perFillOf_sound hf, accountTagOf_sound ht, fun h0 => ?_⟩
      · rw [if_pos h0] at h
        cases h
      · rw [← hcr, h0] at hm
        exact openingMoney_sound hm
    · cases h
  · cases h

end

section
variable {h : Header} {f : AccountLayout} {s : State}

theorem exec_writeAccount : exec (.writeAccount h f) s = execWriteAccount h f s := rfl

theorem writeAccount_station (hs : h.sender = 0) :
    exec (.writeAccount h f) s =
      answer (.writeAccount h f) h 0x30 s fun s => spelled (decodeAccount f) s s.writeAccount := by
  rw [exec_writeAccount, execWriteAccount, answer, answer, stationOnly_station hs]

theorem writeAccount_badValue (hs : h.sender = 0) (hf : ¬accountInRange f) :
    exec (.writeAccount h f) s = .next (s.answered (.writeAccount h f) h 0x30 .badValue []) := by
  rw [writeAccount_station hs]
  refine answer_refuse ?_
  cases hd : decodeAccount f with
  | none => rfl
  | some w => exact absurd (accountInRange_of_decode hd) hf

section
variable (hs : h.sender = 0) (hf : accountInRange f)
include hs hf

/-- R32, R33: fields within their values are written. -/
theorem writeAccount_inRange :
    exec (.writeAccount h f) s = answer (.writeAccount h f) h 0x30 s fun s => s.writeAccount (writtenAccount f) := by
  rw [writeAccount_station hs, decodeAccount_eq hf]
  rfl

theorem writeAccount_tableFull (hn : s.account f.number.toNat = none) (hall : ∀ i, (s.accounts.get i).isSome = true) :
    exec (.writeAccount h f) s = .next (s.answered (.writeAccount h f) h 0x30 .tableFull []) := by
  rw [writeAccount_inRange hs hf]
  refine answer_refuse ?_
  have hn' : (s.takeFrame (.writeAccount h f)).account (writtenAccount f).number = none := (takeFrame_account _).trans hn
  rw [State.writeAccount, hn']
  dsimp only
  rw [State.createAccount, takeFrame_accounts, freeSlot_eq_none hall]

theorem writeAccount_created (hn : s.account f.number.toNat = none) {i : Fin 64} (hi : s.accounts.get i = none)
    (hlow : ∀ j, j < i → (s.accounts.get j).isSome = true) :
    exec (.writeAccount h f) s =
      .next ({ s with accounts := setAt s.accounts i (some (writtenAccount f).created) }.answered (.writeAccount h f) h 0x30 .ok
        (writtenAccount f).created.record) := by
  rw [writeAccount_inRange hs hf]
  refine answer_change (fun s => { s with accounts := setAt s.accounts i (some (writtenAccount f).created) }) (fun s => rfl)
    (fun s b => rfl) ?_
  have hn' : (s.takeFrame (.writeAccount h f)).account (writtenAccount f).number = none := (takeFrame_account _).trans hn
  rw [State.writeAccount, hn']
  dsimp only
  rw [State.createAccount, takeFrame_accounts, freeSlot_eq_some hi hlow]

section
variable {j : Fin 64} {a : Account} (hj : s.accountSlot f.number.toNat = some j) (ha : s.accounts.get j = some a)
include hj ha

/-- R33: a number in the table changes the account found. -/
theorem writeAccount_found :
    exec (.writeAccount h f) s = answer (.writeAccount h f) h 0x30 s fun s => s.changeAccount (writtenAccount f) a := by
  have hn' : (s.takeFrame (.writeAccount h f)).account (writtenAccount f).number = some a :=
    (takeFrame_account _).trans ((account_of_slot hj).trans ha)
  rw [writeAccount_inRange hs hf, answer, answer, State.writeAccount, hn']

theorem writeAccount_refusedState (hm : rewriteMoney a.money (openingGiven f) a.held = none) :
    exec (.writeAccount h f) s = .next (s.answered (.writeAccount h f) h 0x30 .refusedState []) := by
  rw [writeAccount_found hs hf hj ha]
  refine answer_refuse ?_
  have hm' : rewriteMoney a.money (writtenAccount f).money a.held = none := hm
  rw [State.changeAccount, hm']

end
end

/-- R25, R33: the account after a write over it. -/
def Account.changed (a : Account) (w : AccountWrite) (m : Money) : Account :=
  { a.rewritten w m with status := statusByDebt (rewriteStatus a.status w.status) (a.rewritten w m).inDebt }

theorem writeAccount_changed (hs : h.sender = 0) (hf : accountInRange f) {j : Fin 64} {a : Account}
    (hj : s.accountSlot f.number.toNat = some j) (ha : s.accounts.get j = some a) {m : Money}
    (hm : rewriteMoney a.money (openingGiven f) a.held = some m) :
    exec (.writeAccount h f) s =
      .next ({ s with
          accounts := setAt s.accounts j (some (a.changed (writtenAccount f) m))
          pendingFlags :=
            flagsByDebt s.pendingFlags (rewriteStatus a.status (statusGiven f)) (a.changed (writtenAccount f) m).inDebt }.answered
        (.writeAccount h f) h 0x30 .ok (a.changed (writtenAccount f) m).record) := by
  rw [writeAccount_found hs hf hj ha]
  refine answer_change (fun s =>
    { s with
      accounts := setAt s.accounts j (some (a.changed (writtenAccount f) m))
      pendingFlags :=
        flagsByDebt s.pendingFlags (rewriteStatus a.status (statusGiven f)) (a.changed (writtenAccount f) m).inDebt })
    (fun s => rfl) (fun s b => rfl) ?_
  have hm' : rewriteMoney a.money (writtenAccount f).money a.held = some m := hm
  have hj' : (s.takeFrame (.writeAccount h f)).accountSlot (writtenAccount f).number = some j :=
    (takeFrame_accountSlot _).trans hj
  have ha' : (s.takeFrame (.writeAccount h f)).accounts.get j = some a := by rw [takeFrame_accounts, ha]
  have hnum : a.number = (writtenAccount f).number := number_of_accountSlot hj ha
  rw [State.changeAccount, hm']
  dsimp only
  rw [modAccount_followDebt hj' ha' (fun a => a.rewritten (writtenAccount f) m) rfl]
  refine congrArg (acceptWith _) ?_
  have hslot : State.accountSlot
      { s.takeFrame (.writeAccount h f) with
        accounts := setAt (s.takeFrame (.writeAccount h f)).accounts j (some (a.changed (writtenAccount f) m)) }
      (writtenAccount f).number = some j := findSlot_setAt hj' (beq_iff_eq.2 hnum)
  have hacc := (account_of_slot hslot).trans (get_setAt_self _ _ _)
  rw [State.accountRecord]
  exact congrArg (fun x => (Option.map Account.record x).getD []) hacc

end

/-- R33 (1), (2): the money that a write over an account gives. -/
theorem rewriteMoney_given (f : AccountLayout) (hk : f.kind.toNat ≤ 1) (a : Account) :
    rewriteMoney a.money (openingGiven f) a.held =
      match a.money with
      | .prepaid balance =>
        if f.kind.toNat = 0 then some (.prepaid balance)
        else if a.held = 0 ∧ balance = 0 then some (.credit f.money.toNat 0) else none
      | .credit _ spent =>
        if f.kind.toNat = 1 then some (.credit f.money.toNat spent)
        else if a.held = 0 ∧ spent = 0 then some (.prepaid f.money.toNat) else none := by
  unfold openingGiven
  by_cases h0 : f.kind.toNat = 0
  · rw [if_pos h0, h0]
    cases a.money <;> rfl
  · have h1 : f.kind.toNat = 1 := by omega
    rw [if_neg h0, h1]
    cases a.money <;> rfl

/-- Settles O26. -/
theorem writeAccountCreatesOrChanges : Obligations.WriteAccountCreatesOrChanges := by
  refine ⟨fun h f s hs => ⟨writeAccount_badValue hs, fun hf hn => ⟨writeAccount_tableFull hs hf hn, fun i hi hlow =>
    ⟨_, rfl, writeAccount_created hs hf hn hi hlow⟩⟩⟩, ?_⟩
  intro h f s j a hs hf hj ha money written
  have hk : f.kind.toNat ≤ 1 := by
    obtain ⟨-, hk, -⟩ := hf
    exact hk
  exact ⟨fun hm => writeAccount_refusedState hs hf hj ha ((rewriteMoney_given f hk a).trans hm), fun m hm =>
    ⟨a.changed (writtenAccount f) m, rfl, writeAccount_changed hs hf hj ha ((rewriteMoney_given f hk a).trans hm)⟩⟩

end Sys2Proof.Machine
end

section
/-! PROOFS. Tickets: opening, the end of the window, settlement. -/

namespace Sys2Proof.Machine

/-! ### OPEN_TICKET -/

section
variable {s : State}

theorem numberHeld_iff (n : Nat) : s.numberHeld n ↔ s.ticketSlot n ≠ none := by
  constructor
  · rintro ⟨i, t, hi, ht⟩ hn
    have := findSlot_none.1 hn i t hi
    simp [ht] at this
  · intro h
    obtain ⟨i, hi⟩ := Option.ne_none_iff_exists'.1 h
    obtain ⟨t, ht, hn⟩ := findSlot_some hi
    exact ⟨i, t, ht, beq_iff_eq.1 hn⟩

/-- R3: the number issued is the first candidate that no ticket holds. -/
theorem nextNumber_first (s : State) :
    ∃ k ≤ 32, s.nextNumber = candidate s.ticketCounter k ∧ ¬s.numberHeld s.nextNumber ∧
      ∀ j < k, s.numberHeld (candidate s.ticketCounter j) := by
  obtain ⟨m, hm, -, hfree⟩ := nextNumber_found (s := s)
  have hf : ((List.range 33).map (candidate s.ticketCounter)).find? (fun n => (s.ticketSlot n).isNone) = some s.nextNumber := by
    cases hf : ((List.range 33).map (candidate s.ticketCounter)).find? fun n => (s.ticketSlot n).isNone with
    | some n => rw [State.nextNumber, hf]; rfl
    | none =>
      obtain ⟨j, hj, hn, hs⟩ := nextNumber_found (s := s)
      rw [hn] at hs
      have := List.find?_eq_none.1 hf (candidate s.ticketCounter j) (List.mem_map.2 ⟨j, List.mem_range.2 hj, rfl⟩)
      simp [hs] at this
  obtain ⟨-, k, hk, hn, hlow⟩ := List.find?_eq_some_iff_getElem.1 hf
  have hk' : k < 33 := by simpa using hk
  refine ⟨k, by omega, ?_, fun hh => (numberHeld_iff _).1 hh hfree, fun j hj => (numberHeld_iff _).2 ?_⟩
  · rw [← hn]
    simp
  · have := hlow j hj
    rw [← Option.isSome_iff_ne_none]
    simpa using this

end

section
variable {h : Header} {x : Byte} {s : State} {p : Fin 4}

theorem exec_openTicket : exec (.openTicket h x) s = execOpenTicket h x s := rfl

theorem openTicket_badValue (hx : 4 ≤ x.toNat) :
    exec (.openTicket h x) s = .next (s.answered (.openTicket h x) h 0x20 .badValue []) := by
  rw [exec_openTicket]
  exact answer_refuse (by rw [positionOf_eq_none.2 hx]; rfl)

theorem openTicket_notPermitted (hx : p.val = x.toNat) (hp : ¬mayActOn s h p) :
    exec (.openTicket h x) s = .next (s.answered (.openTicket h x) h 0x20 .notPermitted []) := by
  have hp' : s.permitted h p = false := by simpa [← permitted_iff] using hp
  rw [exec_openTicket]
  exact answer_refuse (by rw [positionOf_eq_some.2 hx, spelled_some, takeFrame_permitted, hp', require_false])

theorem openTicket_permitted (hx : p.val = x.toNat) (hp : mayActOn s h p) :
    exec (.openTicket h x) s =
      answer (.openTicket h x) h 0x20 s fun s =>
        require s.commissioned .notCommissioned s <| require (s.cfg p).inService .refusedState s <| s.placeTicket h p := by
  rw [exec_openTicket, execOpenTicket, answer, answer, positionOf_eq_some.2 hx, spelled_some, takeFrame_permitted,
    permitted_iff.2 hp, require_true]

theorem openTicket_notCommissioned (hx : p.val = x.toNat) (hp : mayActOn s h p) (hc : s.commissioned = false) :
    exec (.openTicket h x) s = .next (s.answered (.openTicket h x) h 0x20 .notCommissioned []) := by
  rw [openTicket_permitted hx hp]
  exact answer_refuse (by rw [takeFrame_commissioned, hc, require_false])

theorem openTicket_commissioned (hx : p.val = x.toNat) (hp : mayActOn s h p) (hc : s.commissioned = true) :
    exec (.openTicket h x) s =
      answer (.openTicket h x) h 0x20 s fun s => require (s.cfg p).inService .refusedState s <| s.placeTicket h p := by
  rw [openTicket_permitted hx hp, answer, answer, takeFrame_commissioned, hc, require_true]

theorem placement_eq (q : Position) :
    q.placement = if q.staged.isSome = true then none else some (if q.active = none then .active else .staged) := by
  unfold Position.placement
  cases q.active <;> cases q.staged <;> rfl

theorem openTicket_refusedState (hx : p.val = x.toNat) (hp : mayActOn s h p) (hc : s.commissioned = true)
    (hr : (s.cfg p).inService = false ∨ (s.pos p).staged.isSome = true) :
    exec (.openTicket h x) s = .next (s.answered (.openTicket h x) h 0x20 .refusedState []) := by
  rw [openTicket_commissioned hx hp hc]
  refine answer_refuse ?_
  rw [takeFrame_cfg]
  cases hi : (s.cfg p).inService with
  | false => rfl
  | true =>
    have hst : (s.pos p).staged.isSome = true := hr.resolve_left (by simp [hi])
    rw [require_true, State.placeTicket, takeFrame_pos, placement_eq, if_pos hst]

section
variable (hx : p.val = x.toNat) (hp : mayActOn s h p) (hc : s.commissioned = true) (hi : (s.cfg p).inService = true)
  (hst : (s.pos p).staged = none)
include hx hp hc hi hst

/-- R6 tests 5 and 6: with a free slot at the position, the table decides. -/
theorem openTicket_placed :
    exec (.openTicket h x) s =
      answer (.openTicket h x) h 0x20 s fun t =>
        match freeSlot t.tickets with
        | some i =>
          acceptWith (t.openTicket h p (if (s.pos p).active = none then .active else .staged) i) (out16 t.nextNumber)
        | none => refuse t .tableFull := by
  have hpl : (s.pos p).placement = some (if (s.pos p).active = none then .active else .staged) := by
    rw [placement_eq, hst]
    rfl
  rw [openTicket_commissioned hx hp hc, answer, answer, takeFrame_cfg, hi, require_true, State.placeTicket, takeFrame_pos, hpl] <;>
    rfl

theorem openTicket_tableFull (hall : ∀ i, (s.tickets.get i).isSome = true) :
    exec (.openTicket h x) s = .next (s.answered (.openTicket h x) h 0x20 .tableFull []) := by
  rw [openTicket_placed hx hp hc hi hst]
  exact answer_refuse (by rw [takeFrame_tickets, freeSlot_eq_none hall])

theorem openTicket_accepted {i : Fin 32} (hf : s.tickets.get i = none) (hlow : ∀ j, j < i → (s.tickets.get j).isSome = true) :
    exec (.openTicket h x) s =
      .next ({ s with
          tickets := setAt s.tickets i (some
            (.opening s.nextNumber p (if (s.pos p).active = none then .active else .staged) h (s.cfg p).nozzleClass))
          ticketCounter := s.nextNumber
          positions := setAt s.positions p
            (if (s.pos p).active = none then { s.pos p with active := some s.nextNumber }
             else { s.pos p with staged := some s.nextNumber }) }.answered (.openTicket h x) h 0x20 .ok
        (out16 s.nextNumber)) := by
  rw [openTicket_placed hx hp hc hi hst]
  refine answer_change (fun t =>
    { t with
      tickets := setAt s.tickets i (some
        (.opening s.nextNumber p (if (s.pos p).active = none then .active else .staged) h (s.cfg p).nozzleClass))
      ticketCounter := s.nextNumber
      positions := setAt s.positions p
        (if (s.pos p).active = none then { s.pos p with active := some s.nextNumber }
         else { s.pos p with staged := some s.nextNumber }) })
    (fun s => rfl) (fun s b => rfl) ?_
  have hn : (s.takeFrame (.openTicket h x)).nextNumber = s.nextNumber := by
    simp [State.nextNumber]
  rw [takeFrame_tickets, freeSlot_eq_some hf hlow]
  dsimp only
  have hq : (s.positions.get p).attach (if (s.pos p).active = none then .active else .staged) s.nextNumber =
      if (s.pos p).active = none then { s.pos p with active := some s.nextNumber }
      else { s.pos p with staged := some s.nextNumber } := by
    split <;> rfl
  rw [State.openTicket, hn, State.modPos, modAt]
  simp only [takeFrame_tickets, takeFrame_positions, takeFrame_cfg, hq]

end
end

/-- Settles O19. -/
theorem openTicketCreatesATicket : Obligations.OpenTicketCreatesATicket := by
  refine fun h x s => ⟨openTicket_badValue, fun p hx => ⟨openTicket_notPermitted hx, openTicket_notCommissioned hx,
    openTicket_refusedState hx, openTicket_tableFull hx, fun hp hc hi hst i hf hlow => ?_⟩⟩
  obtain ⟨k, hk, hn, hfree, hheld⟩ := nextNumber_first s
  exact ⟨s.nextNumber, k, hk, hn, hfree, hheld, openTicket_accepted hx hp hc hi hst hf hlow⟩

/-! ### SETTLE_TICKET -/

section
variable {s : State} {k : Ticket}

theorem settleMoney_unfunded (ha : k.account = none) : s.settleMoney k = s := by
  rw [State.settleMoney, ha]

/-- R31: an account from which a ticket is settled. -/
def Account.settled (a : Account) (k : Ticket) : Account :=
  let paid := { a with held := a.held - k.hold.getD 0, money := a.money.charge k.amount }
  { paid with status := statusByDebt a.status paid.inDebt }

theorem settleMoney_funded {m : Nat} {j : Fin 64} {a : Account} (hm : k.account = some m) (hj : s.accountSlot m = some j)
    (ha : s.accounts.get j = some a) :
    s.settleMoney k =
      { s with
        accounts := setAt s.accounts j (some (a.settled k))
        pendingFlags := flagsByDebt s.pendingFlags a.status (a.settled k).inDebt } := by
  have hr : s.releaseHoldOn m (k.hold.getD 0) =
      { s with accounts := setAt s.accounts j (some { a with held := a.held - k.hold.getD 0 }) } := by
    rw [State.releaseHoldOn, modAccount_of_slot hj, modAt, ha]
    rfl
  have hnum : a.number = m := number_of_accountSlot hj ha
  have hslot : State.accountSlot
      { s with accounts := setAt s.accounts j (some { a with held := a.held - k.hold.getD 0 }) } m = some j :=
    findSlot_setAt hj (beq_iff_eq.2 hnum)
  rw [State.settleMoney, hm]
  dsimp only
  rw [hr, modAccount_followDebt hslot (get_setAt_self _ _ _) (fun a => { a with money := a.money.charge k.amount }) rfl]
  dsimp only
  rw [setAt_setAt]
  rfl

/-- R15, R31: the settlement of money touches the accounts and a flag, so the ticket is found where it was. -/
theorem settleTicket_of_money {i : Fin 32} {accounts : Vector (Option Account) 64} {flags : BitVec 27}
    (hi : s.ticketSlot k.number = some i) (hm : s.settleMoney k = { s with accounts := accounts, pendingFlags := flags }) :
    s.settleTicket k =
      { s with
        accounts := accounts
        pendingFlags := flags
        tickets := setAt s.tickets i none
        positions :=
          if k.attachment = .active then setAt s.positions k.position { s.pos k.position with active := none }
          else s.positions } := by
  have hr : (s.settleMoney k).retireTicket k.number =
      { s with accounts := accounts, pendingFlags := flags, tickets := setAt s.tickets i none } := by
    rw [hm]
    exact retireTicket_of_slot hi
  rw [State.settleTicket, hr]
  split <;> rfl

end

section
variable {h : Header} {n : Word16} {s : State} {k : Ticket}

theorem exec_settleTicket : exec (.settleTicket h n) s = execSettleTicket h n s := rfl

theorem settleTicket_notFound (hn : s.ticket n.toNat = none) :
    exec (.settleTicket h n) s = .next (s.answered (.settleTicket h n) h 0x23 .notFound []) := by
  rw [exec_settleTicket]
  exact answer_refuse (withTicket_none ((takeFrame_ticket _).trans hn) _)

theorem settleTicket_notPermitted (hn : s.ticket n.toNat = some k) (hp : ¬mayActOn s h k.position) :
    exec (.settleTicket h n) s = .next (s.answered (.settleTicket h n) h 0x23 .notPermitted []) := by
  rw [exec_settleTicket]
  have hp' : s.permitted h k.position = false := by simpa [← permitted_iff] using hp
  exact answer_refuse
    (withTicket_notPermitted ((takeFrame_ticket _).trans hn) ((takeFrame_permitted _ _ _).trans hp') _)

theorem settleTicket_permitted (hn : s.ticket n.toNat = some k) (hp : mayActOn s h k.position) :
    exec (.settleTicket h n) s =
      answer (.settleTicket h n) h 0x23 s fun s => require (k.state == .ended) .refusedState s (accept (s.settleTicket k)) := by
  rw [exec_settleTicket, execSettleTicket, answer, answer,
    withTicket_permitted ((takeFrame_ticket _).trans hn) ((takeFrame_permitted _ _ _).trans (permitted_iff.2 hp))]

theorem settleTicket_refusedState (hn : s.ticket n.toNat = some k) (hp : mayActOn s h k.position) (hk : k.state ≠ .ended) :
    exec (.settleTicket h n) s = .next (s.answered (.settleTicket h n) h 0x23 .refusedState []) := by
  rw [settleTicket_permitted hn hp]
  exact answer_refuse (by rw [beq_false_of_ne hk, require_false])

/-- R15: an accepted settlement, by what it does to the money. -/
theorem settleTicket_accepted {i : Fin 32} (hi : s.ticketSlot n.toNat = some i) (hg : s.tickets.get i = some k)
    (hp : mayActOn s h k.position) (hk : k.state = .ended) {accounts : Vector (Option Account) 64} {flags : BitVec 27}
    (hm : (s.takeFrame (.settleTicket h n)).settleMoney k =
      { s.takeFrame (.settleTicket h n) with accounts := accounts, pendingFlags := flags }) :
    exec (.settleTicket h n) s =
      .next ({ s with
          tickets := setAt s.tickets i none
          positions :=
            if k.attachment = Attachment.active then setAt s.positions k.position { s.pos k.position with active := none }
            else s.positions
          accounts := accounts
          pendingFlags := flags }.answered (.settleTicket h n) h 0x23 .ok []) := by
  rw [settleTicket_permitted ((ticket_of_slot hi).trans hg) hp]
  refine answer_change (fun t =>
    { t with
      tickets := setAt s.tickets i none
      positions :=
        if k.attachment = Attachment.active then setAt s.positions k.position { s.pos k.position with active := none }
        else s.positions
      accounts := accounts
      pendingFlags := flags })
    (fun s => rfl) (fun s b => rfl) ?_
  have hi' : (s.takeFrame (.settleTicket h n)).ticketSlot k.number = some i := by
    rw [takeFrame_ticketSlot, number_of_slot hi hg, hi]
  rw [hk, beq_self_eq_true, require_true, settleTicket_of_money hi' hm]
  simp only [takeFrame_tickets, takeFrame_positions, takeFrame_pos]
  rfl

end

/-- Settles O24. -/
theorem settleTicketChargesAndRetires : Obligations.SettleTicketChargesAndRetires := by
  intro h n s c
  refine ⟨settleTicket_notFound, fun i k hi hk => ?_⟩
  have hn : s.ticket n.toNat = some k := (ticket_of_slot hi).trans hk
  refine ⟨settleTicket_notPermitted hn, settleTicket_refusedState hn, fun hp hst ha => ?_, fun hp hst m j a hm hj ha => ?_⟩
  · have hmoney : (s.takeFrame c).settleMoney k = { s.takeFrame c with accounts := s.accounts, pendingFlags := s.pendingFlags } := by
      rw [settleMoney_unfunded ha, takeFrame_eq]
    exact settleTicket_accepted hi hk hp hst hmoney
  · have hmoney := settleMoney_funded (s := s.takeFrame c) hm ((takeFrame_accountSlot c).trans hj) (by rw [takeFrame_accounts, ha])
    rw [takeFrame_accounts, takeFrame_pendingFlags] at hmoney
    refine ⟨a.settled k, _, settleTicket_accepted hi hk hp hst hmoney, rfl, ?_, rfl, rfl⟩
    unfold Account.settled
    cases a.money <;> rfl

/-! ### The end of a window -/

section
variable {s : State}

theorem modTicket_of_slot {n : Nat} {i : Fin 32} {k : Ticket} (hi : s.ticketSlot n = some i) (hk : s.tickets.get i = some k)
    (f : Ticket → Ticket) : s.modTicket n f = { s with tickets := setAt s.tickets i (some (f k)) } := by
  rw [State.modTicket, hi]
  dsimp only
  rw [modAt, hk]
  rfl

theorem promote_empty {p : Fin 4} (h : (s.pos p).staged = none) :
    s.promote p = { s with positions := setAt s.positions p { s.pos p with active := none } } := by
  rw [State.promote, h]
  dsimp only
  rw [State.modPos, modAt]
  have hq : { s.positions.get p with active := none, staged := none } = { s.pos p with active := none } := by
    rw [← h]
    rfl
  rw [hq]

theorem promote_staged {p : Fin 4} {n : Nat} {i : Fin 32} {k : Ticket} (h : (s.pos p).staged = some n)
    (hi : s.ticketSlot n = some i) (hk : s.tickets.get i = some k) :
    s.promote p =
      { s with
        positions := setAt s.positions p { s.pos p with active := some n, staged := none }
        tickets := setAt s.tickets i (some
          { k with
            attachment := .active
            window := if k.state = .authorized then some (s.site.authWindow * 1000) else none }) } := by
  rw [State.promote, h]
  exact modTicket_of_slot (s := s.modPos p fun q => { q with active := some n, staged := none }) hi hk _

theorem expireWindow_of_slot {n : Nat} {i : Fin 32} {k : Ticket} (hi : s.ticketSlot n = some i) (hk : s.tickets.get i = some k) :
    s.expireWindow n =
      ((({ s with tickets := setAt s.tickets i (some (k.endUnused .authExpired s.clock)) }).promote k.position).raise
        (.authExpired k.position)).startTest k.position := by
  rw [State.expireWindow, ticket_of_slot hi, hk]
  dsimp only
  rw [modTicket_of_slot hi hk]

end

/-- Settles O22. -/
theorem windowExpiryEndsTheTicketAndPromotes : Obligations.WindowExpiryEndsTheTicketAndPromotes := by
  refine ⟨fun n s d i k hd hi hk => ?_, fun p s => ⟨promote_empty, fun n i k => promote_staged⟩⟩
  have hx : exec (.authWindowExpiry n) s = .next ((s.elapse d).expireWindow n.toNat) := by
    rw [exec_expiry _ s rfl]
    exact congrArg (fun left => Host.Outcome.next (expire left s (expiryEvent (.authWindowExpiry n)))) hd
  rw [hx, expireWindow_of_slot hi hk]
  rfl

end Sys2Proof.Machine
end

section
/-! PROOFS. Reading and listing tickets; numbers of bits. -/

namespace Sys2Proof.Machine

/-! ### Numbers of bits -/

/-- 12.6: the bits of a number that is made of bits. -/
theorem testBit_bitNumber (bits : List Bool) : ∀ i, (bitNumber bits).testBit i = bits.getD i false := by
  induction bits with
  | nil => exact fun i => Nat.zero_testBit i
  | cons b rest ih =>
    intro i
    have hc : bitNumber (b :: rest) = b.toNat + 2 * bitNumber rest := rfl
    cases i with
    | zero =>
      rw [hc, List.getD_cons_zero, Nat.testBit_zero]
      cases b <;> simp [Nat.add_mod]
    | succ i =>
      have hd : (b.toNat + 2 * bitNumber rest) / 2 = bitNumber rest := by
        cases b <;> simp
        omega
      rw [List.getD_cons_succ, Nat.testBit_add_one, hc, hd, ih]

/-- 12.6: a number in three bytes, most significant byte first. -/
theorem getLsbD_threeBytes (x i : Nat) (h : i < 24) :
    (out8 (x / 65536) ++ BitVec.ofNat 16 x).getLsbD i = x.testBit i := by
  have ha : (out8 (x / 65536) ++ BitVec.ofNat 16 x).getLsbD i =
      if i < 16 then (BitVec.ofNat 16 x).getLsbD i else (out8 (x / 65536)).getLsbD (i - 16) := BitVec.getLsbD_append
  rw [ha]
  split
  · next hi => rw [BitVec.getLsbD_ofNat, decide_eq_true hi, Bool.true_and]
  · next hi =>
    have hdiv : (x / 65536).testBit (i - 16) = x.testBit i := by
      rw [show (65536 : Nat) = 2 ^ 16 by rfl, Nat.testBit_div_two_pow]
      congr 1
      omega
    rw [out8, BitVec.getLsbD_ofNat, decide_eq_true (by omega), Bool.true_and, hdiv]

/-! ### The ticket record (12.6.4) -/

/-- 12.6.4: bytes 40 to 75 of a ticket record, after the tag. -/
def Ticket.recordBody (t : Ticket) : List Byte :=
  out16 (t.metrologyCount.getD 0) ++
  [out8 ((t.profile.map Fin.val).getD 0), out8 ((t.grade.map Grade.code).getD 0),
   out8 ((t.commMode.map CommMode.code).getD 0), out8 ((t.endReason.map EndReason.code).getD 0)] ++
  out32 t.mass ++ out32 t.grams ++ out32 t.amount ++ out16 (t.pInit.getD 0) ++ out16 (t.finalPressure.getD 0) ++
  out16 (t.lastSoc.getD 0) ++ out16 (t.peakTGas.getD 0) ++ bytes32 (t.startTime.getD 0) ++
  bytes32 (t.endTime.getD 0) ++ out16 t.holdUsed

section
variable (k : Ticket)

theorem ticketRecord_eq : k.record = k.recordHead ++ (outTag k.expectedTag ++ k.recordBody) := by
  simp only [Ticket.record, Ticket.recordTail, Ticket.recordBody, List.append_assoc]

theorem recordHead_length : k.recordHead.length = 32 := rfl

theorem recordBody_length : k.recordBody.length = 36 := rfl

theorem ticketRecord_length : k.record.length = 76 := by
  rw [ticketRecord_eq, List.length_append, List.length_append, recordHead_length, length_outTag, recordBody_length]

theorem ticketRecord_head {i : Nat} (h : i < 32) : u8 k.record i = u8 k.recordHead i := by
  rw [ticketRecord_eq, u8_append_left (by rw [recordHead_length]; exact h)]

theorem ticketRecord_body (i : Nat) : u8 k.record (40 + i) = u8 k.recordBody i := by
  rw [ticketRecord_eq, u8_append_right (by rw [recordHead_length]; omega), u8_append_right (by
    rw [recordHead_length, length_outTag]
    omega), recordHead_length, length_outTag]
  congr 1
  omega

theorem ticketRecord_u16 (i : Nat) : u16 k.record (40 + i) = u16 k.recordBody i := by
  rw [u16, u16, Nat.add_assoc, ticketRecord_body, ticketRecord_body]

theorem ticketRecord_u32 (i : Nat) : u32 k.record (40 + i) = u32 k.recordBody i := by
  rw [u32, u32, Nat.add_assoc, ticketRecord_u16, ticketRecord_u16]

theorem ticketRecord_head_u16 {i : Nat} (h : i < 31) : u16 k.record i = u16 k.recordHead i := by
  rw [u16, u16, ticketRecord_head k (by omega), ticketRecord_head k (by omega)]

theorem ticketRecord_head_u32 {i : Nat} (h : i < 29) : u32 k.record i = u32 k.recordHead i := by
  rw [u32, u32, ticketRecord_head_u16 k (by omega), ticketRecord_head_u16 k (by omega)]

theorem ticketRecord_tag : tagAt k.record 32 = k.expectedTag.getD (Vector.replicate 8 0) := by
  rw [ticketRecord_eq, tagAt_append_right (by rw [recordHead_length]), recordHead_length,
    tagAt_append_left (by rw [length_outTag]), tagAt_outTag]

/-- 12.6: a payload is read byte by byte. -/
theorem recordHead_presence : u16 k.recordHead 10 = BitVec.ofNat 16 k.presence := by
  unfold Ticket.recordHead
  simp only [out16, out32, bytes16, bytes32, u16, u8, List.cons_append, List.nil_append, List.getD_cons_succ,
    List.getD_cons_zero, extract16_append]

theorem recordHead_money :
    u32 k.recordHead 12 = BitVec.ofNat 32 (k.account.getD 0) ∧ u32 k.recordHead 16 = BitVec.ofNat 32 (k.presetMass.getD 0) ∧
    u32 k.recordHead 20 = BitVec.ofNat 32 (k.presetAmount.getD 0) ∧ u32 k.recordHead 24 = BitVec.ofNat 32 (k.hold.getD 0) ∧
    u32 k.recordHead 28 = BitVec.ofNat 32 (k.price.getD 0) := by
  unfold Ticket.recordHead
  simp only [out16, out32, bytes16, bytes32, u16, u32, u8, List.cons_append, List.nil_append, List.getD_cons_succ,
    List.getD_cons_zero, extract16_append, extract32_append, and_self]

theorem recordBody_result :
    u32 k.recordBody 6 = BitVec.ofNat 32 k.mass ∧ u32 k.recordBody 10 = BitVec.ofNat 32 (k.mass / 1000) ∧
    u32 k.recordBody 14 = BitVec.ofNat 32 k.amount ∧ u16 k.recordBody 18 = BitVec.ofNat 16 (k.pInit.getD 0) ∧
    u16 k.recordBody 20 = BitVec.ofNat 16 (k.finalPressure.getD 0) ∧
    u16 k.recordBody 22 = BitVec.ofNat 16 (k.lastSoc.getD 0) ∧ u16 k.recordBody 24 = BitVec.ofNat 16 (k.peakTGas.getD 0) ∧
    u32 k.recordBody 26 = k.startTime.getD 0 ∧ u32 k.recordBody 30 = k.endTime.getD 0 ∧
    u16 k.recordBody 34 = BitVec.ofNat 16 k.holdUsed := by
  unfold Ticket.recordBody Ticket.grams
  simp only [out16, out32, bytes16, bytes32, u16, u32, u8, List.cons_append, List.nil_append, List.getD_cons_succ,
    List.getD_cons_zero, extract16_append, extract32_append, and_self]

theorem ticketRecord_presence {i : Nat} (h : i < 18) :
    (u8 k.record 9 ++ u16 k.record 10).getLsbD i =
      [k.authorizer.isSome, k.account.isSome, k.presetMass.isSome, k.presetAmount.isSome, k.hold.isSome,
       k.price.isSome, k.expectedTag.isSome, k.metrologyCount.isSome, k.profile.isSome, k.grade.isSome,
       k.commMode.isSome, k.pInit.isSome, k.finalPressure.isSome, k.lastSoc.isSome, k.peakTGas.isSome,
       k.startTime.isSome, k.endTime.isSome, k.endReason.isSome].getD i false := by
  have h9 : u8 k.record 9 = out8 (k.presence / 65536) := ticketRecord_head k (by omega)
  have h10 : u16 k.record 10 = BitVec.ofNat 16 k.presence := (ticketRecord_head_u16 k (by omega)).trans (recordHead_presence k)
  rw [h9, h10, getLsbD_threeBytes _ _ (by omega)]
  exact testBit_bitNumber _ i

/-- 12.6.4: the places of the fields in a ticket record. -/
theorem ticketRecord_fields :
    u16 k.record 0 = BitVec.ofNat 16 k.number ∧ u8 k.record 2 = BitVec.ofNat 8 k.state.code ∧
    u8 k.record 3 = BitVec.ofNat 8 k.position.val ∧ u8 k.record 4 = BitVec.ofNat 8 k.attachment.code ∧
    u8 k.record 5 = BitVec.ofNat 8 k.opener.val ∧ u8 k.record 6 = BitVec.ofNat 8 k.nozzleClass.code ∧
    u8 k.record 7 = (if k.authorizer = some .supervised then 1 else 0) ∧
    u8 k.record 8 = (if k.reduced then 1 else 0) := by
  refine ⟨(ticketRecord_head_u16 k (by omega)).trans (bytes16_read _), ticketRecord_head k (by omega),
    ticketRecord_head k (by omega), ticketRecord_head k (by omega), ticketRecord_head k (by omega),
    ticketRecord_head k (by omega), (ticketRecord_head k (by omega)).trans ?_, (ticketRecord_head k (by omega)).trans ?_⟩
  · have h : u8 k.recordHead 7 = out8 ((k.authorizer.map AuthMode.code).getD 0) := rfl
    rw [h]
    cases k.authorizer with
    | none => rfl
    | some m => cases m <;> rfl
  · have h : u8 k.recordHead 8 = outBool k.reduced := rfl
    rw [h]
    cases k.reduced <;> rfl

theorem ticketRecord_money :
    u32 k.record 12 = BitVec.ofNat 32 (k.account.getD 0) ∧ u32 k.record 16 = BitVec.ofNat 32 (k.presetMass.getD 0) ∧
    u32 k.record 20 = BitVec.ofNat 32 (k.presetAmount.getD 0) ∧ u32 k.record 24 = BitVec.ofNat 32 (k.hold.getD 0) ∧
    u32 k.record 28 = BitVec.ofNat 32 (k.price.getD 0) := by
  rw [ticketRecord_head_u32 k (by omega), ticketRecord_head_u32 k (by omega), ticketRecord_head_u32 k (by omega),
    ticketRecord_head_u32 k (by omega), ticketRecord_head_u32 k (by omega)]
  exact recordHead_money k

theorem ticketRecord_terms :
    u16 k.record 40 = BitVec.ofNat 16 (k.metrologyCount.getD 0) ∧
    u8 k.record 42 = BitVec.ofNat 8 ((k.profile.map Fin.val).getD 0) ∧
    u8 k.record 43 = BitVec.ofNat 8 ((k.grade.map Grade.code).getD 0) ∧
    u8 k.record 44 = (if k.commMode = some .noncomm then 1 else 0) ∧
    u8 k.record 45 = BitVec.ofNat 8 ((k.endReason.map EndReason.code).getD 0) := by
  refine ⟨(ticketRecord_u16 k 0).trans (bytes16_read _), ticketRecord_body k 2, ticketRecord_body k 3,
    (ticketRecord_body k 4).trans ?_, ticketRecord_body k 5⟩
  have h : u8 k.recordBody 4 = out8 ((k.commMode.map CommMode.code).getD 0) := rfl
  rw [h]
  cases k.commMode with
  | none => rfl
  | some m => cases m <;> rfl

theorem ticketRecord_result :
    u32 k.record 46 = BitVec.ofNat 32 k.mass ∧ u32 k.record 50 = BitVec.ofNat 32 (k.mass / 1000) ∧
    u32 k.record 54 = BitVec.ofNat 32 k.amount ∧ u16 k.record 58 = BitVec.ofNat 16 (k.pInit.getD 0) ∧
    u16 k.record 60 = BitVec.ofNat 16 (k.finalPressure.getD 0) ∧
    u16 k.record 62 = BitVec.ofNat 16 (k.lastSoc.getD 0) ∧ u16 k.record 64 = BitVec.ofNat 16 (k.peakTGas.getD 0) ∧
    u32 k.record 66 = k.startTime.getD 0 ∧ u32 k.record 70 = k.endTime.getD 0 ∧
    u16 k.record 74 = BitVec.ofNat 16 k.holdUsed := by
  obtain ⟨h6, h10, h14, h18, h20, h22, h24, h26, h30, h34⟩ := recordBody_result k
  exact ⟨(ticketRecord_u32 k 6).trans h6, (ticketRecord_u32 k 10).trans h10, (ticketRecord_u32 k 14).trans h14,
    (ticketRecord_u16 k 18).trans h18, (ticketRecord_u16 k 20).trans h20, (ticketRecord_u16 k 22).trans h22,
    (ticketRecord_u16 k 24).trans h24, (ticketRecord_u32 k 26).trans h26, (ticketRecord_u32 k 30).trans h30,
    (ticketRecord_u16 k 34).trans h34⟩

end

/-! ### READ_TICKET and LIST_TICKETS -/

section
variable {h : Header} {n : Word16} {s : State} {k : Ticket}

theorem exec_readTicket : exec (.readTicket h n) s = execReadTicket h n s := rfl

theorem readTicket_notFound (hn : s.ticket n.toNat = none) :
    exec (.readTicket h n) s = .next (s.answered (.readTicket h n) h 0x24 .notFound []) := by
  rw [exec_readTicket]
  exact answer_refuse (withTicket_none ((takeFrame_ticket _).trans hn) _)

theorem readTicket_notPermitted (hn : s.ticket n.toNat = some k) (hp : ¬mayActOn s h k.position) :
    exec (.readTicket h n) s = .next (s.answered (.readTicket h n) h 0x24 .notPermitted []) := by
  rw [exec_readTicket]
  have hp' : s.permitted h k.position = false := by simpa [← permitted_iff] using hp
  exact answer_refuse
    (withTicket_notPermitted ((takeFrame_ticket _).trans hn) ((takeFrame_permitted _ _ _).trans hp') _)

theorem readTicket_shows (hn : s.ticket n.toNat = some k) (hp : mayActOn s h k.position) :
    exec (.readTicket h n) s = .next (s.answered (.readTicket h n) h 0x24 .ok k.record) := by
  rw [exec_readTicket]
  exact answer_acceptWith
    (withTicket_permitted ((takeFrame_ticket _).trans hn) ((takeFrame_permitted _ _ _).trans (permitted_iff.2 hp)) _)

end

/-- Entries that a table selects, with what they give. -/
theorem filterMap_eq_map_filter {α β : Type} {f : α → Option β} {p : α → Bool} {q : α → β}
    (h : ∀ a, f a = if p a then some (q a) else none) (l : List α) : l.filterMap f = (l.filter p).map q := by
  induction l with
  | nil => rfl
  | cons a l ih =>
    rw [List.filterMap_cons, List.filter_cons, h]
    cases p a
    · exact ih
    · exact congrArg (q a :: ·) ih

section
variable (h : Header) (filter : Byte) (s : State)

theorem exec_listTickets : exec (.listTickets h filter) s = execListTickets h filter s := rfl

theorem listTickets_shows :
    exec (.listTickets h filter) s =
      .next (s.answered (.listTickets h filter) h 0x25 .ok
        (out8 (s.listNumbers h filter).length :: (s.listNumbers h filter).flatMap out16)) := by
  rw [exec_listTickets]
  refine answer_acceptWith ?_
  have hl : (s.takeFrame (.listTickets h filter)).listNumbers h filter = s.listNumbers h filter := by
    simp only [State.listNumbers, takeFrame_tickets, takeFrame_permitted]
  dsimp only
  rw [hl]

/-- R18: whether the list shows the ticket in a slot. -/
def State.listed (i : Fin 32) : Bool :=
  (s.tickets.get i).any fun t => inFilter filter t.state && s.permitted h t.position

theorem listNumbers_eq :
    s.listNumbers h filter =
      ((List.finRange 32).filter (s.listed h filter)).map fun i => ((s.tickets.get i).map Ticket.number).getD 0 := by
  refine filterMap_eq_map_filter (fun i => ?_) _
  unfold State.listed
  cases s.tickets.get i <;> rfl

/-- 12.6.3: a ticket state is in the filter when its bit is set, or when no bit of the four is. -/
theorem inFilter_iff (x : TicketState) :
    inFilter filter x = true ↔ (∀ b < 4, filter.getLsbD b = false) ∨ filter.getLsbD x.code = true := by
  have hz : (filter.extractLsb' 0 4 == 0) = true ↔ ∀ b < 4, filter.getLsbD b = false := by
    rw [beq_iff_eq]
    constructor
    · intro he b hb
      have := congrArg (fun v : BitVec 4 => v.getLsbD b) he
      simpa [BitVec.getLsbD_extractLsb', hb] using this
    · intro hb
      refine BitVec.eq_of_getLsbD_eq fun i hi => ?_
      rw [BitVec.getLsbD_extractLsb', Nat.zero_add, hb i hi]
      simp
  unfold inFilter
  rw [Bool.or_eq_true, hz]

theorem listed_iff (i : Fin 32) :
    s.listed h filter i = true ↔ ∃ k, s.tickets.get i = some k ∧ mayActOn s h k.position ∧
      ((∀ b < 4, filter.getLsbD b = false) ∨ filter.getLsbD k.state.code = true) := by
  unfold State.listed
  rw [Option.any_eq_true]
  refine exists_congr fun k => and_congr_right fun _ => ?_
  rw [Bool.and_eq_true, inFilter_iff, permitted_iff]
  exact and_comm

end

/-- Settles O25. -/
theorem ticketsAreReadAndListed : Obligations.TicketsAreReadAndListed := by
  refine ⟨⟨fun h n s => ⟨readTicket_notFound, fun k hn => ⟨readTicket_notPermitted hn, fun hp =>
    ⟨readTicket_shows hn hp, ticketRecord_length k⟩⟩⟩, fun h filter s => ?_⟩, fun k => ?_⟩
  · refine ⟨s.listNumbers h filter, listTickets_shows h filter s, ?_, (List.finRange 32).filter (s.listed h filter), ?_,
      (listNumbers_eq h filter s).symm, fun i => ?_⟩
    · exact (List.length_filterMap_le _ _).trans (by simp)
    · exact (List.pairwise_lt_finRange 32).filter _
    · rw [List.mem_filter, listed_iff]
      simp
  · obtain ⟨h0, h2, h3, h4, h5, h6, h7, h8⟩ := ticketRecord_fields k
    obtain ⟨h12, h16, h20, h24, h28⟩ := ticketRecord_money k
    obtain ⟨h40, h42, h43, h44, h45⟩ := ticketRecord_terms k
    exact ⟨h0, h2, h3, h4, h5, h6, h7, h8, fun i hi => ticketRecord_presence k hi, h12, h16, h20, h24, h28,
      ticketRecord_tag k, h40, h42, h43, h44, h45, ticketRecord_result k⟩

end Sys2Proof.Machine
end

section
/-! PROOFS. The compressor: the choice of a bank as the rules word it, the queue, and the requests and timers of the refill. -/

namespace Sys2Proof.Machine

variable {s t : State} {leave : Option (Fin 6)} {b : Fin 6}

/-! ### The choice of a bank -/

theorem drawEmpty_iff : s.drawEmpty b = true ↔ ∀ p, (s.pos p).drawBank ≠ some b := by
  simp only [State.drawEmpty, allPositions, State.inDrawSet, List.all_cons, List.all_nil, Bool.and_eq_true, Bool.not_eq_true',
    beq_eq_false_iff_ne]
  constructor
  · rintro ⟨h0, h1, h2, h3, -⟩ p
    match p with
    | 0 => exact h0
    | 1 => exact h1
    | 2 => exact h2
    | 3 => exact h3
  · intro h
    exact ⟨h 0, h 1, h 2, h 3, trivial⟩

/-- R139: a bank in the queue is QUEUED unless it is ACTIVE. -/
theorem queued_iff (h : b ∈ s.compressor.queue) : (s.refillStatus b == .queued) = true ↔ s.compressor.activeBank ≠ some b := by
  unfold State.refillStatus
  by_cases ha : s.compressor.activeBank = some b <;> simp [ha, h]

theorem mayRefill_iff (h : b ∈ s.compressor.queue) :
    (s.refillStatus b == .queued && s.drawEmpty b && leave != some b) = true ↔ mayRefill s leave b := by
  rw [Bool.and_eq_true, Bool.and_eq_true, queued_iff h, drawEmpty_iff, bne_iff_ne, and_assoc]
  rfl

theorem choosable_eq_none : s.choosable leave = none ↔ refillChoice s leave none := by
  rw [State.choosable, List.find?_eq_none]
  exact forall₂_congr fun x hx => not_congr (mayRefill_iff hx)

theorem choosable_eq_some : s.choosable leave = some b ↔ refillChoice s leave (some b) := by
  rw [State.choosable, List.find?_eq_some_iff_append]
  constructor
  · rintro ⟨hb, before, after, hq, hn⟩
    refine ⟨before, after, hq, (mayRefill_iff (by simp [hq])).1 hb, fun x hx => ?_⟩
    have h := hn x hx
    rwa [Bool.not_eq_true', ← Bool.not_eq_true, mayRefill_iff (by simp [hq, hx])] at h
  · rintro ⟨before, after, hq, hb, hn⟩
    refine ⟨(mayRefill_iff (by simp [hq])).2 hb, before, after, hq, fun x hx => ?_⟩
    rw [Bool.not_eq_true', ← Bool.not_eq_true, mayRefill_iff (by simp [hq, hx])]
    exact hn x hx

theorem choosable_isSome : (s.choosable leave).isSome = true ↔ ∃ x ∈ s.compressor.queue, mayRefill s leave x := by
  rw [State.choosable, List.find?_isSome]
  exact exists_congr fun x => and_congr_right fun hx => mayRefill_iff hx

/-- R141, R144, R145: the next bank is chosen, or the compressor is UNLOADED. -/
theorem chooseNext_next (s : State) (leave : Option (Fin 6)) : nextRefill s (s.chooseNext leave) leave := by
  refine ⟨fun b hb => ?_, fun hn => ?_⟩
  · rw [State.chooseNext, choosable_eq_some.2 hb]
    rfl
  · rw [State.chooseNext, choosable_eq_none.2 hn]
    rfl

theorem bankMayBeChosen_taken (s : State) : bankMayBeTaken s s.bankMayBeChosen := by
  unfold State.bankMayBeChosen
  refine ⟨fun h => by rw [h], fun h => ?_, fun h k => ?_⟩
  · rw [h]
    refine ⟨fun b hb => ?_, fun hn => ?_⟩
    · rw [State.chooseUnloaded, choosable_eq_some.2 hb]
      rfl
    · rw [State.chooseUnloaded, choosable_eq_none.2 hn]
  · split <;> first | rfl | contradiction

/-! ### The queue -/

/-- R139 (1): the place of a bank in the queue. -/
theorem insertQueue_split (rated : Fin 6 → Nat) (b : Fin 6) (l : List (Fin 6)) :
    ∃ before after, l = before ++ after ∧ insertQueue rated b l = before ++ b :: after ∧
      (∀ x ∈ before, rated b ≤ rated x) ∧ ∀ x ∈ after.head?, rated x < rated b := by
  induction l with
  | nil => exact ⟨[], [], rfl, rfl, by simp, by simp⟩
  | cons x rest ih =>
    by_cases h : rated x < rated b
    · exact ⟨[], x :: rest, rfl, by simp [insertQueue, h], by simp, by simpa using h⟩
    · obtain ⟨before, after, hl, hi, hb, ha⟩ := ih
      refine ⟨x :: before, after, by rw [hl]; rfl, by simp [insertQueue, h, hi], ?_, ha⟩
      simpa using ⟨Nat.not_lt.1 h, hb⟩

/-- R139: a bank joins the queue, and the test or the choice follows. -/
theorem addBank_queued (s : State) (b : Fin 6) : bankQueued s (s.addBank b) b := by
  obtain ⟨before, after, hl, hi, hb, ha⟩ := insertQueue_split (fun x => (s.bankCfg x).rated) b s.compressor.queue
  refine ⟨before, after, hl, hb, ha, ?_⟩
  have h := bankMayBeChosen_taken (s.enqueueBank b)
  unfold State.enqueueBank at h
  simp only [State.modCmp, hi] at h
  rw [State.addBank, State.enqueueBank]
  simpa only [State.modCmp, hi] using h

theorem removeBank_dequeued (s : State) (b : Fin 6) : bankDequeued s (s.removeBank b) b := by
  refine ⟨fun h => ?_, fun h => ?_⟩
  · rw [State.removeBank, if_neg h]
    rfl
  · rw [State.removeBank, if_pos h]
    exact chooseNext_next _ _

/-- R134 (3): the P channel of a bank has taken a value and is not FAILED. -/
theorem bankPressureKnown_iff : s.bankPressureKnown b = true ↔ pressureKnown s b := by
  unfold State.bankPressureKnown pressureKnown State.namedTaken State.namedState
  cases (s.bankCfg b).pChannel with
  | none => simp
  | some i => simp

theorem wantsRefill_asks : s.wantsRefill b = true ↔ asksForRefill s b := by
  unfold State.wantsRefill asksForRefill State.refillStatus
  by_cases ha : s.compressor.activeBank = some b
  · simp [ha]
  · by_cases hq : b ∈ s.compressor.queue <;> simp [ha, hq, bankPressureKnown_iff, and_assoc]

theorem queueEntryTest_made (s : State) (b : Fin 6) : queueEntryMade s (s.queueEntryTest b) b := by
  unfold State.queueEntryTest
  refine ⟨fun h => ?_, fun h => ?_⟩
  · rw [if_pos (wantsRefill_asks.2 h)]
    exact addBank_queued s b
  · rw [if_neg (mt wantsRefill_asks.1 h)]

/-! ### Draws -/

theorem suspendForDraw_suspends (s : State) (b : Fin 6) : drawSuspends s (s.suspendForDraw b) b := by
  refine ⟨fun h => if_neg h, fun h => ?_⟩
  rw [State.suspendForDraw, if_pos h]
  exact chooseNext_next _ _

/-- R130, R145: a position leaves its draw set, and an emptied set is reported. -/
theorem drawReported_leaves (s : State) (p : Fin 4) : drawLeaves s (s.drawReported p) p := by
  have hl : s.leaveBank p = { s with positions := setAt s.positions p { s.pos p with drawBank := none } } := rfl
  refine ⟨fun h => ?_, fun b h => ?_⟩
  · rw [State.drawReported, h]
    rfl
  · have hd : (s.leaveBank p).drawEmpty b = true ↔ ∀ o, o ≠ p → (s.pos o).drawBank ≠ some b := by
      rw [drawEmpty_iff]
      refine forall_congr' fun o => ?_
      rw [State.leaveBank, modPos_pos]
      by_cases ho : o = p <;> simp [ho]
    have hr : s.drawReported p = if (s.leaveBank p).drawEmpty b then (s.leaveBank p).reportEmptyDraw b else s.leaveBank p := by
      rw [State.drawReported, h]
      rfl
    rw [← hl, hr]
    refine ⟨fun ⟨hq, he⟩ => ?_, fun he => ?_⟩
    · have hq : b ∈ (s.leaveBank p).compressor.queue := hq
      rw [if_pos (hd.2 he), State.reportEmptyDraw, if_pos hq]
      exact bankMayBeChosen_taken _
    · by_cases hx : (s.leaveBank p).drawEmpty b = true
      · have hq : b ∉ (s.leaveBank p).compressor.queue := fun hq => he ⟨hq, hd.1 hx⟩
        rw [if_pos hx, State.reportEmptyDraw, if_neg hq]
      · rw [if_neg hx]

/-! ### The start test -/

theorem startReady_iff : s.startReady = true ↔
    s.commissioned = true ∧
      (∃ x ∈ s.compressor.queue, s.compressor.activeBank ≠ some x ∧ ∀ p, (s.pos p).drawBank ≠ some x) ∧
      s.compressor.supply = .clear ∧ s.compressor.esdCause = false := by
  simp [State.startReady, choosable_isSome, mayRefill, and_assoc]

/-- Settles O36: the start test goes by the compressor state, the conditions of `startReady` and the credits. -/
theorem compressorStartTest : Obligations.CompressorStartTest := by
  unfold Obligations.CompressorStartTest
  intro s ready
  have hr : s.startReady = true ↔ ready := startReady_iff
  refine ⟨fun h => if_neg h, fun h hn => ?_, fun h hy hc => ?_, fun h hy hc => ?_⟩
  · rw [State.compressorStartTest, if_pos h, if_neg (mt hr.1 hn)]
    rfl
  · rw [State.compressorStartTest, if_pos h, if_pos (hr.2 hy), if_pos hc]
    rfl
  · rw [State.compressorStartTest, if_pos h, if_pos (hr.2 hy), if_neg (by omega), State.waitForCredit]
    cases hw : s.compressor.creditWait with
    | true =>
      have he : { s.compressor with creditWait := true } = s.compressor := by rw [← hw]
      simp only [if_true, he]
    | false => rfl

/-! ### The requests -/

section
variable {h : Header}

theorem suspendRefill_stops (hst : s.compressor.state = .stopped ∨ s.compressor.state = .starting ∨
    s.compressor.state = .running ∨ s.compressor.state = .unloaded) : s.suspendRefill = accept s.suspendMotor := by
  unfold State.suspendRefill
  rcases hst with hst | hst | hst | hst <;> rw [hst]

/-- Settles O35: the requests go by the compressor state; the change of the compressor reads nothing of the frame that is taken. -/
theorem refillIsSuspendedAndResumed : Obligations.RefillIsSuspendedAndResumed := by
  unfold Obligations.RefillIsSuspendedAndResumed
  intro h s hs c d
  have hc : exec c s = execSuspendRefill h s := rfl
  have hd : exec d s = execResumeRefill h s := rfl
  rw [hc, hd, execSuspendRefill, execResumeRefill]
  refine ⟨fun hst => ?_, fun hst => answer_accept ?_, fun hst => answer_refuse ?_, fun hst => answer_refuse ?_, fun hst => ?_⟩
  · refine answer_change (payload := []) State.suspendMotor (fun _ => rfl) (fun _ _ => rfl) ?_
    exact (stationOnly_station hs _ _).trans (suspendRefill_stops (by simpa using hst))
  · simp only [stationOnly_station hs, State.suspendRefill, takeFrame_compressor, hst, c]
  · simp only [stationOnly_station hs, State.suspendRefill, takeFrame_compressor, hst]
  · simp only [stationOnly_station hs, takeFrame_compressor, beq_eq_false_iff_ne.2 hst, require_false]
  · rw [answer_accept (t := (s.takeFrame d).enterStopped)]
    · rw [State.enterStopped, State.modCmp, takeFrame_compressor]
    · simp only [stationOnly_station hs, takeFrame_compressor, hst, beq_self_eq_true, require_true]
      rfl

end

/-! ### The timers -/

theorem exec_of_timeLeft {c : Instr} {d : Nat} (he : isExpiry c = true) (hd : s.timeLeft c = some d) :
    exec c s = .next (expiryEvent c (s.elapse d)) := by
  rw [exec_expiry c s he, hd, expire_some]

/-- R150 (3): the reading that keeps the lockout. -/
theorem dischargeHot_iff : s.dischargeHot = true ↔ ∃ i, s.roleChannel .discharge = some i ∧ (s.chan i).taken = true ∧
    ((s.chan i).state = .failed ∨ s.site.dischargeLimit < (s.chan i).value) := by
  unfold State.dischargeHot
  cases s.roleChannel .discharge <;> simp

theorem elapse_roleChannel (d : Nat) (r : Role) : (s.elapse d).roleChannel r = s.roleChannel r := by
  simp [State.roleChannel]

theorem elapse_dischargeHot (d : Nat) : (s.elapse d).dischargeHot = s.dischargeHot := by
  simp [State.dischargeHot, elapse_roleChannel]

/-- The return of a credit that is due. -/
theorem exec_creditReturn {d : Nat} (hd : s.compressor.returns.head? = some d) :
    exec .creditReturn s = .next (s.elapse d).returnCredit := exec_of_timeLeft (c := .creditReturn) rfl hd

theorem elapse_returns (d : Nat) : (s.elapse d).compressor.returns = s.compressor.returns.map fun x => x - d := by
  by_cases h : d = 0
  · subst h
    simp
  · simp [elapse_of_ne h, Compressor.elapse]

/-- R141: with no bank ACTIVE and none left out, a choice may take what no position draws on. -/
theorem mayRefill_undrawn (ha : s.compressor.activeBank = none) : mayRefill s none b ↔ ¬∃ p, (s.pos p).drawBank = some b := by
  simp [mayRefill, ha]

/-- Settles O52: each timer's event after the time has passed, the choice of the start time by `choosable`. -/
theorem compressorTimersAct : Obligations.CompressorTimersAct := by
  unfold Obligations.CompressorTimersAct
  intro s d u drawn
  refine ⟨fun hd ha => ?_, fun hd => exec_of_timeLeft rfl hd, fun hd => ?_, fun rest hr => ?_⟩
  · have hn : exec .startTimeEnd s = .next (u.chooseNext none) := exec_of_timeLeft rfl hd
    have hu : u.compressor.activeBank = none := by simpa [u] using ha
    have hm (x : Fin 6) : mayRefill u none x ↔ ¬drawn x := by simp [mayRefill_undrawn hu, drawn, u]
    obtain ⟨hsome, hnone⟩ := chooseNext_next u none
    refine ⟨fun before b after hq hb hx => ?_, fun hq => ?_⟩
    · rw [hn, hsome b ⟨before, after, by simpa [u] using hq, (hm b).2 hx, fun x hx => mt (hm x).1 (not_not.2 (hb x hx))⟩]
      rfl
    · rw [hn, hnone fun b hb => mt (hm b).1 (not_not.2 (hq b (by simpa [u] using hb)))]
  · intro hot
    have hn : exec .lockoutTimeEnd s = .next u.endLockout := exec_of_timeLeft rfl hd
    have hh : u.dischargeHot = true ↔ hot := (elapse_dischargeHot d).symm ▸ dischargeHot_iff
    refine ⟨fun h => ?_, fun h => ?_⟩
    · rw [hn, State.endLockout, if_pos (hh.2 h)]
      rfl
    · have hc : u.endLockout = u.enterStopped := if_neg (mt hh.1 h)
      rw [hn, hc, State.enterStopped, State.modCmp]
  · have hd : s.compressor.returns.head? = some d := by rw [hr, List.head?_cons]
    have hu : u.compressor.returns.tail = rest.map fun x => x - d := by
      rw [elapse_returns, hr]
      rfl
    rw [exec_creditReturn hd, State.returnCredit, State.modCmp, hu, elapse_compressor_credits]

end Sys2Proof.Machine
end

section
/-! PROOFS. The ends, holds and factors of a fill as the statements word them, with what they leave of the cooling slots. -/

namespace Sys2Proof.Machine

/-! ### What an event of one fill leaves of the cooling slots -/

/-- The cooling slots of one position move: no slot is given, the chiller and the grades stand, the other positions keep their
slots, and a position that does not wait leaves the wait queue as it is. -/
structure SlotMoves (p : Fin 4) (s t : State) : Prop where
  rest : t.precool = { s.precool with
    holders := t.precool.holders, waitQueue := t.precool.waitQueue, fallback := t.precool.fallback }
  shrink : t.precool.holders.has p = true → s.precool.holders.has p = true
  others : ∀ q, q ≠ p → t.precool.holders.has q = s.precool.holders.has q
  queue : p ∉ s.precool.waitQueue → t.precool.waitQueue = s.precool.waitQueue
  leaves : t.precool.waitQueue.Sublist s.precool.waitQueue

namespace SlotMoves
variable {p : Fin 4} {s t u : State}

/-- An event that touches at most the fallback timers. -/
theorem of_fallback (h : t.precool = { s.precool with fallback := t.precool.fallback }) : SlotMoves p s t := by
  have hh : t.precool.holders = s.precool.holders := by rw [h]
  have hq : t.precool.waitQueue = s.precool.waitQueue := by rw [h]
  exact ⟨by rw [hh, hq]; exact h, fun k => hh ▸ k, fun q _ => by rw [hh], fun _ => hq, by rw [hq]⟩

theorem of_eq (h : t.precool = s.precool) : SlotMoves p s t := of_fallback (by rw [h])

theorem refl (p : Fin 4) (s : State) : SlotMoves p s s := of_eq rfl

theorem trans (h : SlotMoves p s t) (k : SlotMoves p t u) : SlotMoves p s u where
  rest := by rw [k.rest, h.rest]
  shrink hu := h.shrink (k.shrink hu)
  others q hq := (k.others q hq).trans (h.others q hq)
  queue hp := by
    have ht := h.queue hp
    exact (k.queue (ht ▸ hp)).trans ht
  leaves := k.leaves.trans h.leaves

theorem chiller (h : SlotMoves p s t) : t.precool.chiller = s.precool.chiller := by rw [h.rest]
theorem offered (h : SlotMoves p s t) : t.precool.offered = s.precool.offered := by rw [h.rest]
theorem grades (h : SlotMoves p s t) : t.precool.grades = s.precool.grades := by rw [h.rest]
theorem grade (h : SlotMoves p s t) (q : Fin 4) : t.grade q = s.grade q := by rw [State.grade, State.grade, h.grades]

/-- No position becomes a holder. -/
theorem shrinks (h : SlotMoves p s t) (q : Fin 4) (hq : t.precool.holders.has q = true) : s.precool.holders.has q = true := by
  by_cases hp : q = p
  · subst hp; exact h.shrink hq
  · rwa [← h.others q hp]

end SlotMoves

section
variable (s : State) (p : Fin 4)

theorem modPos_slotMoves (f : Position → Position) : SlotMoves p s (s.modPos p f) := .of_eq rfl

theorem modActive_slotMoves (f : Ticket → Ticket) : SlotMoves p s (s.modActive p f) := .of_eq (by simp)

theorem setWaiting_slotMoves (b : Bool) : SlotMoves p s (s.setWaiting p b) := .of_eq rfl

theorem joinBank_slotMoves (b : Fin 6) : SlotMoves p s (s.joinBank p b) := .of_eq (by simp)

theorem fillEnded_slotMoves (r : EndReason) : SlotMoves p s (fillEnded s p r) where
  rest := rfl
  shrink h := by simp [fillEnded, PosSet.has_put] at h
  others q hq := by simp [fillEnded, PosSet.has_put, hq]
  queue h := List.erase_of_not_mem h
  leaves := List.erase_sublist

theorem enterEndingCore_slotMoves (r : EndReason) : SlotMoves p s (s.enterEndingCore p r) := by
  cases h : (s.pos p).state.filling with
  | false => rw [enterEndingCore_idle h]; exact .refl p s
  | true => rw [enterEndingCore_eq h]; exact fillEnded_slotMoves s p r

theorem enterHeld_slotMoves : SlotMoves p s (s.enterHeld p) := .of_fallback (by simp [State.enterHeld, State.setFallback])

theorem putFactor_slotMoves (f : Factor) (b : Bool) : SlotMoves p s (s.putFactor p f b) := .of_eq rfl

theorem activateCore_slotMoves (f : Factor) : SlotMoves p s (s.activateCore p f) := by
  rcases activateCore_cases s p f with h | ⟨-, ⟨sub, -, h⟩ | ⟨r, -, h⟩ | ⟨-, -, h⟩ | ⟨-, h⟩⟩ <;> rw [h]
  · exact .refl p s
  · exact putFactor_slotMoves s p f true
  · exact enterEndingCore_slotMoves s p r
  · exact (putFactor_slotMoves s p f true).trans (enterHeld_slotMoves _ p)
  · exact modPos_slotMoves s p _

theorem bankLowCore_slotMoves : SlotMoves p s (s.bankLowCore p) := by
  unfold State.bankLowCore
  dsimp only
  split
  · exact (activateCore_slotMoves s p _).trans (setWaiting_slotMoves _ p _)
  · exact activateCore_slotMoves s p _

theorem relookupWarm_slotMoves : SlotMoves p s (s.relookupWarm p) := by
  unfold State.relookupWarm
  split
  · next t h => exact .of_eq (relookup_precool s p _ _ h)
  · exact activateCore_slotMoves s p _

theorem startWithoutBank_slotMoves : SlotMoves p s (s.startWithoutBank p) := by
  unfold State.startWithoutBank
  split
  · exact enterEndingCore_slotMoves s p _
  · exact ((putFactor_slotMoves s p _ true).trans (enterHeld_slotMoves _ p)).trans (setWaiting_slotMoves _ p _)

theorem beginFill_slotMoves (i : Fin 16) (f : FillProfile) (pInit : Nat) : SlotMoves p s (s.beginFill p i f pInit) := by
  have h := (modActive_slotMoves s p fun t => { t with profile := some i, grade := s.grade p, commMode := some (s.pos p).commMode }).trans
    (modPos_slotMoves _ p fun q => { q with valve := 0, ramp := q.ramp.onProfile i f (10 * pInit) })
  unfold State.beginFill
  dsimp only
  repeat' split
  · exact h.trans (enterEndingCore_slotMoves _ p _)
  · exact h.trans ((joinBank_slotMoves _ p _).trans (modPos_slotMoves _ p _))
  · exact h.trans (startWithoutBank_slotMoves _ p)
  · exact h.trans (enterHeld_slotMoves _ p)

theorem startLookupCore_slotMoves : SlotMoves p s (s.startLookupCore p) := by
  unfold State.startLookupCore
  dsimp only
  split
  · exact enterEndingCore_slotMoves s p _
  · split
    · exact enterEndingCore_slotMoves s p _
    · exact beginFill_slotMoves s p _ _ _

/-- R56: the end of the wait of a position in COOL_WAIT is its start lookup, unless VEHICLE_HALT holds it. -/
theorem endCoolWaitCore_at (h : (s.pos p).state = .starting .coolWait) :
    s.endCoolWaitCore p =
      if (s.pos p).factors.vehicleHalt then s.modPos p fun q => { q with coolWaitTimer := none }
      else (s.modPos p fun q => { q with coolWaitTimer := none }).startLookupCore p := by
  have hp : (s.modPos p fun q => { q with coolWaitTimer := none }).pos p = { s.pos p with coolWaitTimer := none } :=
    modPos_pos_self s p _
  rw [State.endCoolWaitCore, if_pos h, State.advanceUnlessHalted, hp]
  refine if_congr Iff.rfl rfl ?_
  simp only [State.advanceCore, hp, h, Option.isNone_none, if_true]

theorem endCoolWaitCore_slotMoves : SlotMoves p s (s.endCoolWaitCore p) := by
  by_cases h : (s.pos p).state = .starting .coolWait
  · rw [endCoolWaitCore_at s p h]
    split
    · exact modPos_slotMoves s p _
    · exact (modPos_slotMoves s p _).trans (startLookupCore_slotMoves _ p)
  · rw [endCoolWaitCore_elsewhere h]
    exact .refl p s

end

/-! ### What the grants of an event leave -/

/-- R162: the grants of an event leave the chiller alone, and give no slot to a position that does not wait for one. -/
structure GrantsOnly (s t : State) : Prop where
  chiller : t.precool.chiller = s.precool.chiller
  offered : t.precool.offered = s.precool.offered
  faultLine : t.precool.faultLine = s.precool.faultLine
  coolantCause : t.precool.coolantCause = s.precool.coolantCause
  coolantSeen : t.precool.coolantSeen = s.precool.coolantSeen
  leaves : t.precool.waitQueue.Sublist s.precool.waitQueue
  given : ∀ q, q ∉ s.precool.waitQueue → t.precool.holders.has q = true → s.precool.holders.has q = true
  grades : ∀ q, q ∉ s.precool.waitQueue → t.grade q = s.grade q

theorem makeGrants_only (s : State) : GrantsOnly s s.makeGrants := by
  refine makeGrants_induction (C := GrantsOnly) (fun s _ => ⟨rfl, rfl, rfl, rfl, rfl, .refl _, fun _ _ h => h, fun _ _ => rfl⟩)
    (fun s p rest t hq _ h => ?_) s
  have hm := endCoolWaitCore_slotMoves (s.grantSlot p) p
  have hr : (s.grantSlot p).precool.waitQueue = rest := by simp [State.grantSlot, hq]
  have hs : rest.Sublist s.precool.waitQueue := hq ▸ List.sublist_cons_self p rest
  have hw (q : Fin 4) (hn : q ∉ s.precool.waitQueue) : q ≠ p ∧ q ∉ ((s.grantSlot p).endCoolWaitCore p).precool.waitQueue := by
    refine ⟨fun e => hn (e ▸ hq ▸ List.mem_cons_self), fun hx => hn (hs.subset (hr ▸ hm.leaves.subset hx))⟩
  constructor
  · rw [h.chiller, hm.rest]; rfl
  · rw [h.offered, hm.rest]; rfl
  · rw [h.faultLine, hm.rest]; rfl
  · rw [h.coolantCause, hm.rest]; rfl
  · rw [h.coolantSeen, hm.rest]; rfl
  · exact h.leaves.trans ((hr ▸ hm.leaves).trans hs)
  · intro q hn hh
    have hg := hm.shrinks q (h.given q (hw q hn).2 hh)
    simpa [State.grantSlot, PosSet.has_put, (hw q hn).1] using hg
  · intro q hn
    rw [h.grades q (hw q hn).2, hm.grade]
    simp [State.grade, State.grantSlot, (hw q hn).1]

/-! ### The end of a fill -/

section
variable (s : State) (p : Fin 4) (r : EndReason)

@[simp] theorem fillEnded_pos_self : (fillEnded s p r).pos p = endedPosition (s.pos p) (s.site.ventTime * 1000) :=
  get_setAt_self _ _ _

theorem fillEnded_pos_ne {q : Fin 4} (h : q ≠ p) : (fillEnded s p r).pos q = s.pos q := get_setAt_ne _ _ h

/-- R12, R60, R106, R163: what a fill that has ended leaves alone. -/
theorem fillEnded_fill : FillOnly p s (fillEnded s p r) := by
  have ht := modActive_fill s p (fun k => { k with endReason := some r }) fun _ => rfl
  refine ⟨rfl, rfl, fun q hq => fillEnded_pos_ne s p r hq, fun q => ?_, fun q hq => ?_, fun q hq => ?_, ht.numbers, ht.tickets,
    (releaseDraw_fill s p).flags⟩
  · by_cases h : q = p
    · subst h; simp [endedPosition]
    · simp [fillEnded_pos_ne s p r h]
  · simp [fillEnded, PosSet.has_put, hq]
  · simp [fillEnded, hq]

/-- R12, R60, R162, R163: a fill ends, and the slot that it had is granted on. -/
theorem fillEnded_ends : fillEnds s (fillEnded s p r).makeGrants p r := by
  have hg := makeGrants_fills (fillEnded s p r)
  have ho := makeGrants_only (fillEnded s p r)
  have hf := fillEnded_fill s p r
  have hp : ((fillEnded s p r).pos p).state ≠ .starting .coolWait := by simp [endedPosition]
  refine ⟨rfl, (hg.pos p hp).trans (fillEnded_pos_self s p r), fun q hq hc => ?_, hg.base.trans hf.base, hg.banks, ?_, ?_,
    fun hn => ?_, fun n i k ha hi hk hn => ?_, fun hq => makeGrants_of_noGrantDue (.inr ?_)⟩
  · have e := fillEnded_pos_ne s p r hq
    exact (hg.pos q (by rwa [e])).trans e
  · rw [hg.waiting p hp]
    simp [fillEnded, PosSet.has_put]
  · rw [hg.fallback p hp]
    simp [fillEnded]
  · have hx : p ∉ (fillEnded s p r).precool.waitQueue := hn.not_mem_erase
    refine ⟨Bool.eq_false_iff.2 fun h => ?_, fun h => hx (ho.leaves.subset h)⟩
    have h := ho.given p hx h
    simp [fillEnded, PosSet.has_put] at h
  · have hnum := number_of_slot hi hk
    refine hg.tickets i _ ?_ fun q hc => ?_
    · have h := modActive_get s p (fun k => { k with endReason := some r }) i
      rw [if_pos (by simp [ha, hi]), hk] at h
      exact h
    · by_cases hq : q = p
      · exact absurd (hq ▸ hc) hp
      · rw [fillEnded_pos_ne s p r hq, hnum]
        exact hn q hq
  · simp [fillEnded, hq]

variable {s p}

theorem endFill_ends (h : (s.pos p).state.filling = true) : fillEnds s (s.endFill p r) p r := by
  rw [State.endFill, enterEndingCore_eq h]
  exact fillEnded_ends s p r

theorem endFill_idle (h : (s.pos p).state.filling = false) (hn : noGrantDue s) : s.endFill p r = s := by
  rw [State.endFill, enterEndingCore_idle h, makeGrants_of_noGrantDue hn]

end

/-! ### Factors -/

section
variable {s : State} {p : Fin 4} {f : Factor}

/-- R162: an event that touches at most the fallback timers makes no grant due. -/
theorem noGrantDue_of_fallback {s t : State} (h : t.precool = { s.precool with fallback := t.precool.fallback })
    (hs : t.site = s.site) : noGrantDue t ↔ noGrantDue s :=
  noGrantDue_congr (by rw [h]) (by rw [h]) (by rw [h]) (by rw [hs])

theorem noGrantDue_of_precool {s t : State} (h : t.precool = s.precool) (hs : t.site = s.site) : noGrantDue t ↔ noGrantDue s :=
  noGrantDue_of_fallback (by rw [h]) hs

theorem fillHolds_precool {t : State} {fs : FactorSet} (h : fillHolds s t p fs) :
    t.precool = { s.precool with fallback := t.precool.fallback } ∧ t.site = s.site := by
  unfold fillHolds at h
  rw [h]
  exact ⟨rfl, rfl⟩

theorem fillHolds_noGrantDue {t : State} {fs : FactorSet} (h : fillHolds s t p fs) (hn : noGrantDue s) : noGrantDue t :=
  (noGrantDue_of_fallback (fillHolds_precool h).1 (fillHolds_precool h).2).2 hn

/-- R112: a factor becomes active at a position where no grant is due. -/
theorem activate_activates (hn : noGrantDue s) : factorActivates s (s.activate p f) p f := by
  refine ⟨fun h => ?_, fun hf => ⟨fun sub hs => ?_, fun r hs hr => ?_, fun hs hr => ?_, fun hs hr => ?_⟩⟩
  · have e : s.activateCore p f = s := h.elim activateCore_active activateCore_outside
    rw [State.activate, e, makeGrants_of_noGrantDue hn]
  · have e : s.putFactor p f true = { s with positions := setAt s.positions p { s.pos p with factors := (s.pos p).factors.put f true } } :=
      rfl
    rw [State.activate, activateCore_starting hf hs, makeGrants_of_noGrantDue (s := s.putFactor p f true) hn, e]
  · have hfill : (s.pos p).state.filling = true := by
      rcases hs with hs | hs
      · rw [hs]; rfl
      · cases hst : (s.pos p).state <;> simp_all [PosState.isHeld, PosState.filling]
    rw [State.activate, activateCore_ends hf hs hr]
    exact endFill_ends r hfill
  · have hh := putFactor_enterHeld_eq s p f
    rw [State.activate, activateCore_holds hf hs hr, makeGrants_of_noGrantDue (fillHolds_noGrantDue hh hn)]
    exact hh
  · rw [State.activate, activateCore_held hf hs hr]
    exact makeGrants_of_noGrantDue (s := s.modPos p _) hn

theorem clearFactor_clears (s : State) (p : Fin 4) (f : Factor) : factorClears s (s.clearFactor p f) p f :=
  clearFactor_eq s p f

end

end Sys2Proof.Machine
end

section
/-! PROOFS. The operating requests for a position: HOLD_POSITION, STOP_POSITION and RESUME_POSITION, and the resume. -/

namespace Sys2Proof.Machine

/-! ### Requests for a position -/

section
variable {h : Header} {x : Byte} {s : State} {k : Fin 4 → Answer} {p : Fin 4}

theorem atPosition_at (hs : h.sender = 0) (hp : p.val = x.toNat) : atPosition h x s k = k p := by
  rw [atPosition, stationOnly_station hs, positionOf_eq_some.2 hp, spelled_some]

theorem atPosition_bad (hs : h.sender = 0) (hx : 4 ≤ x.toNat) : atPosition h x s k = refuse s .badValue := by
  rw [atPosition, stationOnly_station hs, positionOf_eq_none.2 hx, spelled_none]

end

/-! ### BANK_LOW -/

section
variable {s : State} {p : Fin 4}

theorem bankLowCore_ends {r : EndReason} (hf : (s.pos p).factors.bankLow = false)
    (h : (s.pos p).state = .fuelling ∨ (s.pos p).state.isHeld = true) (hr : endingReason (s.cfg p) .bankLow = some r) :
    s.bankLowCore p = fillEnded s p r := by
  have hfill : (s.pos p).state.filling = true := by
    rcases h with h | h
    · rw [h]; rfl
    · cases hst : (s.pos p).state <;> simp_all [PosState.isHeld, PosState.filling]
  have e : s.activateCore p .bankLow = fillEnded s p r := by
    rw [activateCore_ends (f := .bankLow) hf h hr, enterEndingCore_eq hfill]
  rw [State.bankLowCore, e]
  simp [endedPosition, FactorSet.empty]

/-- R112, R135 (1): in FUELLING BANK_LOW holds the fill, which joins the waiting set. -/
theorem bankLowCore_holds (hf : (s.pos p).factors.bankLow = false) (h : (s.pos p).state = .fuelling)
    (hr : endingReason (s.cfg p) .bankLow = none) :
    ∃ t, fillHolds s t p { (s.pos p).factors with bankLow := true } ∧ s.bankLowCore p = t.setWaiting p true := by
  have e : s.activateCore p .bankLow = (s.putFactor p .bankLow true).enterHeld p := activateCore_holds hf h hr
  have hh : fillHolds s ((s.putFactor p .bankLow true).enterHeld p) p { (s.pos p).factors with bankLow := true } :=
    putFactor_enterHeld_eq s p .bankLow
  refine ⟨_, hh, ?_⟩
  have hb : ((((s.putFactor p .bankLow true).enterHeld p).pos p).factors).bankLow = true := by
    unfold fillHolds at hh
    rw [hh]
    simp [State.pos, heldPosition]
  rw [State.bankLowCore, e, if_pos hb]

theorem bankLowCore_held (hf : (s.pos p).factors.bankLow = false) (h : (s.pos p).state.isHeld = true)
    (hr : endingReason (s.cfg p) .bankLow = none) :
    s.bankLowCore p = { s with
      positions := setAt s.positions p
        { s.pos p with factors := { (s.pos p).factors with bankLow := true }, state := .held .factorWait, resumeTimer := none }
      waiting := s.waiting.put p true } := by
  have e := activateCore_held (f := .bankLow) hf h hr
  have hb : ((s.activateCore p .bankLow).pos p).factors.bankLow = true := by
    rw [e, modPos_pos_self]; rfl
  rw [State.bankLowCore, if_pos hb, e]
  rfl

theorem endingReason_bankLow_holds (h : (s.cfg p).bankLow = .holdFill) : endingReason (s.cfg p) .bankLow = none := by
  simp [endingReason, h]

theorem endingReason_bankLow_ends (h : (s.cfg p).bankLow = .endFill) : endingReason (s.cfg p) .bankLow = some .bankLow := by
  simp [endingReason, h]

end

/-! ### The resume -/

section
variable {s : State} {p : Fin 4}

/-- R117: where the resume leaves the hold accumulator. -/
def heldShort (c : PositionConfig) (q : Position) : Nat :=
  if c.maxHold * 1000 ≤ q.holdTime then c.maxHold * 1000 - 1 else q.holdTime

/-- R117: a resume that falls together with the end of the hold total stops the accumulator short of it, whole. -/
theorem stopShort_eq (s : State) (p : Fin 4) : s.stopShort p =
    { s with
      positions := setAt s.positions p { s.pos p with holdTime := heldShort (s.cfg p) (s.pos p) }
      tickets := if (s.cfg p).maxHold * 1000 ≤ (s.pos p).holdTime then
          (s.modActive p fun k => { k with holdUsed := heldShort (s.cfg p) (s.pos p) / 1000 }).tickets
        else s.tickets } := by
  unfold State.stopShort heldShort
  by_cases h : (s.cfg p).maxHold * 1000 ≤ (s.pos p).holdTime
  · simp only [h, PositionConfig.holdLimit, if_true]
    set u := s.modPos p fun q => { q with holdTime := (s.cfg p).maxHold * 1000 - 1 } with hu
    have hp : (u.pos p).holdTime = (s.cfg p).maxHold * 1000 - 1 := by rw [hu, modPos_pos_self]
    have ht := modActive_tickets_congr (s := s) (t := u) p
      (fun k => { k with holdUsed := ((s.cfg p).maxHold * 1000 - 1) / 1000 }) rfl (by rw [hu, modPos_pos_self])
    rw [State.writeHoldTime, hp, modActive_eq, ht, hu]
    rfl
  · simp only [h, PositionConfig.holdLimit, if_false]
    have e : setAt s.positions p { s.pos p with holdTime := (s.pos p).holdTime } = s.positions := setAt_get_self _ _
    rw [e]

/-- R116, R117: a resume that finds a bank, whole. -/
theorem resume_found {b : Fin 6} (hb : s.selectedBank p none = some b) : s.resume p =
    { s with
      positions := setAt s.positions p
        { s.pos p with
          state := .fuelling
          valve := 0
          drawBank := some b
          resumeTimer := none
          holdTime := heldShort (s.cfg p) (s.pos p)
          ramp :=
            { (s.pos p).ramp with
              base := 10 * s.pDisp p, time := 0, target := none, starved := 0, lagging := 0
              stepTimer := some 250 } }
      compressor := (s.suspendForDraw b).compressor
      tickets := if (s.cfg p).maxHold * 1000 ≤ (s.pos p).holdTime then
          (s.modActive p fun k => { k with holdUsed := heldShort (s.cfg p) (s.pos p) / 1000 }).tickets
        else s.tickets } := by
  have hsp : SamePlant s (s.stopShort p) := by
    rw [stopShort_eq]
    exact modPos_samePlant s p (fun q => { q with holdTime := heldShort (s.cfg p) (s.pos p) }) rfl
  rw [State.resume, hb]
  dsimp only
  rw [joinBank_congr hsp, stopShort_eq]
  simp only [State.modPos, modAt, State.pos, setAt_setAt, get_setAt_self]
  rfl

theorem resume_notFound (hb : s.selectedBank p none = none) : s.resume p = (s.bankLowCore p).makeGrants := by
  rw [State.resume, hb]

/-- Settles O34: a resume with a bank is one record; without one it is BANK_LOW at a held position. -/
theorem resumeReturnsToFuelling : Obligations.ResumeReturnsToFuelling := by
  unfold Obligations.ResumeReturnsToFuelling
  intro s p r hst hf hn
  have hheld : (s.pos p).state.isHeld = true := by rw [hst]; rfl
  have hlow : (s.pos p).factors.bankLow = false := by rw [hf]; rfl
  refine ⟨fun b hb => ?_, fun hb hd => ?_, fun hb hd => ?_⟩
  · intro total held
    have e := resume_found hb
    refine ⟨?_, fun q hq => ?_, ?_⟩
    · rw [e]
      exact get_setAt_self _ _ _
    · rw [e]
      exact get_setAt_ne _ _ hq
    · rw [e]
      rfl
  · rw [resume_notFound hb, bankLowCore_held hlow hheld (endingReason_bankLow_holds hd), hf]
    exact makeGrants_of_noGrantDue hn
  · rw [resume_notFound hb, bankLowCore_ends hlow (.inr hheld) (endingReason_bankLow_ends hd)]
    exact fillEnded_ends s p .bankLow

end

/-! ### HOLD_POSITION and STOP_POSITION -/

section
variable {s : State} {p : Fin 4}

/-- R162: whether a grant is due does not depend on the frames that wait. -/
theorem takeFrame_noGrantDue {c : Instr} (hn : noGrantDue s) : noGrantDue (s.takeFrame c) :=
  (noGrantDue_of_precool (takeFrame_precool s c) (takeFrame_site s c)).2 hn

theorem takeFrame_samePlant (s : State) (c : Instr) : SamePlant s (s.takeFrame c) :=
  ⟨takeFrame_compressor s c, fun p => by rw [takeFrame_pos], takeFrame_commissioned s c, takeFrame_pendingFlags s c⟩

/-- R113: a fill that holds after a frame has been taken has held before it. -/
theorem fillHolds_takeFrame {c : Instr} {t : State} {fs : FactorSet} (hh : fillHolds (s.takeFrame c) t p fs) :
    ∃ u, t = u.takeFrame c ∧ fillHolds s u p fs := by
  obtain ⟨hc, hf⟩ := (takeFrame_samePlant s c).releaseDraw p
  change ((s.takeFrame c).drawReported p).compressor = (s.drawReported p).compressor at hc
  change ((s.takeFrame c).drawReported p).pendingFlags = (s.drawReported p).pendingFlags at hf
  unfold fillHolds at hh ⊢
  refine ⟨_, ?_, rfl⟩
  rw [hh, hc, hf, takeFrame_pos, takeFrame_positions, takeFrame_precool]
  exact (takeFrame_change (fun u => { u with
    positions := setAt s.positions p (heldPosition (s.pos p) fs)
    compressor := (s.drawReported p).compressor
    precool := { s.precool with fallback := setAt s.precool.fallback p none }
    pendingFlags := (s.drawReported p).pendingFlags ||| (EventFlag.held p).word }) (fun _ => rfl) (fun _ _ => rfl) s c).symm

theorem endingReason_supervisor (c : PositionConfig) : endingReason c .supervisor = none := rfl

/-- Settles O32: HOLD_POSITION is the activation of SUPERVISOR, STOP_POSITION the end of the fill, each after the frame is taken. -/
theorem holdAndStopPositionByState : Obligations.HoldAndStopPositionByState := by
  unfold Obligations.HoldAndStopPositionByState
  refine ⟨?_, ?_⟩
  · intro h x s hs c
    have hc : exec c s = execHoldPosition h x s := rfl
    rw [hc, execHoldPosition]
    refine ⟨fun hx => answer_refuse (atPosition_bad hs hx), fun p hp hn => ?_⟩
    have ha := activate_activates (f := .supervisor) (takeFrame_noGrantDue (c := c) hn) (p := p)
    unfold factorActivates at ha
    simp only [takeFrame_pos, takeFrame_cfg, takeFrame_positions] at ha
    obtain ⟨hstands, hacts⟩ := ha
    have hbody : (s.pos p).state.filling = true →
        (fun s => atPosition h x s fun p => require (s.pos p).state.filling .refusedState s <| accept (s.activate p .supervisor))
          (s.takeFrame c) = accept ((s.takeFrame c).activate p .supervisor) := fun hf => by
      simp only [atPosition_at hs hp, takeFrame_pos, hf, require_true]
    refine ⟨fun hf => answer_refuse ?_, fun hf hsup => ?_, fun sub hst hsup => ?_, fun r hst hsup => ?_, fun hst hsup => ?_⟩
    · simp only [atPosition_at hs hp, takeFrame_pos, hf, require_false]
    · rw [answer_accept (hbody hf), hstands (.inl hsup)]
      rfl
    · obtain ⟨hact, -⟩ := hacts hsup
      refine answer_change (payload := [])
        (fun u => u.modPos p fun q => { q with factors := { q.factors with supervisor := true } }) (fun _ => rfl) (fun _ _ => rfl) ?_
      refine (hbody (by rw [hst]; rfl)).trans ?_
      rw [hact sub hst, accept, State.modPos, modAt, takeFrame_positions]
      rfl
    · obtain ⟨-, -, -, hact⟩ := hacts hsup
      refine answer_change (payload := [])
        (fun u => u.modPos p fun q =>
          { q with factors := { q.factors with supervisor := true }, state := .held .factorWait, resumeTimer := none })
        (fun _ => rfl) (fun _ _ => rfl) ?_
      refine (hbody (by rw [hst]; rfl)).trans ?_
      rw [hact (by rw [hst]; rfl) (endingReason_supervisor _), accept, State.modPos, modAt, takeFrame_positions]
      rfl
    · obtain ⟨-, -, hact, -⟩ := hacts hsup
      obtain ⟨u, hu, hh⟩ := fillHolds_takeFrame (hact hst (endingReason_supervisor _))
      refine ⟨u, ?_, hh⟩
      rw [answer_accept (hbody (by rw [hst]; rfl)), hu]
      rfl
  · intro h x s hs c
    have hc : exec c s = execStopPosition h x s := rfl
    rw [hc, execStopPosition]
    refine ⟨fun hx => answer_refuse (atPosition_bad hs hx), fun p hp => ⟨fun hf => answer_refuse ?_, fun hf => ?_⟩⟩
    · simp only [atPosition_at hs hp, takeFrame_pos, hf, require_false]
    · have hft : ((s.takeFrame c).pos p).state.filling = true := by rw [takeFrame_pos]; exact hf
      refine ⟨(s.takeFrame c).endFill p .supervisorStop, answer_accept ?_, endFill_ends _ hft⟩
      refine (atPosition_at hs hp).trans ?_
      rw [hft, require_true]

end

/-! ### RESUME_POSITION -/

section
variable {s : State} {p : Fin 4}

theorem clearable_iff {f : FactorSet} : f.clearable = true ↔ f.supervisor = true ∨ f.meter = true := by
  simp [FactorSet.clearable]

theorem others_iff {f : FactorSet} :
    f.others = true ↔ f.vehicleHalt = true ∨ f.bankLow = true ∨ f.precool = true ∨ f.sensor = true := by
  simp [FactorSet.others, or_assoc]

theorem releaseHold_eq (hm : (s.cfg p).clearMode ≠ .manual) : s.releaseHold p =
    s.modPos p fun q => { q with state := .held .delay, resumeTimer := some ((s.cfg p).resumeDelay * 1000) } := by
  unfold State.releaseHold
  split
  · contradiction
  all_goals rfl

/-- R119: where RESUME_POSITION finds nothing to clear and no demand awaited. -/
def refusesResume (q : Position) : Prop :=
  (∃ sub, q.state = .starting sub) ∧ q.factors.clearable = false ∨
  q.state = .held .factorWait ∧ (q.factors.clearable && !q.factors.others) = false ∨
  q.state = .held .delay ∨ q.state.filling = false ∨ q.state = .fuelling

theorem resumePosition_starting {sub : Substate} (hst : (s.pos p).state = .starting sub)
    (hcl : (s.pos p).factors.clearable = true) : s.resumePosition p = accept (s.clearStationFactors p) := by
  simp only [State.resumePosition, hst, hcl, require_true]

theorem resumePosition_factorWait (hst : (s.pos p).state = .held .factorWait) (hcl : (s.pos p).factors.clearable = true)
    (ho : (s.pos p).factors.others = false) : s.resumePosition p = accept (s.resumeFromFactors p) := by
  simp only [State.resumePosition, hst, hcl, ho, Bool.not_false, Bool.and_self, require_true]

theorem resumePosition_demandWait (hst : (s.pos p).state = .held .demandWait) :
    s.resumePosition p = accept (s.resumeOnDemand p) := by
  simp only [State.resumePosition, hst]

theorem resumePosition_refused (h : refusesResume (s.pos p)) : s.resumePosition p = refuse s .refusedState := by
  rcases h with ⟨⟨sub, hst⟩, hcl⟩ | ⟨hst, hno⟩ | hst | hst | hst
  · simp only [State.resumePosition, hst, hcl, require_false]
  · simp only [State.resumePosition, hst, hno, require_false]
  · simp only [State.resumePosition, hst]
  · simp only [State.resumePosition]
    split <;> simp_all [PosState.filling]
  · simp only [State.resumePosition, hst]

/-- R115, R119 (2): the last factors that the request clears start the delay of a position that is not MANUAL. -/
theorem resumeFromFactors_delay (hm : (s.cfg p).clearMode ≠ .manual) : s.resumeFromFactors p =
    s.modPos p fun q =>
      { q with factors := (q.factors.put .supervisor false).put .meter false, phaseFaults := 0, state := .held .delay,
               resumeTimer := some ((s.cfg p).resumeDelay * 1000) } := by
  have hm' : ((s.clearStationFactors p).cfg p).clearMode ≠ .manual := hm
  rw [State.resumeFromFactors, if_neg hm', releaseHold_eq hm', State.clearStationFactors, modPos_modPos]
  rfl

theorem resumeFromFactors_manual (hm : (s.cfg p).clearMode = .manual) :
    s.resumeFromFactors p = (s.clearStationFactors p).resume p := if_pos hm

/-- Settles O33: RESUME_POSITION by the state of the position, with `resume` for a demand and for a MANUAL position. -/
theorem resumePositionByState : Obligations.ResumePositionByState := by
  unfold Obligations.ResumePositionByState
  intro h x s hs c
  have hc : exec c s = execResumePosition h x s := rfl
  rw [hc, execResumePosition]
  refine ⟨fun hx => answer_refuse (atPosition_bad hs hx), fun p hp => ?_⟩
  intro f clearable others cleared
  have hq : (s.takeFrame c).pos p = s.pos p := takeFrame_pos s c p
  have hcfg : (s.takeFrame c).cfg p = s.cfg p := takeFrame_cfg s c p
  have hbody : (fun s => atPosition h x s s.resumePosition) (s.takeFrame c) = (s.takeFrame c).resumePosition p :=
    atPosition_at hs hp
  have hcl : clearable ↔ (s.pos p).factors.clearable = true := clearable_iff.symm
  have ho : others ↔ (s.pos p).factors.others = true := others_iff.symm
  refine ⟨fun sub hst hx => ?_, fun hst hx hno => ?_, fun hst => ?_, fun hre => answer_refuse (hbody.trans ?_)⟩
  · refine answer_change (payload := []) (fun u => u.clearStationFactors p) (fun _ => rfl) (fun _ _ => rfl) (hbody.trans ?_)
    exact resumePosition_starting (hq ▸ hst) (hq ▸ hcl.1 hx)
  · have hbody' := hbody.trans
      (resumePosition_factorWait (hq ▸ hst) (hq ▸ hcl.1 hx) (hq ▸ Bool.eq_false_iff.2 (mt ho.2 hno)))
    refine ⟨fun hm => ?_, fun hm => ?_⟩
    · rw [answer_accept hbody', resumeFromFactors_manual (hcfg ▸ hm), State.clearStationFactors, State.modPos, modAt,
        takeFrame_positions]
      rfl
    · rw [resumeFromFactors_delay (hcfg ▸ hm), hcfg] at hbody'
      exact answer_change (payload := []) (fun u => u.modPos p fun q =>
        { q with factors := (q.factors.put .supervisor false).put .meter false, phaseFaults := 0, state := .held .delay,
                 resumeTimer := some ((s.cfg p).resumeDelay * 1000) }) (fun _ => rfl) (fun _ _ => rfl) hbody'
  · rw [answer_accept (hbody.trans (resumePosition_demandWait (hq ▸ hst))), State.resumeOnDemand, State.modPos, modAt,
      takeFrame_positions]
    rfl
  · refine resumePosition_refused ?_
    rw [hq]
    rcases hre with ⟨hst, hx⟩ | ⟨hst, hx⟩ | hst | hst | hst
    · exact .inl ⟨hst, Bool.eq_false_iff.2 (mt hcl.2 hx)⟩
    · refine .inr (.inl ⟨hst, ?_⟩)
      rw [Bool.and_eq_false_iff, Bool.not_eq_false']
      exact hx.imp (fun hx => Bool.eq_false_iff.2 (mt hcl.2 hx)) ho.1
    · exact .inr (.inr (.inl hst))
    · exact .inr (.inr (.inr (.inl hst)))
    · exact .inr (.inr (.inr (.inr hst)))

end

end Sys2Proof.Machine
end

section
/-! PROOFS. The meter lines of a position, and the form of a vehicle frame. -/

namespace Sys2Proof.Machine

/-! ### The order of the meter lines -/

/-- R86: the forward quarter steps, as the pairs of levels before and after. -/
theorem forward_iff (x y a b : Bool) :
    [(false, false, true, false), (true, false, true, true), (true, true, false, true), (false, true, false, false)].contains
      (x, y, a, b) = true ↔ (a, b) = meterNext x y := by
  revert x y a b; decide

theorem reverse_iff (x y a b : Bool) :
    [(true, false, false, false), (true, true, true, false), (false, true, true, true), (false, false, false, true)].contains
      (x, y, a, b) = true ↔ (x, y) = meterNext a b := by
  revert x y a b; decide

theorem meterNext_moves (x y : Bool) : meterNext x y ≠ (x, y) := by
  revert x y; decide

/-- R86: no change of the lines is a forward and a reverse quarter step. -/
theorem reverse_not_forward {x y a b : Bool} (h : (x, y) = meterNext a b) : (a, b) ≠ meterNext x y := by
  revert x y a b; decide

/-- R87: a change of both lines is no quarter step. -/
theorem both_no_step {x y a b : Bool} (ha : a ≠ x) (hb : b ≠ y) : (a, b) ≠ meterNext x y ∧ (x, y) ≠ meterNext a b := by
  revert x y a b; decide

section
variable {s : State} {p : Fin 4} {a b : Bool}

/-- The state with the lines of a position at new levels. -/
def State.metered (s : State) (p : Fin 4) (a b : Bool) : State := s.modPos p fun q => { q with meterA := a, meterB := b }

theorem meterChange_stands (ha : a = (s.pos p).meterA) (hb : b = (s.pos p).meterB) : s.meterChange p a b = s := by
  rw [State.meterChange, if_pos (by rw [ha, hb])]
  exact modPos_self s p _ (by rw [ha, hb])

theorem meterChange_forward (h : (a, b) = meterNext (s.pos p).meterA (s.pos p).meterB) :
    s.meterChange p a b = (s.metered p a b).quarterStep p true := by
  rw [State.meterChange, if_neg fun e => meterNext_moves _ _ (h.symm.trans e), if_pos h]
  rfl

theorem meterChange_reverse (h : ((s.pos p).meterA, (s.pos p).meterB) = meterNext a b) :
    s.meterChange p a b = (s.metered p a b).quarterStep p false := by
  rw [State.meterChange, if_neg fun e => meterNext_moves _ _ (h.symm.trans e.symm), if_neg (reverse_not_forward h), if_pos h]
  rfl

theorem meterChange_both (ha : a ≠ (s.pos p).meterA) (hb : b ≠ (s.pos p).meterB) :
    s.meterChange p a b = (s.metered p a b).phaseFault p := by
  obtain ⟨hf, hr⟩ := both_no_step ha hb
  rw [State.meterChange, if_neg fun e => ha (congrArg Prod.fst e), if_neg hf, if_neg hr]
  rfl

theorem metered_pos : (s.metered p a b).pos p = { s.pos p with meterA := a, meterB := b } := modPos_pos_self s p _

/-- R86: the direction of a quarter step as the whole number that it adds. -/
theorem meterChange_step {step : Int}
    (h : (a, b) = meterNext (s.pos p).meterA (s.pos p).meterB ∧ step = 1 ∨
      ((s.pos p).meterA, (s.pos p).meterB) = meterNext a b ∧ step = -1) :
    s.meterChange p a b = (s.metered p a b).quarterStep p (decide (step = 1)) ∧ (if decide (step = 1) then 1 else -1) = step := by
  rcases h with ⟨h, rfl⟩ | ⟨h, rfl⟩
  · exact ⟨meterChange_forward h, rfl⟩
  · exact ⟨meterChange_reverse h, rfl⟩

theorem quarterStep_part {forward : Bool} {n : Int} (hn : (s.pos p).quarter + (if forward then 1 else -1) = n)
    (h : ¬(n = 4 ∨ n = -4)) : s.quarterStep p forward = s.modPos p fun q => { q with quarter := n } := by
  rw [State.quarterStep, hn, if_neg h]

theorem quarterStep_whole {forward : Bool} {n : Int} (hn : (s.pos p).quarter + (if forward then 1 else -1) = n)
    (h : n = 4 ∨ n = -4) : s.quarterStep p forward = (s.modPos p fun q => { q with quarter := 0 }).wholePulse p forward := by
  rw [State.quarterStep, hn, if_pos h]

/-- R63: a whole pulse outside a fill is stray. -/
theorem wholePulse_stray {forward : Bool} (h : (s.pos p).state.busy = false) :
    s.wholePulse p forward = s.modPos p fun q => { q with stray := min 65535 (q.stray + 1) } := by
  rw [State.wholePulse, h]
  rfl

/-- R88, R89: a whole pulse in a fill moves the mass of its ticket, which is billed anew. -/
theorem wholePulse_busy {forward : Bool} (h : (s.pos p).state.busy = true) {n : Nat} {i : Fin 32} {k : Ticket}
    (ha : (s.pos p).active = some n) (hi : s.ticketSlot n = some i) (hk : s.tickets.get i = some k) :
    s.wholePulse p forward = { s with tickets := setAt s.tickets i (some
      (k.withMass (if forward then min 4294967295 (k.mass + s.pulseWeights.get p) else k.mass - s.pulseWeights.get p))) } := by
  rw [State.wholePulse, h]
  simp only [if_true, State.modActive, ha]
  rw [modTicket_of_slot hi hk]
  rfl

/-- R87: the count of phase faults, and METER at the third of a fill. -/
theorem phaseFault_busy (h : (s.pos p).state.busy = true) : s.phaseFault p =
    if min 255 ((s.pos p).phaseFaults + 1) = 3 then
      (s.modPos p fun q => { q with phaseFaults := min 255 ((s.pos p).phaseFaults + 1) }).activate p .meter
    else s.modPos p fun q => { q with phaseFaults := min 255 ((s.pos p).phaseFaults + 1) } := by
  rw [State.phaseFault, h]
  rfl

theorem phaseFault_idle (h : (s.pos p).state.busy = false) : s.phaseFault p = s := by
  rw [State.phaseFault, h]
  rfl

end

/-- The lines and the quarter-step count of a position change together. -/
theorem metered_modPos (s : State) (p : Fin 4) (a b : Bool) (g : Position → Position) :
    (s.metered p a b).modPos p g =
      { s with positions := setAt s.positions p (g { s.pos p with meterA := a, meterB := b }) } := by
  rw [State.metered, modPos_modPos]
  rfl

/-- Settles O43: quarter steps by the order of the lines, whole pulses by the state of the position, and phase faults, where the
third activates METER. -/
theorem meterLinesCountPulses : Obligations.MeterLinesCountPulses := by
  unfold Obligations.MeterLinesCountPulses
  intro p a b s q c forward reverse w
  have hc : exec c s = .next (s.meterChange p a b) := rfl
  rw [hc]
  refine ⟨fun ha hb => by rw [meterChange_stands ha hb], fun step hstep => ?_, fun ha hb => ?_⟩
  · intro count whole
    obtain ⟨hm, hstep'⟩ := meterChange_step (hstep.imp (.imp_left (forward_iff _ _ _ _).1) (.imp_left (reverse_iff _ _ _ _).1))
    have hn : ((s.metered p a b).pos p).quarter + (if decide (step = 1) then 1 else -1) = count := by
      rw [metered_pos, hstep']
    rw [hm]
    refine ⟨fun hw => ?_, fun hw hb => ?_, fun n i k hw hb hact hi hk => ?_⟩
    · rw [quarterStep_part hn hw, metered_modPos]
    · have hb' : (((s.metered p a b).modPos p fun q => { q with quarter := 0 }).pos p).state.busy = false := by
        rw [modPos_pos_self, metered_pos]; exact hb
      rw [quarterStep_whole hn hw, wholePulse_stray hb', modPos_modPos, metered_modPos]
    · intro mass
      have hp : ((s.metered p a b).modPos p fun q => { q with quarter := 0 }).pos p =
          { s.pos p with meterA := a, meterB := b, quarter := 0 } := by rw [modPos_pos_self, metered_pos]
      have hb' := (congrArg (fun q => q.state.busy) hp).trans hb
      have hact' := (congrArg Position.active hp).trans hact
      rw [quarterStep_whole hn hw, wholePulse_busy hb' hact' hi hk, metered_modPos]
      simp only [decide_eq_true_eq]
      rfl
  · intro count moved counted
    have hq : (s.metered p a b).pos p = moved := metered_pos
    have hmod : (s.metered p a b).modPos p (fun q => { q with phaseFaults := count }) = counted := metered_modPos _ _ _ _ _
    rw [meterChange_both ha hb]
    refine ⟨fun hb => ?_, fun hb hn => ?_, fun hb h3 hn => ?_⟩
    · rw [phaseFault_idle (by rw [hq]; exact hb)]
      rfl
    · rw [phaseFault_busy (by rw [hq]; exact hb), hq, if_neg hn]
      exact congrArg _ hmod
    · have e : (s.metered p a b).phaseFault p = counted.activate p .meter := by
        rw [phaseFault_busy (by rw [hq]; exact hb), hq, if_pos h3]
        exact congrArg (fun u => State.activate u p .meter) hmod
      have hact : factorActivates counted (counted.activate p .meter) p .meter := activate_activates (s := counted) hn
      have hp : counted.pos p = { moved with phaseFaults := count } := get_setAt_self _ _ _
      have hall := hact
      unfold factorActivates at hall
      rw [hp] at hall
      obtain ⟨hstand, hjoin⟩ := hall
      rw [e]
      refine ⟨fun hs => ?_, fun sub hs => ?_, fun hs hf hd => ?_, fun hs hf hd => ?_, fun _ => ⟨_, rfl, hact⟩⟩
      · exact congrArg _ (hstand (.inr (by rw [show moved.state = .ending from hs]; rfl)))
      · cases hf : q.factors.meter with
        | true =>
          have hset : q.factors = { q.factors with meter := true } := by rw [← hf]
          rw [hstand (.inl hf), ← hset]
        | false =>
          obtain ⟨hstart, -⟩ := hjoin hf
          rw [hstart sub hs]
          exact congrArg (fun x => Host.Outcome.next ({ s with positions := x } : State)) (setAt_setAt _ _ _ _)
      · obtain ⟨-, -, hhold, -⟩ := hjoin hf
        exact ⟨_, rfl, hhold hs (by simp [endingReason, show counted.cfg p = s.cfg p from rfl, hd])⟩
      · obtain ⟨-, hend, -⟩ := hjoin hf
        exact ⟨_, rfl, hend _ (.inl hs) (by simp [endingReason, show counted.cfg p = s.cfg p from rfl, hd])⟩

/-! ### The form of a vehicle frame -/

/-- Two bits of a byte as a number. -/
theorem twoBits (b : Byte) (k : Nat) : (b >>> k &&& 3).toNat = b.toNat / 2 ^ k % 4 := by
  rw [BitVec.toNat_and, BitVec.toNat_ushiftRight, Nat.shiftRight_eq_div_pow]
  exact Nat.and_two_pow_sub_one_eq_mod _ 2

theorem bitOf (b : Byte) (k : Nat) : b.getLsbD k = decide (b.toNat / 2 ^ k % 2 = 1) := by
  rw [BitVec.getLsbD, Nat.testBit_eq_decide_div_mod_eq]

theorem frameClass_eq (b : Byte) : frameClass b =
    if b.toNat / 4 % 4 = 1 then some .h70 else if b.toNat / 4 % 4 = 2 then some .h35 else none := by
  unfold frameClass
  rw [twoBits]
  have h : b.toNat / 2 ^ 2 % 4 < 4 := Nat.mod_lt _ (by decide)
  generalize b.toNat / 4 % 4 = x at *
  interval_cases x <;> rfl

theorem frameCommand_eq (b : Byte) : frameCommand b =
    if b.toNat / 16 % 4 = 0 then some .run else if b.toNat / 16 % 4 = 1 then some .halt
    else if b.toNat / 16 % 4 = 2 then some .abort else none := by
  unfold frameCommand
  rw [twoBits]
  have h : b.toNat / 2 ^ 4 % 4 < 4 := Nat.mod_lt _ (by decide)
  generalize b.toNat / 16 % 4 = x at *
  interval_cases x <;> rfl

/-- R92 (1): the sum of the bytes modulo 256. -/
theorem foldl_add_toNat (l : List Byte) (x : Byte) :
    (l.foldl (· + ·) x).toNat = (x.toNat + (l.map BitVec.toNat).sum) % 256 := by
  induction l generalizing x with
  | nil => simp [Nat.mod_eq_of_lt x.isLt]
  | cons y l ih =>
    rw [List.foldl_cons, ih, BitVec.toNat_add, List.map_cons, List.sum_cons]
    omega

theorem checksumGood_iff (l : List Byte) : checksumGood l = true ↔ (l.map BitVec.toNat).sum % 256 = 0 := by
  unfold checksumGood
  rw [beq_iff_eq, ← BitVec.toNat_inj, foldl_add_toNat]
  simp

theorem identGood_iff (l : List Byte) (volume : Nat) : identGood volume (tagAt l 7) = true ↔
    1 ≤ volume ∧ volume ≤ 2500 ∧ ∀ i < 8, 0x20 ≤ (u8 l (7 + i)).toNat ∧ (u8 l (7 + i)).toNat ≤ 0x7E := by
  have ht : (∀ i : Fin 8, printable ((tagAt l 7).get i) = true) ↔
      ∀ i < 8, 0x20 ≤ (u8 l (7 + i)).toNat ∧ (u8 l (7 + i)).toNat ≤ 0x7E := by
    constructor
    · intro h i hi
      refine printable_iff.1 ?_
      have := h ⟨i, hi⟩
      interval_cases i <;> exact this
    · intro h i
      refine printable_iff.2 ?_
      have := h i i.isLt
      fin_cases i <;> exact this
  rw [identGood, Bool.and_eq_true, Bool.and_eq_true, tagBytes_all, ht, decide_eq_true_eq, decide_eq_true_eq, and_assoc]

/-- Settles O44: each test of the form as a fact about numbers, and then the fields one by one. -/
theorem vehicleFrameLayout : Obligations.VehicleFrameLayout := by
  unfold Obligations.VehicleFrameLayout
  intro frame b bad
  have hsum := checksumGood_iff b
  have hid := identGood_iff b (u16 b 5).toNat
  have hk : (u8 b 0).toNat / 4 % 4 < 4 := Nat.mod_lt _ (by decide)
  have hm : (u8 b 0).toNat / 16 % 4 < 4 := Nat.mod_lt _ (by decide)
  have h0 : (u8 b 0).getLsbD 0 = decide ((u8 b 0).toNat % 2 = 1) := by rw [bitOf]; simp
  have h1 : (u8 b 0).getLsbD 1 = decide ((u8 b 0).toNat / 2 % 2 = 1) := bitOf _ 1
  have hgood : ¬bad ↔ checksumGood b = true ∧ ((u8 b 0).toNat / 4 % 4 = 1 ∨ (u8 b 0).toNat / 4 % 4 = 2) ∧
      (u8 b 0).toNat / 16 % 4 ≠ 3 ∧ ((u8 b 0).getLsbD 0 || identGood (u16 b 5).toNat (tagAt b 7)) = true := by
    rw [hsum, Bool.or_eq_true, hid, h0, decide_eq_true_eq]
    simp only [bad, not_or, not_and, not_exists, not_lt, ne_eq, not_not]
    constructor
    · rintro ⟨e1, e2, e3, e4, e5⟩
      refine ⟨e1, by omega, e4, ?_⟩
      by_cases hb : (u8 b 0).toNat % 2 = 0
      · obtain ⟨f1, f2, f3⟩ := e5 hb
        exact .inr ⟨by omega, f2, f3⟩
      · exact .inl (by omega)
    · rintro ⟨e1, e2, e3, e4⟩
      refine ⟨e1, by omega, by omega, e3, fun hb => ?_⟩
      obtain ⟨f1, f2, f3⟩ := e4.resolve_left (by omega)
      exact ⟨by omega, f2, f3⟩
  constructor
  · intro hbad
    have hn := mt hgood.2 (not_not.2 hbad)
    unfold parseVehicleFrame
    dsimp only
    split
    · next hc hcl hcm =>
      rw [frameClass_eq] at hcl
      rw [frameCommand_eq] at hcm
      refine if_neg fun hf => hn ⟨hc, ?_, ?_, hf⟩
      · by_contra hx
        rw [not_or] at hx
        rw [if_neg hx.1, if_neg hx.2] at hcl
        cases hcl
      · intro hx
        rw [hx] at hcm
        cases hcm
    · rfl
  · intro hnb
    obtain ⟨hc, hcl, hcm, hf⟩ := hgood.1 hnb
    have ecl : frameClass (u8 b 0) = some (if (u8 b 0).toNat / 4 % 4 = 1 then .h70 else .h35) := by
      rw [frameClass_eq]
      rcases hcl with h | h <;> rw [h] <;> rfl
    have ecm : frameCommand (u8 b 0) = some
        (if (u8 b 0).toNat / 16 % 4 = 0 then .run else if (u8 b 0).toNat / 16 % 4 = 1 then .halt else .abort) := by
      rw [frameCommand_eq]
      generalize (u8 b 0).toNat / 16 % 4 = x at *
      interval_cases x <;> first | rfl | contradiction
    simp only [parseVehicleFrame, hc, ecl, ecm]
    rw [if_pos hf, h0, h1]

end Sys2Proof.Machine
end

section
/-! PROOFS. AUTHORIZE: the tests in their order, and what an authorization that passes them writes. -/

namespace Sys2Proof.Machine

/-! ### The usable inventory -/

/-- R127: the usable inventory is the sum that the rule gives. -/
theorem usableInventory_eq (s : State) (k : NozzleClass) : s.usableInventory k = usableSum s k := by
  unfold State.usableInventory usableSum allBanks
  refine congrArg List.sum (List.map_congr_left fun b _ => ?_)
  unfold State.bankContribution
  cases k <;>
    simp [BankConfig.serves, SiteRecord.floorPressure, gasMass, effectiveTemperature, Config.gasConstant, Config.effectiveFactor,
      and_assoc, ← Int.toNat_sub]

/-! ### The first test that fails -/

theorem firstFailing_pass (r : Result) (l : List (Bool × Result)) : firstFailing ((true, r) :: l) = firstFailing l := rfl

/-- The first test fails, or it passes and a later one is the first to fail. -/
theorem firstFailing_cons {t : Bool} {r x : Result} {l : List (Bool × Result)} (h : firstFailing ((t, r) :: l) = some x) :
    t = false ∧ x = r ∨ t = true ∧ firstFailing l = some x := by
  cases t with
  | false => exact .inl ⟨rfl, (Option.some.inj h).symm⟩
  | true => exact .inr ⟨rfl, h⟩

/-! ### The hold and the stock check -/

theorem holdFor_eq (amount mass : Option Nat) (price : Nat) (a : Account) :
    holdFor (requestedAmount amount mass price a) a = holdOf amount mass price a := by
  unfold holdFor requestedAmount holdOf
  cases amount <;> cases mass <;> cases hm : a.perFillMax <;> simp [billing, Config.max32]

theorem stockCheck_passes {usable : Nat} {mass : Option Nat} (h : ∀ m ∈ mass, 500 ≤ usable) :
    stockCheck usable mass = some (mass.map fun m => min m usable, mass.any fun m => decide (usable < m)) := by
  cases mass with
  | none => rfl
  | some m => exact if_neg (Nat.not_lt.2 (h m rfl))

theorem stockCheck_fails {usable : Nat} {m : Nat} (h : usable < 500) : stockCheck usable (some m) = none := if_pos h

theorem presetsGood_iff {mass amount : Option Nat} (ha : ∀ a ∈ amount, a ≤ 4294967295) :
    presetsGood mass amount =
      (mass.all (fun m => decide (1 ≤ m) && decide (m ≤ 4294967)) && amount.all fun a => decide (1 ≤ a)) := by
  unfold presetsGood within
  congr 1
  cases amount with
  | none => rfl
  | some a => simp [Config.max32, ha a rfl]

section
variable {s : State} {h : Header} {k : Ticket} {account mass amount : Option Nat}

/-- R7, R27 to R29: the tests of AUTHORIZE with their results, as the model carries them out. -/
def State.authorizationTests (s : State) (h : Header) (k : Ticket) (account mass amount : Option Nat) : List (Bool × Result) :=
  [(decide (k.state = .opened), .refusedState), (!s.esdLatch, .refusedState),
   (decide ((s.cfg k.position).authMode = .autonomous) || h.sender == 0, .notPermitted),
   (!s.tradeLockOpen, .locked),
   (mass.all (fun m => decide (1 ≤ m) && decide (m ≤ 4294967)) && amount.all (fun a => decide (1 ≤ a)), .badValue),
   (decide ((s.cfg k.position).authMode = .supervised) || account.isSome, .badValue),
   (account.all fun n => (s.account n).isSome, .notFound),
   (account.all fun n => (s.account n).any fun a => decide (a.status = .active), .refusedState),
   (account.all fun n => (s.account n).any fun a => a.permits k.nozzleClass, .notPermitted),
   (mass.isNone || decide (500 ≤ s.usableInventory k.nozzleClass), .noStock),
   (account.all fun n => (s.account n).any fun a =>
      decide (s.site.minAuthAmount ≤
        holdOf amount (mass.map fun m => min m (s.usableInventory k.nozzleClass)) ((s.price k.nozzleClass).getD 0) a),
    .insufficient)]

/-! ### The tests of the Account and Tariff Unit -/

theorem stock_test : (mass.isNone || decide (500 ≤ s.usableInventory k.nozzleClass)) = true ↔
    ∀ m ∈ mass, 500 ≤ s.usableInventory k.nozzleClass := by
  cases mass <;> simp

theorem termsFor_noStock {a : Option Account} (hm : (mass.isNone || decide (500 ≤ s.usableInventory k.nozzleClass)) = false) :
    s.termsFor k a mass amount = .inl .noStock := by
  cases mass with
  | none => cases hm
  | some m => rw [State.termsFor, stockCheck_fails (by simpa using hm)]

theorem termsFor_free (hm : ∀ m ∈ mass, 500 ≤ s.usableInventory k.nozzleClass) :
    s.termsFor k none mass amount = .inr
      ⟨none, mass.map fun m => min m (s.usableInventory k.nozzleClass), amount, none,
        mass.any fun m => decide (s.usableInventory k.nozzleClass < m), none⟩ := by
  rw [State.termsFor, stockCheck_passes hm]

/-- R29: the terms against an account, once the stock check has passed. -/
theorem termsFor_account (hm : ∀ m ∈ mass, 500 ≤ s.usableInventory k.nozzleClass) (a : Account) {hold : Nat}
    (hh : holdOf amount (mass.map fun m => min m (s.usableInventory k.nozzleClass)) ((s.price k.nozzleClass).getD 0) a = hold) :
    s.termsFor k (some a) mass amount =
      if hold < s.site.minAuthAmount then .inl .insufficient
      else .inr ⟨some a.number, mass.map fun m => min m (s.usableInventory k.nozzleClass), some hold, some hold,
        mass.any fun m => decide (s.usableInventory k.nozzleClass < m), a.tag⟩ := by
  rw [State.termsFor, stockCheck_passes hm]
  dsimp only
  rw [holdFor_eq, hh]

/-- R27 tests 5 to 9: a first failing test of an account decides. -/
theorem termsWithAccount_fails {n : Nat} {r : Result}
    (hr : firstFailing
      [((s.account n).isSome, .notFound), ((s.account n).any fun a => decide (a.status = .active), .refusedState),
       ((s.account n).any fun a => a.permits k.nozzleClass, .notPermitted),
       (mass.isNone || decide (500 ≤ s.usableInventory k.nozzleClass), .noStock),
       ((s.account n).any fun a => decide (s.site.minAuthAmount ≤
          holdOf amount (mass.map fun m => min m (s.usableInventory k.nozzleClass)) ((s.price k.nozzleClass).getD 0) a),
        .insufficient)] = some r) : s.termsWithAccount k n mass amount = .inl r := by
  unfold State.termsWithAccount
  cases hn : s.account n with
  | none =>
    rw [hn] at hr
    obtain rfl := Option.some.inj hr
    rfl
  | some a =>
    rw [hn] at hr
    simp only [Option.isSome_some, Option.any_some, firstFailing_pass] at hr
    dsimp only
    rcases firstFailing_cons hr with ⟨hf, rfl⟩ | ⟨hp, hr⟩
    · rw [if_pos (by simpa using hf)]
    rw [if_neg (not_not.2 (by simpa using hp))]
    rcases firstFailing_cons hr with ⟨hf, rfl⟩ | ⟨hp, hr⟩
    · rw [hf]; rfl
    rw [hp]
    simp only [Bool.not_true, Bool.false_eq_true, if_false]
    rcases firstFailing_cons hr with ⟨hf, rfl⟩ | ⟨hp, hr⟩
    · exact termsFor_noStock hf
    rcases firstFailing_cons hr with ⟨hf, rfl⟩ | ⟨hp', hr⟩
    · rw [termsFor_account (stock_test.1 hp) a rfl, if_pos (by simpa using hf)]
    · cases hr

/-- R27 test 1: a SUPERVISED position is authorized by the station computer. -/
theorem sender_test : (decide ((s.cfg k.position).authMode = .autonomous) || h.sender == 0) = true ↔
    (s.cfg k.position).authMode = .autonomous ∨ h.sender = 0 := by
  rw [Bool.or_eq_true, decide_eq_true_eq, beq_iff_eq]

theorem authorizationTerms_notPermitted
    (hf : (decide ((s.cfg k.position).authMode = .autonomous) || h.sender == 0) = false) :
    s.authorizationTerms h k account mass amount = .inl .notPermitted := by
  rw [Bool.or_eq_false_iff, decide_eq_false_iff_not] at hf
  refine if_pos ⟨?_, by rw [isStation, hf.2]; rfl⟩
  cases hm : (s.cfg k.position).authMode with
  | autonomous => exact absurd hm hf.1
  | supervised => rfl

theorem not_terminal_supervised (hm : (s.cfg k.position).authMode = .autonomous ∨ h.sender = 0) :
    ¬((s.cfg k.position).authMode = .supervised ∧ (!isStation h) = true) := by
  rintro ⟨hs, hst⟩
  rcases hm with hm | hm
  · rw [hm] at hs; cases hs
  · rw [isStation, hm] at hst; cases hst

theorem authorizationTerms_locked (hm : (s.cfg k.position).authMode = .autonomous ∨ h.sender = 0) (hl : s.tradeLockOpen = true) :
    s.authorizationTerms h k account mass amount = .inl .locked := by
  unfold State.authorizationTerms
  dsimp only
  rw [if_neg (not_terminal_supervised hm), if_pos hl]

theorem authorizationTerms_badValue (hm : (s.cfg k.position).authMode = .autonomous ∨ h.sender = 0) (hl : s.tradeLockOpen = false)
    (hg : presetsGood mass amount = false) : s.authorizationTerms h k account mass amount = .inl .badValue := by
  unfold State.authorizationTerms
  dsimp only
  rw [if_neg (not_terminal_supervised hm), if_neg (by rw [hl]; decide), if_pos (by rw [hg]; rfl)]

/-- R27: what follows the tests of the sender, the trade lock and the presets. -/
theorem authorizationTerms_station (hm : (s.cfg k.position).authMode = .autonomous ∨ h.sender = 0) (hl : s.tradeLockOpen = false)
    (hg : presetsGood mass amount = true) :
    s.authorizationTerms h k account mass amount =
      account.elim (if (s.cfg k.position).authMode = .supervised then s.termsFor k none mass amount else .inl .badValue)
        fun n => s.termsWithAccount k n mass amount := by
  unfold State.authorizationTerms
  dsimp only
  rw [if_neg (not_terminal_supervised hm), if_neg (by rw [hl]; decide), if_neg (by rw [hg]; decide)]
  cases account <;> rfl

/-- R27: the first test of the Account and Tariff Unit that fails gives the result. -/
theorem authorizationTerms_fails {r : Result} (ha : ∀ a ∈ amount, a ≤ 4294967295)
    (hr : firstFailing ((s.authorizationTests h k account mass amount).drop 2) = some r) :
    s.authorizationTerms h k account mass amount = .inl r := by
  rcases firstFailing_cons hr with ⟨hf, rfl⟩ | ⟨hp, hr⟩
  · exact authorizationTerms_notPermitted hf
  have hm := sender_test.1 hp
  rcases firstFailing_cons hr with ⟨hf, rfl⟩ | ⟨hp, hr⟩
  · exact authorizationTerms_locked hm (by simpa using hf)
  have hl : s.tradeLockOpen = false := by simpa using hp
  rcases firstFailing_cons hr with ⟨hf, rfl⟩ | ⟨hp, hr⟩
  · exact authorizationTerms_badValue hm hl ((presetsGood_iff ha).trans hf)
  rw [authorizationTerms_station hm hl ((presetsGood_iff ha).trans hp)]
  cases account with
  | none =>
    rw [Option.elim_none]
    rcases firstFailing_cons hr with ⟨hf, rfl⟩ | ⟨hp, hr⟩
    · rw [if_neg (by simpa using hf)]
    · rw [if_pos (by simpa using hp)]
      simp only [Option.all_none, firstFailing_pass] at hr
      rcases firstFailing_cons hr with ⟨hf, rfl⟩ | ⟨hp, hr⟩
      · exact termsFor_noStock hf
      · cases hr
  | some n =>
    simp only [Option.isSome_some, Bool.or_true, firstFailing_pass, Option.all_some] at hr
    exact termsWithAccount_fails hr

/-- R7: the first test that fails refuses the request. -/
theorem authorize_refused {r : Result} (ha : ∀ a ∈ amount, a ≤ 4294967295)
    (hr : firstFailing (s.authorizationTests h k account mass amount) = some r) :
    s.authorize h k account mass amount = refuse s r := by
  unfold State.authorize
  rcases firstFailing_cons hr with ⟨hf, rfl⟩ | ⟨hp, hr⟩
  · rw [beq_eq_decide, hf, require_false]
  rw [beq_eq_decide, hp, require_true]
  rcases firstFailing_cons hr with ⟨hf, rfl⟩ | ⟨hp, hr⟩
  · rw [hf, require_false]
  · rw [hp, require_true, authorizationTerms_fails ha hr]

theorem takeFrame_usableInventory (c : Instr) (n : NozzleClass) : (s.takeFrame c).usableInventory n = s.usableInventory n := by
  have hb : (s.takeFrame c).bankContribution n = s.bankContribution n := funext fun b => by simp [State.bankContribution]
  rw [State.usableInventory, State.usableInventory, hb]

theorem takeFrame_price (c : Instr) (n : NozzleClass) : (s.takeFrame c).price n = s.price n := by
  cases n <;> simp [State.price]

theorem takeFrame_authorizationTests (c : Instr) :
    (s.takeFrame c).authorizationTests h k account mass amount = s.authorizationTests h k account mass amount := by
  have ha (n : Nat) : (s.takeFrame c).account n = s.account n := takeFrame_account c
  simp only [State.authorizationTests, takeFrame_esdLatch, takeFrame_cfg, takeFrame_tradeLockOpen, ha, takeFrame_site,
    takeFrame_usableInventory, takeFrame_price]

/-- R179: the answer to a request, by the answer of its body. -/
theorem answer_of {c : Instr} {code : Byte} {body : State → Answer} {a : Answer} (hb : body (s.takeFrame c) = a) :
    answer c h code s body = .next { a.state with reply := some ⟨h.sender, h.tag, code, a.result, a.payload⟩ } := by
  rw [answer, hb]

end

theorem presetAmount_le (f : AuthorizeLayout) : ∀ a ∈ (authorizeGiven f).2.2, a ≤ 4294967295 := by
  intro a ha
  simp only [authorizeGiven, Option.mem_def, Option.ite_none_right_eq_some, Option.some.injEq] at ha
  have := f.presetAmount.isLt
  omega

/-- Settles O20: the tests of the ticket, then `authorize_refused`. -/
theorem authorizeTestsInOrder : Obligations.AuthorizeTestsInOrder := by
  unfold Obligations.AuthorizeTestsInOrder
  refine ⟨usableInventory_eq, fun h f s => ?_⟩
  intro account mass amount
  have hc : exec (.authorize h f) s = execAuthorize h f s := rfl
  rw [hc, execAuthorize]
  refine ⟨fun hn => ?_, fun k hk => ⟨fun hp => ?_, fun r hp hr => ?_⟩⟩
  · exact answer_refuse (withTicket_none ((takeFrame_ticket _).trans hn) _)
  · have hp' : s.permitted h k.position = false := Bool.eq_false_iff.2 (mt permitted_iff.1 hp)
    exact answer_refuse (withTicket_notPermitted ((takeFrame_ticket _).trans hk) ((takeFrame_permitted _ _ _).trans hp') _)
  · refine answer_refuse ?_
    rw [withTicket_permitted ((takeFrame_ticket _).trans hk) ((takeFrame_permitted _ _ _).trans (permitted_iff.2 hp))]
    refine authorize_refused (presetAmount_le f) ?_
    rw [takeFrame_authorizationTests]
    exact hr

/-! ### An authorization that passes -/

section
variable {s : State} {h : Header} {k : Ticket} {i : Fin 32} {account mass amount : Option Nat}

theorem authorize_passes {x : Terms} (ho : k.state = .opened) (he : s.esdLatch = false)
    (hx : s.authorizationTerms h k account mass amount = .inr x) :
    s.authorize h k account mass amount = ⟨s.authorizeTicket k x, if x.reduced then .okReduced else .ok, []⟩ := by
  rw [State.authorize, ho, he, hx]
  rfl

/-- R7, R30: what an authorization writes, once the hold has been taken. -/
theorem authorizeTicket_of_slot {x : Terms} {accounts : Vector (Option Account) 64}
    (ht : s.takeTerms x = { s with accounts := accounts }) (hi : s.ticketSlot k.number = some i) (hk : s.tickets.get i = some k) :
    s.authorizeTicket k x =
      let t : State := { s with
        accounts := accounts
        tickets := setAt s.tickets i (some
          (k.authorized x (s.cfg k.position).authMode (s.price k.nozzleClass) s.metrologyCount s.windowLength)) }
      if k.attachment = .active then t.startTest k.position else t := by
  have e := modTicket_of_slot (s := s.takeTerms x) (n := k.number) (i := i) (k := k) (by rw [ht]; exact hi) (by rw [ht]; exact hk)
    fun k => k.authorized x (s.cfg k.position).authMode (s.price k.nozzleClass) s.metrologyCount s.windowLength
  rw [State.authorizeTicket, e, ht]

theorem takeTerms_funded {x : Terms} {n hold : Nat} {j : Fin 64} {a : Account} (hn : x.account = some n) (hh : x.hold = some hold)
    (hj : s.accountSlot n = some j) (ha : s.accounts.get j = some a) :
    s.takeTerms x = { s with accounts := setAt s.accounts j (some { a with held := a.held + hold }) } := by
  rw [State.takeTerms, hn, hh]
  dsimp only
  rw [State.takeHold, modAccount_of_slot hj, modAt, ha]
  rfl

end

/-- Settles O21: the terms of the authorization, then the ticket and the account that they change. -/
theorem authorizeCarriesOut : Obligations.AuthorizeCarriesOut := by
  unfold Obligations.AuthorizeCarriesOut
  intro h f s i k c account given amount usable mass price authorized result told hi hk hp ho he hm hl hgiven hamt
  have hc : exec c s = execAuthorize h f s := rfl
  rw [hc, execAuthorize]
  have hnum : k.number = f.ticket.toNat := number_of_slot hi hk
  have hfound : (s.takeFrame c).ticket f.ticket.toNat = some k := (takeFrame_ticket c).trans ((ticket_of_slot hi).trans hk)
  have hbody : (fun s => withTicket h f.ticket.toNat s fun t =>
      s.authorize h t (authorizeGiven f).1 (authorizeGiven f).2.1 (authorizeGiven f).2.2) (s.takeFrame c) =
      (s.takeFrame c).authorize h k account given amount :=
    withTicket_permitted hfound ((takeFrame_permitted _ _ _).trans (permitted_iff.2 hp)) _
  have hstock : ∀ m ∈ given, 500 ≤ (s.takeFrame c).usableInventory k.nozzleClass := fun m hg => by
    rw [takeFrame_usableInventory]
    exact (hgiven m hg).2.2
  have hgood : presetsGood given amount = true := by
    refine (presetsGood_iff (presetAmount_le f)).trans ?_
    rw [Bool.and_eq_true, Option.all_eq_true, Option.all_eq_true]
    exact ⟨fun m hg => by simp [(hgiven m hg).1, (hgiven m hg).2.1], fun a ha => by simpa using hamt a ha⟩
  have hterms := authorizationTerms_station (s := s.takeFrame c) (h := h) (k := k) (account := account) (mass := given)
    (amount := amount) (by rwa [takeFrame_cfg]) (by rwa [takeFrame_tradeLockOpen]) hgood
  have hi' : (s.takeFrame c).ticketSlot k.number = some i := by rw [takeFrame_ticketSlot, hnum, hi]
  have hk' : (s.takeFrame c).tickets.get i = some k := by rw [takeFrame_tickets, hk]
  have he' : (s.takeFrame c).esdLatch = false := by rw [takeFrame_esdLatch, he]
  refine ⟨fun hno hsup => ?_, fun n j a hyes hj ha hst hpe hle => ?_⟩
  · have hx : (s.takeFrame c).authorizationTerms h k account given amount =
        .inr ⟨none, mass, amount, none, given.any fun m => decide (usable < m), none⟩ := by
      rw [hterms, hno, Option.elim_none]
      rw [takeFrame_cfg, if_pos hsup, termsFor_free hstock, takeFrame_usableInventory]
    rw [answer_of (hbody.trans (authorize_passes ho he' hx)), authorizeTicket_of_slot (accounts := s.accounts) ?_ hi' hk']
    · simp only [takeFrame_tickets, takeFrame_cfg, takeFrame_price, takeFrame_metrologyCount, State.windowLength, takeFrame_site]
      have hauth : k.authorized ⟨none, mass, amount, none, given.any fun m => decide (usable < m), none⟩
          (s.cfg k.position).authMode (s.price k.nozzleClass) s.metrologyCount (s.site.authWindow * 1000) = authorized none none := by
        simp only [Ticket.authorized, authorized, hno]
        rfl
      rw [hauth]
      simp only [told]
      split <;> rw [← takeFrame_accounts s c]
    · rw [State.takeTerms]
      dsimp only
      rw [← takeFrame_accounts s c]
  · have hn : (s.takeFrame c).account n = some a := (takeFrame_account c).trans ((account_of_slot hj).trans ha)
    have han : a.number = n := number_of_accountSlot hj ha
    set hold := holdOf amount mass price a with hhold
    have hx : (s.takeFrame c).authorizationTerms h k account given amount =
        .inr ⟨some n, mass, some hold, some hold, given.any fun m => decide (usable < m), a.tag⟩ := by
      rw [hterms, hyes, Option.elim_some]
      rw [State.termsWithAccount, hn]
      dsimp only
      rw [if_neg (not_not.2 hst), hpe, termsFor_account hstock a (hold := hold) (by rw [takeFrame_usableInventory, takeFrame_price]),
        takeFrame_site, if_neg (Nat.not_lt.2 hle), takeFrame_usableInventory, han]
      rfl
    have hj' : (s.takeFrame c).accountSlot n = some j := (takeFrame_accountSlot c).trans hj
    have ha' : (s.takeFrame c).accounts.get j = some a := by rw [takeFrame_accounts, ha]
    rw [answer_of (hbody.trans (authorize_passes ho he' hx)), authorizeTicket_of_slot (takeTerms_funded rfl rfl hj' ha') hi' hk']
    simp only [takeFrame_tickets, takeFrame_cfg, takeFrame_price, takeFrame_metrologyCount, State.windowLength, takeFrame_site,
      takeFrame_accounts]
    have hauth : k.authorized ⟨some n, mass, some hold, some hold, given.any fun m => decide (usable < m), a.tag⟩
        (s.cfg k.position).authMode (s.price k.nozzleClass) s.metrologyCount (s.site.authWindow * 1000) =
        authorized (some hold) a.tag := by
      simp only [Ticket.authorized, authorized, hyes]
      rfl
    rw [hauth]

end Sys2Proof.Machine
end

section
/-! PROOFS. The status requests: the payload of each reply, byte by byte. -/

namespace Sys2Proof.Machine

/-! ### The parts of a payload whose bytes are not given one by one -/

/-- 12.6.10: the value that a reply shows of a channel. -/
def State.valueShown (s : State) (c : Option (Fin 32)) : Word16 := c.elim 0 fun i => BitVec.ofNat 16 (s.chan i).value

/-- 12.6.10: the state that a reply shows of a channel. -/
def State.stateShown (s : State) (c : Option (Fin 32)) : Byte := c.elim 255 fun i => BitVec.ofNat 8 (s.chan i).state.code

theorem outChannel_eq (s : State) (c : Option (Fin 32)) : s.outChannel c = bytes16 (s.valueShown c) ++ [s.stateShown c] := by
  cases c <;> rfl

/-- 12.6.10: a channel is shown where its value and its state are. -/
theorem showsChannel_of {s : State} {b : List Byte} {k : Nat} {c : Option (Fin 32)} (hv : u16 b k = s.valueShown c)
    (hs : u8 b (k + 2) = s.stateShown c) : showsChannel s b k c := by
  cases c <;> exact ⟨hv, hs⟩

theorem outTag_bytes (t : Option Tag) :
    outTag t = [u8 (outTag t) 0, u8 (outTag t) 1, u8 (outTag t) 2, u8 (outTag t) 3, u8 (outTag t) 4, u8 (outTag t) 5,
      u8 (outTag t) 6, u8 (outTag t) 7] := (payload_eq (length_outTag t)).symm

/-- 12.6: entries of one length, padded to the length of a full table. -/
theorem padTo_flatMap {α : Type} (F : α → List Byte) (k : Nat) (hF : ∀ a, (F a).length = k) (n : Nat) (l : List α)
    (h : l.length ≤ n) :
    padTo (n * k) (l.flatMap F) = (List.range n).flatMap fun i => l[i]?.elim (List.replicate k 0) F := by
  have hlen (l : List α) : (l.flatMap F).length = l.length * k := by
    induction l with
    | nil => simp
    | cons a l ih => rw [List.flatMap_cons, List.length_append, ih, hF, List.length_cons, Nat.succ_mul, Nat.add_comm]
  induction n generalizing l with
  | zero =>
    obtain rfl := List.length_eq_zero_iff.1 (Nat.le_zero.1 h)
    simp [padTo]
  | succ n ih =>
    rw [List.range_succ_eq_map, List.flatMap_cons, List.flatMap_map]
    cases l with
    | nil =>
      have := ih [] (Nat.zero_le n)
      simp only [padTo, List.flatMap_nil, List.nil_append, List.length_nil, Nat.sub_zero, List.getElem?_nil, Option.elim_none]
        at this ⊢
      rw [← this, ← List.replicate_add, Nat.succ_mul, Nat.add_comm]
    | cons a l =>
      have := ih l (Nat.le_of_succ_le_succ h)
      rw [padTo, hlen, List.flatMap_cons, List.length_cons, Nat.succ_mul, Nat.succ_mul, Nat.add_sub_add_right, List.append_assoc,
        ← hlen]
      exact congrArg (F a ++ ·) this

section
variable {α : Type} (x : Option α)

theorem elim_pair (f g : α → Byte) : (x.elim [0, 0] fun a => [f a, g a]) = [x.elim 0 f, x.elim 0 g] := by cases x <;> rfl

theorem elim_bytes32 (f : α → Word32) : (x.elim [0, 0, 0, 0] fun a => bytes32 (f a)) = bytes32 (x.elim 0 f) := by
  cases x
  · exact (by decide : ([0, 0, 0, 0] : List Byte) = bytes32 0)
  · rfl

theorem elim_cons_bytes32 (f : α → Byte) (g : α → Word32) :
    (x.elim [0, 0, 0, 0, 0] fun a => f a :: bytes32 (g a)) = x.elim 0 f :: bytes32 (x.elim 0 g) := by
  cases x
  · exact congrArg ((0 : Byte) :: ·) (by decide : ([0, 0, 0, 0] : List Byte) = bytes32 0)
  · rfl

end

/-- 12.6: a number is read where its bytes are. -/
theorem read16 {b : List Byte} {i : Nat} {x : Word16} (h0 : u8 b i = x.extractLsb' 8 8) (h1 : u8 b (i + 1) = x.extractLsb' 0 8) :
    u16 b i = x := by
  rw [u16, h0, h1]
  exact extract16_append x

theorem read32 {b : List Byte} {i : Nat} {x : Word32} (h0 : u16 b i = x.extractLsb' 16 16)
    (h1 : u16 b (i + 2) = x.extractLsb' 0 16) : u32 b i = x := by
  rw [u32, h0, h1]
  exact extract32_append x

/-- 12.6.8: a set of positions in one byte. -/
theorem toByte_bit (a : PosSet) : ∀ i < 8, a.toByte.getLsbD i = decide (∃ p : Fin 4, p.val = i ∧ a.has p = true) := by
  obtain ⟨x, y, z, w⟩ := a
  revert x y z w
  decide

/-- 12.6: the bits of a byte that is made of bits. -/
theorem bits8 (bits : List Bool) (i : Nat) (h : i < 8) : (out8 (bitNumber bits)).getLsbD i = bits.getD i false := by
  rw [out8, BitVec.getLsbD_ofNat, decide_eq_true h, Bool.true_and, testBit_bitNumber]

theorem bits16 (bits : List Bool) (i : Nat) (h : i < 16) : (BitVec.ofNat 16 (bitNumber bits)).getLsbD i = bits.getD i false := by
  rw [BitVec.getLsbD_ofNat, decide_eq_true h, Bool.true_and, testBit_bitNumber]

/-! ### Channels of records -/

theorem configured_eq (s : State) (c : Option (Fin 32)) (r : Role) : s.configured c r = namesFor s c r := by
  cases c <;> rfl

theorem serving_eq (s : State) (c : Option (Fin 32)) (r : Role) : s.serving c r = if namesFor s c r then c else none := by
  rw [State.serving, configured_eq]

section
variable (s : State) (p : Fin 4)

/-! ### READ_POSITION -/

theorem slotCode_shown : out8 (s.slotCode p) = if s.precool.holders.has p then 1 else if p ∈ s.precool.waitQueue then 2 else 0 := by
  unfold State.slotCode
  split
  · rfl
  · split <;> rfl

theorem contactCode_shown (closed : Bool) : out8 (contactCode closed) = if closed then 0 else 1 := by cases closed <;> rfl

theorem ventOpen_shown : outBool (s.ventOpen p) = if (s.pos p).state = .ending then 1 else 0 := if_congr beq_iff_eq rfl rfl

theorem variant_shown (v : Option StartVariant) :
    out8 ((v.map StartVariant.code).getD 0) = if v = some .pulseOnly then 1 else 0 := by
  cases v with
  | none => rfl
  | some v => cases v <;> rfl

theorem bit_shown (b : Option Bool) : outBool (b.getD false) = if b = some true then 1 else 0 := by
  cases b with
  | none => rfl
  | some b => cases b <;> rfl

/-- 12.6.10: bytes 0 to 34 of READ_POSITION. -/
def State.positionStart (s : State) (p : Fin 4) : List Byte := s.positionHead p ++ s.positionField p

/-- 12.6.10: bytes 35 to 78 of READ_POSITION. -/
def Position.statusEnd (q : Position) : List Byte := q.ramp.record ++ (q.link.record ++ ([out8 q.phaseFaults] ++ out16 q.stray))

theorem positionReply_eq : s.positionReply p = s.positionStart p ++ (s.pos p).statusEnd := by
  simp only [State.positionReply, State.positionStart, Position.statusEnd, List.append_assoc]

theorem positionStart_length : (s.positionStart p).length = 35 := by
  unfold State.positionStart State.positionField
  dsimp only
  rw [outChannel_eq, outChannel_eq]
  rfl

theorem statusEnd_length (q : Position) : q.statusEnd.length = 44 := by
  unfold Position.statusEnd LinkContext.record
  rw [outTag_bytes]
  rfl

theorem positionReply_length : (s.positionReply p).length = 79 := by
  rw [positionReply_eq, List.length_append, positionStart_length, statusEnd_length]

theorem statusEnd_ramp (q : Position) :
    let b := q.statusEnd
    u8 b 0 = BitVec.ofNat 8 ((q.ramp.profile.map Fin.val).getD 0) ∧ u32 b 1 = BitVec.ofNat 32 q.ramp.time ∧
    u8 b 5 = (if q.ramp.taper then 1 else 0) ∧ u32 b 6 = BitVec.ofNat 32 (q.ramp.target.getD 0) ∧
    u32 b 10 = BitVec.ofInt 32 q.ramp.error ∧ u8 b 14 = BitVec.ofNat 8 q.ramp.starved ∧
    u8 b 15 = BitVec.ofNat 8 q.ramp.lagging :=
  ⟨rfl, read32 (read16 rfl rfl) (read16 rfl rfl), rfl, read32 (read16 rfl rfl) (read16 rfl rfl), read32 (read16 rfl rfl) (read16 rfl rfl), rfl, rfl⟩

theorem statusEnd_link (q : Position) :
    let b := q.statusEnd
    let l := q.link
    (u8 b 16 = BitVec.ofNat 8 l.state.code ∧
      u8 b 17 = BitVec.ofNat 8 ((l.vehicleClass.map NozzleClass.code).getD 0) ∧
      u16 b 18 = BitVec.ofNat 16 (l.volume.getD 0) ∧ tagAt b 20 = l.tag.getD (Vector.replicate 8 0) ∧
      u16 b 28 = BitVec.ofNat 16 (l.tankPressure.getD 0) ∧ u16 b 30 = BitVec.ofNat 16 (l.tankTemperature.getD 0) ∧
      u8 b 32 = (if l.lastBit = some true then 1 else 0) ∧ u8 b 33 = (if l.expectedBit = some true then 1 else 0) ∧
      u8 b 34 = BitVec.ofNat 8 ((l.lastCommand.map VehicleCommand.code).getD 0) ∧
      u16 b 35 = BitVec.ofNat 16 l.rejected ∧ u16 b 37 = BitVec.ofNat 16 l.repeated ∧
      u16 b 39 = BitVec.ofNat 16 l.ignored) ∧
    u8 b 41 = BitVec.ofNat 8 q.phaseFaults ∧ u16 b 42 = BitVec.ofNat 16 q.stray := by
  unfold Position.statusEnd LinkContext.record
  rw [outTag_bytes]
  exact ⟨⟨rfl, rfl, read16 rfl rfl, tagAt_outTag _, read16 rfl rfl, read16 rfl rfl, bit_shown _, bit_shown _, rfl, read16 rfl rfl,
    read16 rfl rfl, read16 rfl rfl⟩, rfl, read16 rfl rfl⟩

theorem positionStart_head :
    let b := s.positionStart p
    let q := s.pos p
    u8 b 0 = BitVec.ofNat 8 q.state.code ∧ u8 b 1 = BitVec.ofNat 8 q.state.substateCode ∧
    u16 b 2 = BitVec.ofNat 16 (q.active.getD 0) ∧ u16 b 4 = BitVec.ofNat 16 (q.staged.getD 0) ∧
    u16 b 6 = BitVec.ofNat 16 q.valve ∧ u8 b 8 = (if q.state = .ending then 1 else 0) ∧
    u8 b 9 = BitVec.ofNat 8 ((q.drawBank.map Fin.val).getD 255) ∧
    u8 b 10 = BitVec.ofNat 8 (((s.grade p).map Grade.code).getD 255) ∧
    u8 b 11 = (if s.precool.holders.has p then 1 else if p ∈ s.precool.waitQueue then 2 else 0) ∧
    u16 b 12 = BitVec.ofNat 16 q.presence :=
  ⟨rfl, rfl, read16 rfl rfl, read16 rfl rfl, read16 rfl rfl, ventOpen_shown s p, rfl, rfl, slotCode_shown s p, read16 rfl rfl⟩

theorem positionStart_field :
    let b := s.positionStart p
    let q := s.pos p
    (u16 b 14 = BitVec.ofNat 16 (q.pInit.getD 0) ∧ u8 b 16 = (if q.variant = some .pulseOnly then 1 else 0) ∧
      u8 b 17 = BitVec.ofNat 8 (q.leakTolerance.getD 0) ∧ u32 b 18 = BitVec.ofNat 32 q.fillTime) ∧
    (u16 b 22 = s.valueShown (s.serving (s.cfg p).pDisp (.pDisp p)) ∧
      u8 b 24 = s.stateShown (s.serving (s.cfg p).pDisp (.pDisp p))) ∧
    (u16 b 25 = s.valueShown (s.serving (s.cfg p).tGas (.tGas p)) ∧
      u8 b 27 = s.stateShown (s.serving (s.cfg p).tGas (.tGas p))) ∧
    (u8 b 28 = (if (s.debouncers.holster.get p).level then 0 else 1) ∧
      u8 b 29 = (if (s.debouncers.coupling.get p).level then 0 else 1)) ∧
    u8 b 30 = out8 q.factors.code ∧
    (u8 b 31 = BitVec.ofNat 8 q.state.releaseCode ∧ u8 b 32 = (if q.resumeTimer.isSome then 1 else 0) ∧
      u16 b 33 = BitVec.ofNat 16 (q.holdTime / 1000)) := by
  unfold State.positionStart State.positionField
  dsimp only
  rw [outChannel_eq, outChannel_eq]
  exact ⟨⟨read16 rfl rfl, variant_shown _, rfl, read32 (read16 rfl rfl) (read16 rfl rfl)⟩, ⟨read16 rfl rfl, rfl⟩, ⟨read16 rfl rfl, rfl⟩,
    ⟨contactCode_shown _, contactCode_shown _⟩, rfl, rfl, rfl, read16 rfl rfl⟩

/-- 12.6: the second part of a payload is read from where the first ends. -/
theorem read_shift {a b : List Byte} {n : Nat} (h : a.length = n) (i : Nat) :
    u8 (a ++ b) (n + i) = u8 b i ∧ u16 (a ++ b) (n + i) = u16 b i ∧ u32 (a ++ b) (n + i) = u32 b i ∧
    tagAt (a ++ b) (n + i) = tagAt b i := by
  have h8 (j : Nat) : u8 (a ++ b) (n + j) = u8 b j := by
    rw [u8_append_right (by omega), h, Nat.add_sub_cancel_left]
  have h16 (j : Nat) : u16 (a ++ b) (n + j) = u16 b j := by rw [u16, u16, Nat.add_assoc, h8, h8]
  refine ⟨h8 i, h16 i, by rw [u32, u32, Nat.add_assoc, h16, h16], ?_⟩
  simp only [tagAt, Nat.add_assoc, h8]

theorem u16_append_left {a b : List Byte} {i : Nat} (h : i + 2 ≤ a.length) : u16 (a ++ b) i = u16 a i := by
  rw [u16, u16, u8_append_left (by omega), u8_append_left (by omega)]

theorem positionReply_start8 {i : Nat} (h : i < 35) : u8 (s.positionReply p) i = u8 (s.positionStart p) i := by
  rw [positionReply_eq, u8_append_left (by rw [positionStart_length]; exact h)]

theorem positionReply_start16 {i : Nat} (h : i < 34) : u16 (s.positionReply p) i = u16 (s.positionStart p) i := by
  rw [positionReply_eq, u16_append_left (by rw [positionStart_length]; omega)]

theorem positionReply_start32 {i : Nat} (h : i < 32) : u32 (s.positionReply p) i = u32 (s.positionStart p) i := by
  rw [positionReply_eq, u32_append_left (by rw [positionStart_length]; omega)]

theorem positionReply_end (i : Nat) :
    u8 (s.positionReply p) (35 + i) = u8 (s.pos p).statusEnd i ∧ u16 (s.positionReply p) (35 + i) = u16 (s.pos p).statusEnd i ∧
    u32 (s.positionReply p) (35 + i) = u32 (s.pos p).statusEnd i ∧
    tagAt (s.positionReply p) (35 + i) = tagAt (s.pos p).statusEnd i := by
  rw [positionReply_eq]
  exact read_shift (positionStart_length s p) i

/-- R66: the bytes of READ_POSITION, from the parts of its payload. -/
theorem positionReply_shows : positionShown s p (s.positionReply p) := by
  obtain ⟨h0, h1, h2, h4, h6, h8, h9, h10, h11, h12⟩ := positionStart_head s p
  obtain ⟨⟨h14, h16, h17, h18⟩, ⟨h22, h24⟩, ⟨h25, h27⟩, ⟨h28, h29⟩, h30, h31, h32, h33⟩ := positionStart_field s p
  obtain ⟨r0, r1, r5, r6, r10, r14, r15⟩ := statusEnd_ramp (s.pos p)
  obtain ⟨⟨l16, l17, l18, l20, l28, l30, l32, l33, l34, l35, l37, l39⟩, l41, l42⟩ := statusEnd_link (s.pos p)
  have f8 {i : Nat} (h : i < 35) := positionReply_start8 s p h
  have f16 {i : Nat} (h : i < 34) := positionReply_start16 s p h
  have e8 (i : Nat) := (positionReply_end s p i).1
  have e16 (i : Nat) := (positionReply_end s p i).2.1
  have e32 (i : Nat) := (positionReply_end s p i).2.2.1
  unfold positionShown
  dsimp only
  rw [← serving_eq, ← serving_eq]
  refine ⟨⟨(f8 (by omega)).trans h0, (f8 (by omega)).trans h1, (f16 (by omega)).trans h2, (f16 (by omega)).trans h4,
      (f16 (by omega)).trans h6, (f8 (by omega)).trans h8, (f8 (by omega)).trans h9, (f8 (by omega)).trans h10,
      (f8 (by omega)).trans h11⟩, fun i hi => ?_,
    ⟨(f16 (by omega)).trans h14, (f8 (by omega)).trans h16, (f8 (by omega)).trans h17,
      (positionReply_start32 s p (by omega)).trans h18⟩,
    showsChannel_of ((f16 (by omega)).trans h22) ((f8 (by omega)).trans h24),
    showsChannel_of ((f16 (by omega)).trans h25) ((f8 (by omega)).trans h27),
    ⟨(f8 (by omega)).trans h28, (f8 (by omega)).trans h29⟩, fun i hi => ?_,
    ⟨(f8 (by omega)).trans h31, (f8 (by omega)).trans h32, (f16 (by omega)).trans h33⟩,
    ⟨(e8 0).trans r0, (e32 1).trans r1, (e8 5).trans r5, (e32 6).trans r6, (e32 10).trans r10, (e8 14).trans r14,
      (e8 15).trans r15⟩,
    ⟨(e8 16).trans l16, (e8 17).trans l17, (e16 18).trans l18, (positionReply_end s p 20).2.2.2.trans l20, (e16 28).trans l28,
      (e16 30).trans l30, (e8 32).trans l32, (e8 33).trans l33, (e8 34).trans l34, (e16 35).trans l35, (e16 37).trans l37,
      (e16 39).trans l39⟩, (e8 41).trans l41, (e16 42).trans l42⟩
  · rw [f16 (by omega), h12]
    exact bits16 _ i hi
  · rw [f8 (by omega), h30]
    exact bits8 _ i hi

/-! ### READ_BANK -/

variable (a : Fin 6)

/-- 12.6.10: the state that a reply shows of a bank's channel. -/
def State.bankStateShown (s : State) (c : Option (Fin 32)) (r : Role) : Byte :=
  out8 (((s.namedState (s.serving c r)).map ChannelState.code).getD 255)

theorem bankReply_length : (s.bankReply a).length = 34 := rfl

/-- R136: a reading of a bank, 0 and 255 unless the named channel serves it. -/
theorem bankReading_shown {b : List Byte} {k v : Nat} {c : Option (Fin 32)} {r : Role}
    (hv : u16 b k = BitVec.ofNat 16 (if (s.serving c r).isSome then v else 0)) (hs : u8 b (k + 2) = s.bankStateShown c r) :
    if namesFor s c r then u16 b k = BitVec.ofNat 16 v ∧ ∀ j ∈ c, u8 b (k + 2) = BitVec.ofNat 8 (s.chan j).state.code
    else u16 b k = 0 ∧ u8 b (k + 2) = 255 := by
  rw [serving_eq] at hv
  rw [State.bankStateShown, serving_eq] at hs
  by_cases h : namesFor s c r = true
  · rw [if_pos h] at hv hs ⊢
    cases c with
    | none => cases h
    | some j => exact ⟨hv, fun i hi => by obtain rfl := Option.some.inj hi; exact hs⟩
  · rw [if_neg h] at hv hs ⊢
    exact ⟨hv, hs⟩

theorem classesCode_shown (x y : Bool) : out8 (classesCode x y) = (if x then 1 else 0) + (if y then 2 else 0) := by
  revert x y; decide

theorem refillStatus_shown : out8 (s.refillStatus a).code =
    if s.compressor.activeBank = some a then 2 else if a ∈ s.compressor.queue then 1 else 0 := by
  unfold State.refillStatus
  split
  · rfl
  · split <;> rfl

theorem drawSet_shown : ∀ i < 8, (s.drawSet a).toByte.getLsbD i = decide (∃ p : Fin 4, p.val = i ∧ (s.pos p).drawBank = some a) := by
  have hd (p : Fin 4) : (s.drawSet a).has p = true ↔ (s.pos p).drawBank = some a := by
    fin_cases p <;> exact beq_iff_eq
  intro i hi
  rw [toByte_bit _ i hi]
  exact decide_eq_decide.2 (exists_congr fun p => and_congr_right fun _ => hd p)

/-- 12.6.10: bytes 0 to 18 of READ_BANK. -/
def State.bankStart (s : State) (a : Fin 6) : List Byte :=
  let c := s.bankCfg a
  bankRecord a c ++ out16 (if (s.serving c.pChannel (.bankP a)).isSome then (s.bank a).p else 0) ++
    [s.bankStateShown c.pChannel (.bankP a)] ++ out16 (if (s.serving c.tChannel (.bankT a)).isSome then (s.bank a).t else 0) ++
    [s.bankStateShown c.tChannel (.bankT a)]

/-- 12.6.10: bytes 19 to 33 of READ_BANK. -/
def State.bankEnd (s : State) (a : Fin 6) : List Byte :=
  out32 (s.bank a).inventory ++ ([outBool (s.bank a).isolated, (s.drawSet a).toByte, out8 (s.refillStatus a).code] ++
    (out32 (s.usableInventory .h70) ++ out32 (s.usableInventory .h35)))

theorem bankReply_eq : s.bankReply a = s.bankStart a ++ s.bankEnd a := by
  simp only [State.bankReply, State.bankStart, State.bankEnd, State.bankStateShown, List.append_assoc]

theorem bankStart_head :
    let b := s.bankStart a
    let c := s.bankCfg a
    u8 b 0 = BitVec.ofNat 8 a.val ∧ u8 b 1 = (if c.inService then 1 else 0) ∧
    u8 b 2 = (if c.servesH70 then 1 else 0) + (if c.servesH35 then 2 else 0) ∧
    u16 b 3 = BitVec.ofNat 16 c.rated ∧ u16 b 5 = BitVec.ofNat 16 c.volume ∧
    u16 b 7 = BitVec.ofNat 16 c.refillTarget ∧ u16 b 9 = BitVec.ofNat 16 c.refillStart ∧
    u8 b 11 = BitVec.ofNat 8 ((c.pChannel.map Fin.val).getD 255) ∧
    u8 b 12 = BitVec.ofNat 8 ((c.tChannel.map Fin.val).getD 255) :=
  ⟨rfl, rfl, classesCode_shown _ _, read16 rfl rfl, read16 rfl rfl, read16 rfl rfl, read16 rfl rfl, rfl, rfl⟩

theorem bankStart_readings :
    let b := s.bankStart a
    let c := s.bankCfg a
    (u16 b 13 = BitVec.ofNat 16 (if (s.serving c.pChannel (.bankP a)).isSome then (s.bank a).p else 0) ∧
      u8 b 15 = s.bankStateShown c.pChannel (.bankP a)) ∧
    u16 b 16 = BitVec.ofNat 16 (if (s.serving c.tChannel (.bankT a)).isSome then (s.bank a).t else 0) ∧
      u8 b 18 = s.bankStateShown c.tChannel (.bankT a) :=
  ⟨⟨read16 rfl rfl, rfl⟩, read16 rfl rfl, rfl⟩

theorem bankEnd_bytes :
    let b := s.bankEnd a
    u32 b 0 = BitVec.ofNat 32 (s.bank a).inventory ∧ u8 b 4 = (if (s.bank a).isolated then 1 else 0) ∧
    u8 b 5 = (s.drawSet a).toByte ∧ u8 b 6 = out8 (s.refillStatus a).code ∧
    u32 b 7 = BitVec.ofNat 32 (s.usableInventory .h70) ∧ u32 b 11 = BitVec.ofNat 32 (s.usableInventory .h35) :=
  ⟨read32 (read16 rfl rfl) (read16 rfl rfl), rfl, rfl, rfl, read32 (read16 rfl rfl) (read16 rfl rfl),
    read32 (read16 rfl rfl) (read16 rfl rfl)⟩

theorem bankStart_length : (s.bankStart a).length = 19 := rfl

theorem bankReply_start8 {i : Nat} (h : i < 19) : u8 (s.bankReply a) i = u8 (s.bankStart a) i := by
  rw [bankReply_eq, u8_append_left (by rw [bankStart_length]; exact h)]

theorem bankReply_start16 {i : Nat} (h : i < 18) : u16 (s.bankReply a) i = u16 (s.bankStart a) i := by
  rw [bankReply_eq, u16_append_left (by rw [bankStart_length]; omega)]

theorem bankReply_end (i : Nat) :
    u8 (s.bankReply a) (19 + i) = u8 (s.bankEnd a) i ∧ u16 (s.bankReply a) (19 + i) = u16 (s.bankEnd a) i ∧
    u32 (s.bankReply a) (19 + i) = u32 (s.bankEnd a) i ∧ tagAt (s.bankReply a) (19 + i) = tagAt (s.bankEnd a) i := by
  rw [bankReply_eq]
  exact read_shift (bankStart_length s a) i

/-- R136: the bytes of READ_BANK, from the two parts of its payload. -/
theorem bankReply_shows : bankShown s a (s.bankReply a) := by
  obtain ⟨h0, h1, h2, h3, h5, h7, h9, h11, h12⟩ := bankStart_head s a
  obtain ⟨⟨h13, h15⟩, h16, h18⟩ := bankStart_readings s a
  obtain ⟨e0, e4, e5, e6, e7, e11⟩ := bankEnd_bytes s a
  have f8 {i : Nat} (h : i < 19) := bankReply_start8 s a h
  have f16 {i : Nat} (h : i < 18) := bankReply_start16 s a h
  have e8 (i : Nat) := (bankReply_end s a i).1
  have e32 (i : Nat) := (bankReply_end s a i).2.2.1
  unfold bankShown
  dsimp only
  refine ⟨⟨(f8 (by omega)).trans h0, (f8 (by omega)).trans h1, (f8 (by omega)).trans h2, (f16 (by omega)).trans h3,
      (f16 (by omega)).trans h5, (f16 (by omega)).trans h7, (f16 (by omega)).trans h9, (f8 (by omega)).trans h11,
      (f8 (by omega)).trans h12⟩,
    bankReading_shown s ((f16 (by omega)).trans h13) ((f8 (by omega)).trans h15),
    bankReading_shown s ((f16 (by omega)).trans h16) ((f8 (by omega)).trans h18),
    (e32 0).trans e0, (e8 4).trans e4, fun i hi => ?_, ((e8 6).trans e6).trans (refillStatus_shown s a),
    (e32 7).trans e7, (e32 11).trans e11⟩
  rw [(e8 5).trans e5]
  exact drawSet_shown s a i hi

/-! ### READ_CHANNEL and READ_EVENTS -/

theorem channelReply_length (i : Fin 32) : (s.channelReply i).length = 22 := rfl

theorem channelReply_shows (i : Fin 32) : channelShown s i (s.channelReply i) := by
  unfold channelShown
  dsimp only
  exact ⟨⟨rfl, rfl, rfl, rfl, read16 rfl rfl, read16 rfl rfl, read16 rfl rfl⟩, rfl, read16 rfl rfl, rfl,
    read32 (read16 rfl rfl) (read16 rfl rfl), read16 rfl rfl, rfl, rfl⟩

theorem eventsReply_words :
    u32 s.eventsReply 0 = s.pendingFlags.setWidth 32 ∧ u32 s.eventsReply 4 = s.site.eventMask.setWidth 32 ∧
    u16 s.eventsReply 8 = BitVec.ofNat 16 s.discardedFrames ∧ u16 s.eventsReply 10 = BitVec.ofNat 16 s.bufferOverruns ∧
    u32 s.eventsReply 12 = s.clock :=
  ⟨read32 (read16 rfl rfl) (read16 rfl rfl), read32 (read16 rfl rfl) (read16 rfl rfl), read16 rfl rfl, read16 rfl rfl,
    read32 (read16 rfl rfl) (read16 rfl rfl)⟩

/-- R186: the attention line. -/
theorem attention_iff : s.attention = true ↔ ∃ i < 27, s.pendingFlags.getLsbD i = true ∧ s.site.eventMask.getLsbD i = true := by
  unfold State.attention
  rw [bne_iff_ne, ne_eq, ← not_iff_not, not_not]
  constructor
  · rintro h ⟨i, hi, hp, hm⟩
    have := congrArg (fun x : BitVec 27 => x.getLsbD i) h
    simp [hp, hm] at this
  · intro h
    refine BitVec.eq_of_getLsbD_eq fun i hi => ?_
    by_contra hne
    refine h ⟨i, hi, ?_⟩
    rw [BitVec.getLsbD_and] at hne
    simpa using hne

/-! ### READ_COMPRESSOR and READ_PRECOOL -/

theorem compressorReply_queue (h : s.compressor.queue.length ≤ 6) :
    padTo 12 (s.compressor.queue.flatMap fun b => [out8 b.val, out8 (s.refillStatus b).code]) =
      (List.range 6).flatMap fun i =>
        [s.compressor.queue[i]?.elim 0 fun b => out8 b.val, s.compressor.queue[i]?.elim 0 fun b => out8 (s.refillStatus b).code] :=
  (padTo_flatMap _ 2 (fun _ => rfl) 6 _ h).trans (congrArg (List.range 6).flatMap (funext fun _ => elim_pair _ _ _))

theorem compressorReply_returns (h : s.compressor.returns.length ≤ 6) :
    padTo 24 (s.compressor.returns.flatMap out32) =
      (List.range 6).flatMap fun i => bytes32 (s.compressor.returns[i]?.elim 0 fun x => BitVec.ofNat 32 x) :=
  (padTo_flatMap _ 4 (fun _ => rfl) 6 _ h).trans (congrArg (List.range 6).flatMap (funext fun _ => elim_bytes32 _ _))

theorem precoolReply_queue (h : s.precool.waitQueue.length ≤ 4) :
    padTo 20 (s.precool.waitQueue.flatMap fun p => out8 p.val :: outTimer (s.pos p).coolWaitTimer) =
      (List.range 4).flatMap fun i =>
        (s.precool.waitQueue[i]?.elim 0 fun p => out8 p.val) ::
          bytes32 (s.precool.waitQueue[i]?.elim 0 fun p => timerShown (s.pos p).coolWaitTimer) :=
  (padTo_flatMap _ 5 (fun _ => rfl) 4 _ h).trans (congrArg (List.range 4).flatMap (funext fun _ => elim_cons_bytes32 _ _ _))

theorem inhibit_shown (c : Compressor) : outBool c.inhibit = if c.supply ≠ .clear ∨ c.esdCause = true then 1 else 0 := by
  unfold Compressor.inhibit outBool
  refine if_congr ?_ rfl rfl
  rw [Bool.or_eq_true, bne_iff_ne]

theorem queueStatus_shown {i : Nat} :
    (s.compressor.queue[i]?.elim 0 fun b => out8 (s.refillStatus b).code) =
      s.compressor.queue[i]?.elim 0 fun x => if s.compressor.activeBank = some x then 2 else 1 := by
  cases h : s.compressor.queue[i]? with
  | none => rfl
  | some x =>
    have hm : x ∈ s.compressor.queue := List.mem_of_getElem? h
    rw [Option.elim_some, refillStatus_shown, if_pos hm]
    rfl

theorem elim_ofNat {α : Type} (n : Nat) (x : Option α) (f : α → Nat) :
    (x.elim 0 fun a => BitVec.ofNat n (f a)) = BitVec.ofNat n ((x.map f).getD 0) := by cases x <;> rfl

section
variable (hq : s.compressor.queue.length ≤ 6) (hr : s.compressor.returns.length ≤ 6)
include hq hr

theorem compressorReply_length : s.compressorReply.length = 55 := by
  unfold State.compressorReply
  dsimp only
  rw [compressorReply_queue s hq, compressorReply_returns s hr, outChannel_eq, outChannel_eq]
  rfl

/-- 12.6.10: bytes 0 to 20 of READ_COMPRESSOR, with the queue entry by entry. -/
def Compressor.statusStart (c : Compressor) (status : Fin 6 → Byte) : List Byte :=
  [out8 c.state.code, out8 (bankCode c.activeBank)] ++ outTimer c.timer ++ [out8 c.queue.length] ++
    ((List.range 6).flatMap fun i => [c.queue[i]?.elim 0 fun b => out8 b.val, c.queue[i]?.elim 0 status]) ++
    [out8 c.credits, out8 c.returns.length]

/-- 12.6.10: bytes 21 to 44 of READ_COMPRESSOR. -/
def Compressor.returnsShown (c : Compressor) : List Byte :=
  (List.range 6).flatMap fun i => bytes32 (c.returns[i]?.elim 0 fun x => BitVec.ofNat 32 x)

/-- 12.6.10: bytes 45 to 54 of READ_COMPRESSOR. -/
def State.compressorEnd (s : State) : List Byte :=
  [outBool s.compressor.creditWait, out8 s.compressor.supply.code, outBool s.compressor.esdCause,
    outBool s.compressor.inhibit] ++ (s.outChannel (s.roleChannel .supply) ++ s.outChannel (s.roleChannel .discharge))

theorem compressorReply_eq : s.compressorReply =
    (s.compressor.statusStart fun b => out8 (s.refillStatus b).code) ++ (s.compressor.returnsShown ++ s.compressorEnd) := by
  unfold State.compressorReply
  dsimp only
  rw [compressorReply_queue s hq, compressorReply_returns s hr]
  simp only [Compressor.statusStart, Compressor.returnsShown, State.compressorEnd, List.append_assoc]

omit hq hr

theorem statusStart_head (c : Compressor) (f : Fin 6 → Byte) :
    let b := c.statusStart f
    u8 b 0 = BitVec.ofNat 8 c.state.code ∧ u8 b 1 = BitVec.ofNat 8 ((c.activeBank.map Fin.val).getD 255) ∧
    u32 b 2 = timerShown c.timer ∧ u8 b 6 = BitVec.ofNat 8 c.queue.length ∧ u8 b 19 = BitVec.ofNat 8 c.credits ∧
    u8 b 20 = BitVec.ofNat 8 c.returns.length :=
  ⟨rfl, rfl, read32 (read16 rfl rfl) (read16 rfl rfl), rfl, rfl, rfl⟩

theorem statusStart_queue (c : Compressor) (f : Fin 6 → Byte) : ∀ i < 6,
    u8 (c.statusStart f) (7 + 2 * i) = (c.queue[i]?.elim 0 fun b => out8 b.val) ∧
    u8 (c.statusStart f) (8 + 2 * i) = c.queue[i]?.elim 0 f := by
  intro i hi
  interval_cases i <;> exact ⟨rfl, rfl⟩

theorem returnsShown_times (c : Compressor) : ∀ i < 6,
    u32 c.returnsShown (4 * i) = BitVec.ofNat 32 (c.returns[i]?.getD 0) := by
  intro i hi
  have h : (c.returns[i]?.elim 0 fun x => BitVec.ofNat 32 x) = BitVec.ofNat 32 (c.returns[i]?.getD 0) := by
    cases c.returns[i]? <;> rfl
  rw [← h]
  interval_cases i <;> exact read32 (read16 rfl rfl) (read16 rfl rfl)

theorem compressorEnd_bytes :
    let b := s.compressorEnd
    let c := s.compressor
    (u8 b 0 = (if c.creditWait then 1 else 0) ∧ u8 b 1 = BitVec.ofNat 8 c.supply.code ∧
      u8 b 2 = (if c.esdCause then 1 else 0) ∧ u8 b 3 = outBool c.inhibit) ∧
    (u16 b 4 = s.valueShown (s.roleChannel .supply) ∧ u8 b 6 = s.stateShown (s.roleChannel .supply)) ∧
    u16 b 7 = s.valueShown (s.roleChannel .discharge) ∧ u8 b 9 = s.stateShown (s.roleChannel .discharge) := by
  unfold State.compressorEnd
  rw [outChannel_eq, outChannel_eq]
  exact ⟨⟨rfl, rfl, rfl, rfl⟩, ⟨read16 rfl rfl, rfl⟩, read16 rfl rfl, rfl⟩

theorem statusStart_length (c : Compressor) (f : Fin 6 → Byte) : (c.statusStart f).length = 21 := rfl

theorem returnsShown_length (c : Compressor) : c.returnsShown.length = 24 := rfl

include hq hr

/-- R152: the bytes of READ_COMPRESSOR, from the three parts of its payload. -/
theorem compressorReply_shows : compressorShown s s.compressorReply := by
  rw [compressorReply_eq s hq hr]
  generalize hx : (s.compressor.statusStart fun b => out8 (s.refillStatus b).code) = x
  have hlen : x.length = 21 := by rw [← hx]; exact statusStart_length _ _
  obtain ⟨h0, h1, h2, h6, h19, h20⟩ := statusStart_head s.compressor fun b => out8 (s.refillStatus b).code
  have hqueue := statusStart_queue s.compressor fun b => out8 (s.refillStatus b).code
  rw [hx] at h0 h1 h2 h6 h19 h20 hqueue
  obtain ⟨⟨e0, e1, e2, e3⟩, ⟨e4, e6⟩, e7, e9⟩ := compressorEnd_bytes s
  have ht := returnsShown_times s.compressor
  have hrl := returnsShown_length s.compressor
  generalize s.compressor.returnsShown = y at ht hrl ⊢
  generalize s.compressorEnd = z at *
  have f8 {i : Nat} (h : i < 21) : u8 (x ++ (y ++ z)) i = u8 x i := u8_append_left (by omega)
  have f32 : u32 (x ++ (y ++ z)) 2 = u32 x 2 := u32_append_left (by omega)
  have m32 {i : Nat} (h : i + 4 ≤ 24) : u32 (x ++ (y ++ z)) (21 + i) = u32 y i :=
    (read_shift hlen i).2.2.1.trans (u32_append_left (by omega))
  have l8 (i : Nat) : u8 (x ++ (y ++ z)) (45 + i) = u8 z i := by
    rw [← List.append_assoc]
    exact (read_shift (by rw [List.length_append, hlen, hrl]) i).1
  have l16 (i : Nat) : u16 (x ++ (y ++ z)) (45 + i) = u16 z i := by
    rw [← List.append_assoc]
    exact (read_shift (by rw [List.length_append, hlen, hrl]) i).2.1
  unfold compressorShown
  dsimp only
  refine ⟨⟨(f8 (by omega)).trans h0, (f8 (by omega)).trans h1, f32.trans h2, (f8 (by omega)).trans h6⟩, fun i hi => ?_,
    (f8 (by omega)).trans h19, (f8 (by omega)).trans h20, fun i hi => (m32 (by omega)).trans (ht i hi),
    ⟨(l8 0).trans e0, (l8 1).trans e1, (l8 2).trans e2, ((l8 3).trans e3).trans (inhibit_shown _)⟩,
    showsChannel_of ((l16 4).trans e4) ((l8 6).trans e6), showsChannel_of ((l16 7).trans e7) ((l8 9).trans e9)⟩
  obtain ⟨hb, hs⟩ := hqueue i hi
  exact ⟨((f8 (by omega)).trans hb).trans (elim_ofNat 8 _ Fin.val), ((f8 (by omega)).trans hs).trans (queueStatus_shown s)⟩

end

section
variable (hw : s.precool.waitQueue.length ≤ 4)
include hw

theorem precoolReply_length : s.precoolReply.length = 53 := by
  unfold State.precoolReply
  dsimp only
  rw [precoolReply_queue s hw, outChannel_eq]
  rfl

theorem precoolReply_shows : precoolShown s s.precoolReply := by
  unfold precoolShown State.precoolReply
  dsimp only
  rw [precoolReply_queue s hw, outChannel_eq]
  refine ⟨⟨rfl, rfl, rfl⟩, showsChannel_of (read16 rfl rfl) rfl, ⟨rfl, rfl, read16 rfl rfl, rfl, toByte_bit _, rfl⟩,
    fun i hi => ?_, fun p => ?_⟩
  · rw [← elim_ofNat]
    interval_cases i <;> exact ⟨rfl, read32 (read16 rfl rfl) (read16 rfl rfl)⟩
  · fin_cases p <;> exact ⟨rfl, read32 (read16 rfl rfl) (read16 rfl rfl)⟩

end

end

/-! ### The requests -/

section
variable (s : State) (c : Instr)

theorem takeFrame_positionReply (p : Fin 4) : (s.takeFrame c).positionReply p = s.positionReply p := by rw [takeFrame_eq]; rfl

theorem takeFrame_bankReply (a : Fin 6) : (s.takeFrame c).bankReply a = s.bankReply a := by rw [takeFrame_eq]; rfl

theorem takeFrame_compressorReply : (s.takeFrame c).compressorReply = s.compressorReply := by rw [takeFrame_eq]; rfl

theorem takeFrame_precoolReply : (s.takeFrame c).precoolReply = s.precoolReply := by rw [takeFrame_eq]; rfl

theorem takeFrame_channelReply (i : Fin 32) : (s.takeFrame c).channelReply i = s.channelReply i := by rw [takeFrame_eq]; rfl

theorem takeFrame_eventsReply : (s.takeFrame c).eventsReply = s.eventsReply := by rw [takeFrame_eq]; rfl

end

section
variable {h : Header} {x : Byte} {s : State}

theorem readPosition_badValue (hx : 4 ≤ x.toNat) :
    exec (.readPosition h x) s = .next (s.answered (.readPosition h x) h 0x50 .badValue []) := by
  have hc : exec (.readPosition h x) s = execReadPosition h x s := rfl
  rw [hc, execReadPosition]
  exact answer_refuse (by rw [positionOf_eq_none.2 hx]; rfl)

theorem readPosition_notPermitted {p : Fin 4} (hx : p.val = x.toNat) (hp : ¬mayActOn s h p) :
    exec (.readPosition h x) s = .next (s.answered (.readPosition h x) h 0x50 .notPermitted []) := by
  have hc : exec (.readPosition h x) s = execReadPosition h x s := rfl
  have hp' : s.permitted h p = false := by simpa [← permitted_iff] using hp
  rw [hc, execReadPosition]
  exact answer_refuse (by rw [positionOf_eq_some.2 hx, spelled_some, takeFrame_permitted, hp', require_false])

theorem readPosition_accepted {p : Fin 4} (hx : p.val = x.toNat) (hp : mayActOn s h p) :
    exec (.readPosition h x) s = .next (s.answered (.readPosition h x) h 0x50 .ok (s.positionReply p)) := by
  have hc : exec (.readPosition h x) s = execReadPosition h x s := rfl
  rw [hc, execReadPosition]
  exact answer_acceptWith (by
    rw [positionOf_eq_some.2 hx, spelled_some, takeFrame_permitted, permitted_iff.2 hp, require_true, takeFrame_positionReply])

variable (hs : h.sender = 0)
include hs

theorem readBank_badValue (hx : 6 ≤ x.toNat) :
    exec (.readBank h x) s = .next (s.answered (.readBank h x) h 0x51 .badValue []) := by
  have hc : exec (.readBank h x) s = execReadBank h x s := rfl
  rw [hc, execReadBank]
  exact answer_refuse (by rw [atBank, stationOnly_station hs, bankOf_eq_none.2 hx]; rfl)

theorem readBank_accepted {a : Fin 6} (hx : a.val = x.toNat) :
    exec (.readBank h x) s = .next (s.answered (.readBank h x) h 0x51 .ok (s.bankReply a)) := by
  have hc : exec (.readBank h x) s = execReadBank h x s := rfl
  rw [hc, execReadBank]
  exact answer_acceptWith (by rw [atBank, stationOnly_station hs, bankOf_eq_some.2 hx, spelled_some, takeFrame_bankReply])

theorem readCompressor_accepted :
    exec (.readCompressor h) s = .next (s.answered (.readCompressor h) h 0x52 .ok s.compressorReply) := by
  have hc : exec (.readCompressor h) s = execReadCompressor h s := rfl
  rw [hc, execReadCompressor]
  exact answer_acceptWith (by rw [stationOnly_station hs, takeFrame_compressorReply])

theorem readPrecool_accepted :
    exec (.readPrecool h) s = .next (s.answered (.readPrecool h) h 0x53 .ok s.precoolReply) := by
  have hc : exec (.readPrecool h) s = execReadPrecool h s := rfl
  rw [hc, execReadPrecool]
  exact answer_acceptWith (by rw [stationOnly_station hs, takeFrame_precoolReply])

theorem readChannel_badValue (hx : 32 ≤ x.toNat) :
    exec (.readChannel h x) s = .next (s.answered (.readChannel h x) h 0x54 .badValue []) := by
  have hc : exec (.readChannel h x) s = execReadChannel h x s := rfl
  rw [hc, execReadChannel]
  exact answer_refuse (by rw [stationOnly_station hs, channelOf_eq_none.2 hx]; rfl)

theorem readChannel_accepted {i : Fin 32} (hx : i.val = x.toNat) :
    exec (.readChannel h x) s = .next (s.answered (.readChannel h x) h 0x54 .ok (s.channelReply i)) := by
  have hc : exec (.readChannel h x) s = execReadChannel h x s := rfl
  rw [hc, execReadChannel]
  exact answer_acceptWith (by rw [stationOnly_station hs, channelOf_eq_some.2 hx, spelled_some, takeFrame_channelReply])

theorem readEvents_accepted :
    exec (.readEvents h) s =
      .next ({ s with pendingFlags := 0 }.answered (.readEvents h) h 0x55 .ok s.eventsReply) := by
  have hc : exec (.readEvents h) s = execReadEvents h s := rfl
  rw [hc, execReadEvents]
  exact answer_change (fun u => { u with pendingFlags := 0 }) (fun _ => rfl) (fun _ _ => rfl) (by
    rw [stationOnly_station hs, takeFrame_eventsReply])

end

/-- R187: bits 27 to 31 of a flag word are 0. -/
theorem flagWord_bit (x : BitVec 27) (i : Nat) (h : i < 32) : (x.setWidth 32).getLsbD i = (decide (i < 27) && x.getLsbD i) := by
  rw [BitVec.getLsbD_setWidth, decide_eq_true h, Bool.true_and]
  by_cases hi : i < 27
  · rw [decide_eq_true hi, Bool.true_and]
  · rw [decide_eq_false hi, Bool.false_and]
    exact BitVec.getLsbD_of_ge x i (by omega)

/-- Settles O40: each payload is cut into the parts that its definition appends, and the bytes are read part by part. -/
theorem statusRequestsShowTheState : Obligations.StatusRequestsShowTheState := by
  unfold Obligations.StatusRequestsShowTheState
  refine ⟨fun h x s => ⟨readPosition_badValue, fun p hp => ⟨readPosition_notPermitted hp, fun hm => ?_⟩⟩,
    fun h x s hs => ⟨readBank_badValue hs, fun a ha => ?_⟩, fun h s hs hq hr => ?_, fun h s hs hw => ?_,
    fun h x s hs => ⟨readChannel_badValue hs, fun i hi => ?_⟩, fun h s hs => ?_⟩
  · exact ⟨_, readPosition_accepted hp hm, positionReply_length s p, positionReply_shows s p⟩
  · exact ⟨_, readBank_accepted hs ha, bankReply_length s a, bankReply_shows s a⟩
  · exact ⟨_, readCompressor_accepted hs, compressorReply_length s hq hr, compressorReply_shows s hq hr⟩
  · exact ⟨_, readPrecool_accepted hs, precoolReply_length s hw, precoolReply_shows s hw⟩
  · exact ⟨_, readChannel_accepted hs hi, channelReply_length s i, channelReply_shows s i⟩
  · obtain ⟨hp, hm, hd, ho, hc⟩ := eventsReply_words s
    refine ⟨_, readEvents_accepted hs, rfl, fun i hi => ⟨?_, ?_⟩, hd, ho, hc, attention_iff s⟩
    · rw [hp, flagWord_bit _ _ hi]
    · rw [hm, flagWord_bit _ _ hi]

end Sys2Proof.Machine
end

section
/-! PROOFS. The profile lookups, and the way from the end of the settle time to FUELLING, whole. -/

namespace Sys2Proof.Machine

/-! ### The lookups -/

section
variable {s : State}

theorem roleChannel_none_iff {r : Role} : s.roleChannel r = none ↔ ∀ i, (s.chanCfg i).user ≠ some r := by
  rw [State.roleChannel, List.find?_eq_none]
  exact ⟨fun h i hi => h i (List.mem_finRange i) (by simp [hi]), fun h i _ hi => h i (by simpa using hi)⟩

theorem roleChannel_some_iff {r : Role} {i : Fin 32} : s.roleChannel r = some i ↔
    (s.chanCfg i).user = some r ∧ ∀ j < i, (s.chanCfg j).user ≠ some r := by
  rw [State.roleChannel, find?_finRange_eq_some]
  simp

/-- R69: the ambient that a lookup reads is the model's. -/
theorem ambientRead_eq {a : Nat} (h : ambientRead s a) : a = s.ambient := by
  obtain ⟨hnone, hsome⟩ := h
  unfold State.ambient
  cases hr : s.roleChannel .ambient with
  | none => exact hnone (roleChannel_none_iff.1 hr)
  | some i =>
    obtain ⟨hu, hlow⟩ := roleChannel_some_iff.1 hr
    rw [hsome i hu hlow]
    simp

/-- R70: the first entry in use that satisfies a test. -/
theorem firstProfile_first (test : FillProfile → Bool) (fits : FillProfile → Prop) (h : ∀ f, test f = true ↔ fits f) :
    firstMatch s fits (s.firstProfile test) := by
  cases hf : s.firstProfile test with
  | none =>
    rw [State.firstProfile, List.findSome?_eq_none_iff] at hf
    intro i f hi hfit
    have := hf i (List.mem_finRange i)
    rw [hi] at this
    simp [(h f).2 hfit] at this
  | some x =>
    obtain ⟨i, f⟩ := x
    rw [State.firstProfile, List.findSome?_eq_some_iff] at hf
    obtain ⟨before, j, after, hl, hj, hb⟩ := hf
    have hsplit : s.profiles.get j = some f ∧ test f = true ∧ j = i := by
      cases hg : s.profiles.get j with
      | none => simp [hg] at hj
      | some g =>
        rw [hg] at hj
        obtain ⟨ht, he⟩ := Option.ite_none_right_eq_some.1 hj
        obtain ⟨rfl, rfl⟩ := Prod.mk.inj (Option.some.inj he)
        exact ⟨rfl, ht, rfl⟩
    obtain ⟨hg, ht, rfl⟩ := hsplit
    refine ⟨hg, (h f).1 ht, fun k hk g hgk hfit => ?_⟩
    have hmem : k ∈ before := by
      have hsorted := List.pairwise_lt_finRange 16
      rw [hl] at hsorted
      have hk' : k ∈ before ++ j :: after := hl ▸ List.mem_finRange k
      rcases List.mem_append.1 hk' with h' | h'
      · exact h'
      · rcases List.mem_cons.1 h' with rfl | h'
        · exact absurd hk (lt_irrefl _)
        · exact absurd hk (lt_asymm ((List.pairwise_cons.1 (List.pairwise_append.1 hsorted).2.1).1 k h'))
    have := hb k hmem
    rw [hgk] at this
    simp [(h g).2 hfit] at this

theorem lookupProfile_first (p : Fin 4) (grade : Option Grade) (mode : CommMode) {a : Nat} (ha : ambientRead s a) :
    firstMatch s (profileMatches s p grade mode a) (s.lookupProfile p grade mode) := by
  obtain rfl := ambientRead_eq ha
  refine firstProfile_first _ _ fun f => ?_
  unfold profileMatches FillProfile.coversAmbient FillProfile.matchesComm
  simp only [Bool.and_eq_true, beq_iff_eq, decide_eq_true_eq, eq_comm (a := grade), and_assoc]
  cases mode <;> cases f.comm <;> cases (s.pos p).link.volume <;> simp

theorem lookupVariant_first (p : Fin 4) {a : Nat} (ha : ambientRead s a) :
    ∃ found, firstMatch s (variantMatches s p a) found ∧ s.lookupVariant p = found.map Prod.snd := by
  obtain rfl := ambientRead_eq ha
  refine ⟨_, firstProfile_first _ _ fun f => ?_, rfl⟩
  unfold variantMatches FillProfile.coversAmbient
  simp only [Bool.and_eq_true, beq_iff_eq, decide_eq_true_eq, and_assoc]

end

/-! ### The start lookup -/

section
variable {s : State} {p : Fin 4}

/-- R57 (4), R71: the fill with a profile found, before a bank is asked for. -/
def State.profiled (s : State) (p : Fin 4) (i : Fin 16) (f : FillProfile) (pInit : Nat) : State :=
  { s with
    tickets := (s.modActive p fun k => { k with profile := some i, grade := s.grade p, commMode := some (s.pos p).commMode }).tickets
    positions := setAt s.positions p { s.pos p with valve := 0, ramp := (s.pos p).ramp.onProfile i f (10 * pInit) } }

theorem profiled_pos (i : Fin 16) (f : FillProfile) (x : Nat) : (s.profiled p i f x).pos p =
    { s.pos p with valve := 0, ramp := (s.pos p).ramp.onProfile i f (10 * x) } := get_setAt_self _ _ _

theorem endingFactor_eq (s : State) (p : Fin 4) : s.endingFactor p =
    [Factor.bankLow, .precool, .sensor, .meter].findSome? fun x =>
      if (s.pos p).factors.has x then endingReason (s.cfg p) x else none := by
  unfold State.endingFactor factorOrder
  simp only [endedBy_eq, List.findSome?_cons, endingReason, ite_self]

theorem beginFill_eq (i : Fin 16) (f : FillProfile) (x : Nat) : s.beginFill p i f x =
    match (s.profiled p i f x).endingFactor p with
    | some reason => (s.profiled p i f x).enterEndingCore p reason
    | none =>
      if (s.pos p).factors.isEmpty then
        match s.selectedBank p none with
        | some b => (s.profiled p i f x).enterFuelling p b
        | none => (s.profiled p i f x).startWithoutBank p
      else (s.profiled p i f x).enterHeld p := by
  have e : ((s.recordProfile p i (s.grade p) (s.pos p).commMode).modPos p fun q =>
      { q with valve := 0, ramp := q.ramp.onProfile i f (10 * x) }) = s.profiled p i f x := by
    rw [State.recordProfile, modActive_eq]
    rfl
  unfold State.beginFill
  dsimp only
  rw [e]
  have hp : ((s.profiled p i f x).pos p).factors = (s.pos p).factors := by rw [profiled_pos]
  have hb : (s.profiled p i f x).selectedBank p none = s.selectedBank p none := rfl
  rw [hp, hb] <;> rfl

theorem startLookupCore_none (h : s.lookupProfile p (s.grade p) (s.pos p).commMode = none) : s.startLookupCore p =
    s.enterEndingCore p (if s.grade p = some .g0 ∧ (s.pos p).coolWaitExpired = true then .noCooling else .noProfile) := by
  rw [State.startLookupCore, h]

theorem startLookupCore_some {i : Fin 16} {f : FillProfile}
    (h : s.lookupProfile p (s.grade p) (s.pos p).commMode = some (i, f)) : s.startLookupCore p =
    if f.endPressure ≤ (s.pos p).pInit.getD 0 then s.enterEndingCore p .startFull
    else s.beginFill p i f ((s.pos p).pInit.getD 0) := by
  rw [State.startLookupCore, h]

/-- R57 (6), R76 (1): entry into FUELLING, whole. -/
theorem enterFuelling_eq (b : Fin 6) : s.enterFuelling p b = { s with
    positions := setAt s.positions p
      { s.pos p with
        state := .fuelling, drawBank := some b, substateTimer := none, coolWaitTimer := none
        ramp := { (s.pos p).ramp with stepTimer := some 250 } }
    compressor := (s.suspendForDraw b).compressor } := by
  rw [State.enterFuelling, joinBank_congr (s := s) ⟨rfl, fun _ => rfl, rfl, rfl⟩]
  simp only [State.modPos, modAt, State.pos, setAt_setAt, get_setAt_self]
  rfl

/-- R57 (6): the start without a bank, by the disposition of BANK_LOW. -/
theorem startWithoutBank_ends (hd : (s.cfg p).bankLow = .endFill) : s.startWithoutBank p = s.enterEndingCore p .bankLow := by
  rw [State.startWithoutBank, endedBy_eq, endingReason_bankLow_ends hd]

theorem startWithoutBank_holds (hd : (s.cfg p).bankLow = .holdFill) :
    ∃ u, fillHolds s u p { (s.pos p).factors with bankLow := true } ∧
      s.startWithoutBank p = { u with waiting := s.waiting.put p true } := by
  have hu : fillHolds s ((s.putFactor p .bankLow true).enterHeld p) p { (s.pos p).factors with bankLow := true } :=
    putFactor_enterHeld_eq s p .bankLow
  refine ⟨_, hu, ?_⟩
  rw [State.startWithoutBank, endedBy_eq, endingReason_bankLow_holds hd]
  dsimp only
  unfold fillHolds at hu
  rw [hu]
  rfl

/-- R57 (4) to (6): the fill goes on with its profile, by the active factors and the banks. -/
theorem beginFill_ends {i : Fin 16} {f : FillProfile} {x : Nat} {r : EndReason}
    (h : (s.profiled p i f x).endingFactor p = some r) : s.beginFill p i f x = (s.profiled p i f x).enterEndingCore p r := by
  rw [beginFill_eq, h]

theorem beginFill_holds {i : Fin 16} {f : FillProfile} {x : Nat} (h : (s.profiled p i f x).endingFactor p = none)
    (hf : (s.pos p).factors ≠ .empty) : s.beginFill p i f x = (s.profiled p i f x).enterHeld p := by
  have hf' : (s.pos p).factors.isEmpty = false := Bool.eq_false_iff.2 fun he => hf ((FactorSet.isEmpty_iff _).1 he)
  rw [beginFill_eq, h, hf']
  rfl

theorem endingFactor_empty (hf : (s.pos p).factors = .empty) : s.endingFactor p = none := by
  rw [endingFactor_eq, hf]
  rfl

theorem beginFill_free {i : Fin 16} {f : FillProfile} {x : Nat} (hf : (s.pos p).factors = .empty) : s.beginFill p i f x =
    match s.selectedBank p none with
    | some b => (s.profiled p i f x).enterFuelling p b
    | none => (s.profiled p i f x).startWithoutBank p := by
  have hn : (s.profiled p i f x).endingFactor p = none := endingFactor_empty (by rw [profiled_pos]; exact hf)
  rw [beginFill_eq, hn, hf]
  rfl

/-- A state with the ACTIVE ticket of a position changed, and other positions put in. -/
theorem modActive_positions_eq (s : State) (p : Fin 4) (f : Ticket → Ticket) (v : Vector Position 4) :
    ({ s.modActive p f with positions := v } : State) = { s with tickets := (s.modActive p f).tickets, positions := v } := by
  rw [modActive_eq]

/-- R57: the start lookup of a position in a fill, with the grants that follow. -/
theorem startLookup_acts (hst : (s.pos p).state.filling = true) : startLookupActs s (s.startLookupCore p).makeGrants p := by
  unfold startLookupActs
  intro q mode found
  refine ⟨fun hn => ?_, fun i f hs => ⟨fun hle => ?_, fun hlt => ?_⟩⟩
  · rw [startLookupCore_none hn]
    exact endFill_ends _ hst
  · rw [startLookupCore_some hs, if_pos hle]
    exact endFill_ends _ hst
  · intro based recorded ending
    have hc : s.startLookupCore p = s.beginFill p i f (q.pInit.getD 0) := by
      rw [startLookupCore_some hs, if_neg (Nat.not_le.2 hlt)]
    have hr : recorded = s.profiled p i f (q.pInit.getD 0) := by
      exact modActive_positions_eq s p _ _
    have hcfg : recorded.cfg p = s.cfg p := by rw [hr]; rfl
    have hwait : recorded.waiting = s.waiting := by rw [hr]; rfl
    have hplant : SamePlant s (s.profiled p i f (q.pInit.getD 0)) :=
      modPos_samePlant s p (fun q => { q with valve := 0, ramp := _ }) rfl
    have hfill : (recorded.pos p).state.filling = true := by rw [hr, profiled_pos]; exact hst
    have hend : (s.profiled p i f (q.pInit.getD 0)).endingFactor p = ending := by rw [endingFactor_eq, profiled_pos]; rfl
    have hpos : recorded.pos p = based := by rw [hr, profiled_pos]; rfl
    have hfac : (recorded.pos p).factors = q.factors := by rw [hpos]
    refine ⟨fun r he => ?_, fun he hf => ⟨recorded.enterHeld p, ?_, ?_⟩, fun b hf hb => ?_, fun hf hb hd => ?_, fun hf hb hd => ?_⟩
    · rw [hc, beginFill_ends (hend.trans he), ← hr]
      exact endFill_ends r hfill
    · rw [← hfac]
      exact enterHeld_eq recorded p
    · rw [hc, beginFill_holds (hend.trans he) hf, ← hr]
    · rw [hc, beginFill_free hf, hb]
      dsimp only
      rw [enterFuelling_eq, (hplant.suspendForDraw b).1, profiled_pos, hr, State.profiled]
      dsimp only
      rw [setAt_setAt]
      rfl
    · rw [hc, beginFill_free hf, hb]
      dsimp only
      rw [← hr, startWithoutBank_ends (hcfg ▸ hd)]
      exact endFill_ends _ hfill
    · obtain ⟨u, hu, he⟩ := startWithoutBank_holds (s := recorded) (p := p) (hcfg ▸ hd)
      rw [hfac, hf] at hu
      refine ⟨u, hu, ?_⟩
      rw [hc, beginFill_free hf, hb]
      dsimp only
      rw [← hr, he, hwait]

/-! ### COOL_WAIT and the vehicle checks -/

/-- R56: COOL_WAIT, passed or entered, with the grants that follow. -/
theorem enterCoolWait_acts (s : State) (p : Fin 4) : coolWaitActs s (s.enterCoolWaitCore p).makeGrants p := by
  have hpass : (!(s.cfg p).cooling || s.precool.holders.has p || (s.pos p).coolWaitExpired) = true ↔
      (s.cfg p).cooling = false ∨ s.precool.holders.has p = true ∨ (s.pos p).coolWaitExpired = true := by simp [or_assoc]
  set u := s.modPos p fun q => { q with state := .starting .coolWait, substateTimer := none } with hu
  have hpos : u.pos p = { s.pos p with state := .starting .coolWait, substateTimer := none } := modPos_pos_self s p _
  have e : s.enterCoolWaitCore p =
      if (!(s.cfg p).cooling || s.precool.holders.has p || (s.pos p).coolWaitExpired) = true then u.startLookupCore p
      else u.modPos p fun q => { q with coolWaitTimer := some (s.site.coolWaitTime * 1000) } := by
    have hx : (u.pos p).coolWaitExpired = (s.pos p).coolWaitExpired := by rw [hpos]
    rw [← hx]
    rfl
  unfold coolWaitActs
  intro q entered passes
  refine ⟨fun h => ?_, fun h => ?_⟩
  · rw [e, if_pos (hpass.2 h)]
    exact startLookup_acts (s := u) (by rw [hpos]; rfl)
  · rw [e, if_neg fun hp => h (hpass.1 hp), modPos_modPos]
    rfl

theorem vehicleVerdict_eq (expected : Option Tag) (l : LinkContext) (k : NozzleClass) : vehicleVerdict expected l k =
    if expected.isSome = true ∧ l.state = .stream ∧ l.tag ≠ expected then some .tagMismatch
    else if expected.isSome = true ∧ l.state ≠ .stream then some .tagUnverified
    else if l.state = .stream ∧ l.vehicleClass ≠ some k then some .classMismatch
    else none := by
  unfold vehicleVerdict
  simp only [Bool.and_eq_true, beq_iff_eq, bne_iff_ne, ne_eq, and_assoc]

/-- R55, R101: the link as the vehicle checks leave it. -/
def checkedLink (l : LinkContext) : LinkContext :=
  if l.state = .listen then { l with state := .lost, freshness := none, lastCommand := none } else l

theorem vehicleChecksCore_eq (s : State) (p : Fin 4) : s.vehicleChecksCore p =
    match vehicleVerdict ((s.activeTicket p).bind Ticket.expectedTag) (s.pos p).link (s.cfg p).nozzleClass with
    | some reason =>
      ({ s with positions := setAt s.positions p { s.pos p with link := checkedLink (s.pos p).link } } : State).enterEndingCore p reason
    | none =>
      ({ s with positions := setAt s.positions p { s.pos p with link := checkedLink (s.pos p).link } } : State).enterCoolWaitCore p := by
  have e : (if (s.pos p).link.state = .listen then s.modLink p fun l => l.fail .lost else s) =
      { s with positions := setAt s.positions p { s.pos p with link := checkedLink (s.pos p).link } } := by
    unfold checkedLink
    split
    · rfl
    · exact congrArg (fun v => ({ s with positions := v } : State)) (setAt_get_self s.positions p).symm
  rw [State.vehicleChecksCore]
  dsimp only
  rw [e] <;> rfl

/-- R55, R101: the vehicle checks of a position in a fill, with the grants that follow. -/
theorem vehicleChecks_act (hst : (s.pos p).state.filling = true) : vehicleChecksAct s (s.vehicleChecksCore p).makeGrants p := by
  rw [vehicleChecksCore_eq]
  unfold vehicleChecksAct
  intro q link checked expected verdict
  have hv : vehicleVerdict expected q.link (s.cfg p).nozzleClass = verdict := vehicleVerdict_eq _ _ _
  have hfill : (checked.pos p).state.filling = true := by
    have : checked.pos p = { s.pos p with link := link } := get_setAt_self _ _ _
    rw [this]
    exact hst
  refine ⟨fun r hr => ?_, fun hr => ?_⟩
  · rw [hv.trans hr]
    exact endFill_ends r hfill
  · rw [hv.trans hr]
    exact enterCoolWait_acts checked p

/-! ### The re-lookup -/

/-- R71, R72: the fill rebased on a profile found by a re-lookup, before PRECOOL clears. -/
def State.rebased (s : State) (p : Fin 4) (i : Fin 16) (f : FillProfile) (g : Option Grade) (m : CommMode) : State :=
  { s with
    tickets := (s.modActive p fun k => { k with profile := some i, grade := g, commMode := some m }).tickets
    positions := setAt s.positions p { s.pos p with ramp := (s.pos p).ramp.onProfile i f (10 * s.pDisp p) } }

theorem rebased_pos (i : Fin 16) (f : FillProfile) (g : Option Grade) (m : CommMode) : (s.rebased p i f g m).pos p =
    { s.pos p with ramp := (s.pos p).ramp.onProfile i f (10 * s.pDisp p) } := get_setAt_self _ _ _

theorem relookup_none {g : Option Grade} {m : CommMode} (h : s.lookupProfile p g m = none) : s.relookup p g m = none := by
  rw [State.relookup, h]

theorem relookup_some {g : Option Grade} {m : CommMode} {i : Fin 16} {f : FillProfile}
    (h : s.lookupProfile p g m = some (i, f)) : s.relookup p g m = some ((s.rebased p i f g m).clearFactor p .precool) := by
  have e : (s.modPos p fun q => { q with ramp := q.ramp.onProfile i f (10 * s.pDisp p) }).recordProfile p i g m =
      s.rebased p i f g m := by
    have ht := modActive_tickets_congr (s := s)
      (t := s.modPos p fun q => { q with ramp := q.ramp.onProfile i f (10 * s.pDisp p) }) p
      (fun k => { k with profile := some i, grade := g, commMode := some m }) rfl (by rw [modPos_pos_self])
    rw [State.recordProfile, modActive_eq, ht]
    rfl
  rw [State.relookup, h]
  dsimp only
  rw [e]

/-- R72 (4), R112: a re-lookup that finds a profile, whole. -/
theorem rebased_clears (i : Fin 16) (f : FillProfile) (g : Option Grade) (m : CommMode) :
    factorClears (s.rebased p i f g m) ((s.rebased p i f g m).clearFactor p .precool) p .precool := clearFactor_clears _ p _

theorem clearFactor_noGrantDue (x : Factor) (hn : noGrantDue s) : noGrantDue (s.clearFactor p x) := by
  rw [clearFactor_eq]
  exact hn

/-! ### The loss of the link -/

theorem linkLoss_halted (hst : (s.pos p).state.filling = true) (hh : (s.pos p).factors.vehicleHalt = true) :
    s.linkLoss p = s.endFill p .linkLost := by
  unfold State.linkLoss
  cases he : (s.pos p).state <;> simp_all [PosState.filling]

theorem linkLoss_running (hst : (s.pos p).state = .fuelling ∨ (s.pos p).state.isHeld = true)
    (hh : (s.pos p).factors.vehicleHalt = false) : s.linkLoss p = (s.relookupNonComm p).makeGrants := by
  unfold State.linkLoss
  cases he : (s.pos p).state <;> simp_all [PosState.isHeld]

theorem filling_of_running {q : PosState} (h : q = .fuelling ∨ q.isHeld = true) : q.filling = true := by
  cases q <;> simp_all [PosState.isHeld, PosState.filling]

/-- R75, R98, R100: what a fill does when its link has left STREAM. -/
theorem linkLoss_lossActs (s : State) (p : Fin 4) : linkLossActs s (s.linkLoss p) p := by
  unfold linkLossActs
  intro q running found
  refine ⟨fun hst => ?_, fun hst hh => ?_, fun hst hh => ?_, fun hst hh hf => ?_, fun i f hst hh hf hn => ?_⟩
  · unfold State.linkLoss
    cases he : (s.pos p).state <;> simp_all [PosState.filling, q]
  · unfold State.linkLoss
    cases he : (s.pos p).state <;> simp_all [PosState.isStarting, q]
  · rw [linkLoss_halted hst hh]
    exact endFill_ends _ hst
  · rw [linkLoss_running hst hh, State.relookupNonComm, relookup_none hf]
    exact endFill_ends _ (filling_of_running hst)
  · intro based
    rw [linkLoss_running hst hh, State.relookupNonComm, relookup_some hf]
    dsimp only
    rw [makeGrants_of_noGrantDue (clearFactor_noGrantDue (s := s.rebased p i f (s.grade p) .noncomm) _ hn)]
    have e := modActive_positions_eq s p (fun k => { k with profile := some i, grade := s.grade p, commMode := some .noncomm })
      (setAt s.positions p based)
    rw [e]
    exact rebased_clears i f (s.grade p) .noncomm

end

end Sys2Proof.Machine
end

section
/-! PROOFS. Vehicle frames and the loss of the link. -/

namespace Sys2Proof.Machine

/-! ### Frames -/

section
variable {s : State} {p : Fin 4} {f : VehicleFrame}

/-- A state with the link context of a position replaced. -/
def State.linked (s : State) (p : Fin 4) (l : LinkContext) : State :=
  { s with positions := setAt s.positions p { s.pos p with link := l } }

theorem linked_pos (l : LinkContext) : (s.linked p l).pos p = { s.pos p with link := l } := get_setAt_self _ _ _

/-- R98, R100: a position whose link has stalled. -/
def State.linkStalled (s : State) (p : Fin 4) : State :=
  { s.linked p { (s.pos p).link with state := .stalled, freshness := none, lastCommand := none } with
    pendingFlags := s.pendingFlags ||| (EventFlag.linkStalled p).word }

theorem linkStalled_pos : (s.linkStalled p).pos p =
    { s.pos p with link := { (s.pos p).link with state := .stalled, freshness := none, lastCommand := none } } :=
  get_setAt_self _ _ _

theorem stallLink_eq : s.stallLink p = if (s.pos p).link.state = .stream then (s.linkStalled p).linkLoss p else s.linkStalled p :=
  rfl

/-- R95, R96: the link context after a taken frame. -/
def takenLink (f : VehicleFrame) (l : LinkContext) : LinkContext :=
  { l with
    state := .stream
    tankPressure := some (max 0 (min 10000 f.pressure))
    tankTemperature := some (max 2000 (min 3730 f.temperature))
    lastBit := some f.bit
    expectedBit := some (!f.bit)
    lastCommand := some f.command
    freshness := some 1000 }

theorem take_eq {l : LinkContext} (h : l.state = .stream) : l.take f = takenLink f l := by
  rw [takenLink, ← h]
  rfl

theorem identify_eq (l : LinkContext) : l.identify f = takenLink f { l with
    vehicleClass := some f.vehicleClass
    volume := some f.volume
    tag := if f.tag = Vector.replicate 8 0x20 then none else some f.tag } := by
  rw [← ite_not, ← presentTag_eq]
  rfl

/-- A frame of the form, by the link state. -/
theorem vehicleFrame_of {bytes : List Byte} (hf : parseVehicleFrame bytes = some f) (h : (s.pos p).link.state ≠ .off) :
    s.vehicleFrame p bytes =
      match (s.pos p).link.state with
      | .off => s
      | .listen => s.frameInListen p f
      | .stream => s.frameInStream p f
      | .stalled | .lost => s.linked p { (s.pos p).link with ignored := bump16 (s.pos p).link.ignored } := by
  rw [State.vehicleFrame, if_neg h, hf] <;> rfl

/-- R95, R96: a frame is taken into the link of a position. -/
def frameTaken (q : Position) (f : VehicleFrame) (l : LinkContext) : Prop :=
  q.link.state = .listen ∧ f.isData = false ∧
      l = takenLink f { q.link with
        vehicleClass := some f.vehicleClass
        volume := some f.volume
        tag := if f.tag = Vector.replicate 8 0x20 then none else some f.tag } ∨
    q.link.state = .stream ∧ f.isData = true ∧ q.link.vehicleClass = some f.vehicleClass ∧
      q.link.expectedBit = some f.bit ∧ l = takenLink f q.link

theorem vehicleFrame_taken {bytes : List Byte} {l : LinkContext} (hf : parseVehicleFrame bytes = some f)
    (ht : frameTaken (s.pos p) f l) : s.vehicleFrame p bytes = (s.linked p l).vehicleCommand p f.command := by
  rcases ht with ⟨hl, hd, rfl⟩ | ⟨hl, hd, hk, hb, rfl⟩
  · rw [vehicleFrame_of hf (by rw [hl]; decide), hl, ← identify_eq]
    simp only [State.frameInListen, hd, Bool.false_eq_true, if_false]
    rfl
  · rw [vehicleFrame_of hf (by rw [hl]; decide), hl, ← take_eq hl]
    simp only [State.frameInStream, hd, hk, hb, Bool.not_true, bne_self_eq_false, Bool.or_self, Bool.false_eq_true, if_false,
      if_true]
    rfl

theorem vehicleFrame_violates {bytes : List Byte} (hf : parseVehicleFrame bytes = some f)
    (hl : (s.pos p).link.state = .stream) (hv : f.isData = false ∨ (s.pos p).link.vehicleClass ≠ some f.vehicleClass) :
    s.vehicleFrame p bytes = (s.linkStalled p).linkLoss p := by
  have ht : (!f.isData || (s.pos p).link.vehicleClass != some f.vehicleClass) = true := by simpa using hv
  rw [vehicleFrame_of hf (by rw [hl]; decide), hl]
  simp only [State.frameInStream, ht, if_true]
  rw [stallLink_eq, if_pos hl]

end

/-! ### The command of a taken frame -/

section
variable {s : State} {p : Fin 4}

theorem vehicleCommand_idle (h : (s.pos p).state.filling = false) (hn : noGrantDue s) (c : VehicleCommand) :
    s.vehicleCommand p c = s := by
  cases c with
  | halt => rw [State.vehicleCommand, State.activate, activateCore_outside h, makeGrants_of_noGrantDue hn]
  | abort => exact endFill_idle _ h hn
  | run =>
    rw [State.vehicleCommand]
    cases he : (s.pos p).state <;> simp_all [PosState.filling]

theorem clearFactor_inactive {x : Factor} (h : (s.pos p).factors.has x = false) : s.clearFactor p x = s := by
  rw [State.clearFactor, h]
  rfl

theorem runCommand_unhalted (h : (s.pos p).state = .fuelling ∨ ∃ sub, (s.pos p).state = .starting sub)
    (hh : (s.pos p).factors.vehicleHalt = false) : s.vehicleCommand p .run = s := by
  rcases h with h | ⟨sub, h⟩
  · rw [State.vehicleCommand, h]
    exact clearFactor_inactive hh
  · rw [State.vehicleCommand, h]
    simp only [State.runStarting, hh, Bool.false_eq_true, if_false]

theorem runCommand_held {r : Release} (h : (s.pos p).state = .held r)
    (hr : r ≠ .demandWait ∨ (s.cfg p).clearMode ≠ .timedDemand) : s.vehicleCommand p .run = s.clearFactor p .vehicleHalt := by
  have hc : ((s.clearFactor p .vehicleHalt).cfg p).clearMode = (s.cfg p).clearMode := by rw [clearFactor_eq]; rfl
  rw [State.vehicleCommand, h]
  simp only [State.runHeld]
  rw [hc, if_neg fun ⟨h1, h2⟩ => hr.elim (fun h => h h1) fun h => h h2]

theorem runCommand_demand (h : (s.pos p).state = .held .demandWait) (hh : (s.pos p).factors.vehicleHalt = false)
    (hm : (s.cfg p).clearMode = .timedDemand) : s.vehicleCommand p .run = s.resume p := by
  rw [State.vehicleCommand, h]
  have e : s.clearFactor p .vehicleHalt = s := clearFactor_inactive hh
  dsimp only
  rw [State.runHeld, e, if_pos ⟨rfl, hm⟩]

/-- R58 (3): the position that RUN frees from VEHICLE_HALT in STARTING. -/
def State.freed (s : State) (p : Fin 4) : State :=
  { s with positions := setAt s.positions p { s.pos p with factors := { (s.pos p).factors with vehicleHalt := false } } }

theorem freed_pos : (s.freed p).pos p = { s.pos p with factors := { (s.pos p).factors with vehicleHalt := false } } :=
  get_setAt_self _ _ _

theorem runCommand_starting {sub : Substate} (h : (s.pos p).state = .starting sub)
    (hh : (s.pos p).factors.vehicleHalt = true) : s.vehicleCommand p .run = ((s.freed p).advanceCore p).makeGrants := by
  have hc : clearedPosition (s.cfg p) (s.pos p) .vehicleHalt =
      { s.pos p with factors := { (s.pos p).factors with vehicleHalt := false } } := by
    rw [clearedPosition, if_neg (by rw [h]; rintro ⟨-, hx, -⟩; cases hx)]
    rfl
  have e : s.clearFactor p .vehicleHalt = s.freed p := by
    rw [clearFactor_eq, State.modPos, modAt]
    exact congrArg (fun q => ({ s with positions := setAt s.positions p q } : State)) hc
  rw [State.vehicleCommand, h]
  simp only [State.runStarting, hh, if_true]
  rw [e]

/-- R53 (4), R58 (3): the advance that waited, by the substate. -/
theorem advanceCore_running {sub : Substate} (h : (s.pos p).state = .starting sub)
    (hr : sub = .pulse ∨ (sub = .settle ∨ sub = .leakCheck) ∧ (s.pos p).substateTimer.isSome = true ∨
      sub = .coolWait ∧ (s.pos p).coolWaitTimer.isSome = true) : s.advanceCore p = s := by
  unfold State.advanceCore
  dsimp only
  rw [h]
  rcases hr with rfl | ⟨rfl | rfl, ht⟩ | ⟨rfl, ht⟩
  · rfl
  all_goals
    rw [Option.isSome_iff_exists] at ht
    obtain ⟨x, hx⟩ := ht
    simp [hx]

theorem advanceCore_settle (h : (s.pos p).state = .starting .settle) (ht : (s.pos p).substateTimer = none) :
    s.advanceCore p = s.leaveSettleCore p := by
  unfold State.advanceCore
  dsimp only
  rw [h, ht]
  rfl

theorem advanceCore_leakCheck (h : (s.pos p).state = .starting .leakCheck) (ht : (s.pos p).substateTimer = none) :
    s.advanceCore p = s.vehicleChecksCore p := by
  unfold State.advanceCore
  dsimp only
  rw [h, ht]
  rfl

theorem advanceCore_coolWait (h : (s.pos p).state = .starting .coolWait) (ht : (s.pos p).coolWaitTimer = none) :
    s.advanceCore p = s.startLookupCore p := by
  unfold State.advanceCore
  dsimp only
  rw [h, ht]
  rfl

theorem leaveSettle_checks (hv : (s.pos p).variant = some .pulseOnly) : s.leaveSettleCore p = s.vehicleChecksCore p := by
  rw [State.leaveSettleCore, if_pos hv]

theorem leaveSettle_leakCheck (hv : (s.pos p).variant ≠ some .pulseOnly) : s.leaveSettleCore p = { s with
    positions := setAt s.positions p { s.pos p with state := .starting .leakCheck, substateTimer := some 5000 } } := by
  rw [State.leaveSettleCore, if_neg hv]
  rfl

/-- R58 (3): the vehicle checks that VEHICLE_HALT held. -/
theorem advance_checks {sub : Substate} (h : (s.pos p).state = .starting sub) (ht : (s.pos p).substateTimer = none)
    (hc : sub = .settle ∧ (s.pos p).variant = some .pulseOnly ∨ sub = .leakCheck) :
    vehicleChecksAct s (s.advanceCore p).makeGrants p := by
  have e : s.advanceCore p = s.vehicleChecksCore p := by
    rcases hc with ⟨rfl, hv⟩ | rfl
    · rw [advanceCore_settle h ht, leaveSettle_checks hv]
    · exact advanceCore_leakCheck h ht
  rw [e]
  exact vehicleChecks_act (by rw [h]; rfl)

theorem advance_startLookup (h : (s.pos p).state = .starting .coolWait) (ht : (s.pos p).coolWaitTimer = none) :
    startLookupActs s (s.advanceCore p).makeGrants p := by
  rw [advanceCore_coolWait h ht]
  exact startLookup_acts (by rw [h]; rfl)

end

/-! ### The obligation -/

section
variable {s : State} {p : Fin 4}

/-- R99, R115: HALT at a position in a fill, from the state with the link of the taken frame. -/
theorem halt_starting {sub : Substate} (l : LinkContext) (h : (s.pos p).state = .starting sub) (hn : noGrantDue s) :
    (s.linked p l).vehicleCommand p .halt = { s with
      positions := setAt s.positions p
        { s.pos p with link := l, factors := { (s.pos p).factors with vehicleHalt := true } } } := by
  have hst : ((s.linked p l).pos p).state = .starting sub := by rw [linked_pos]; exact h
  have hfac : ((s.linked p l).pos p).factors = (s.pos p).factors := by rw [linked_pos]
  have ha : factorActivates (s.linked p l) ((s.linked p l).activate p .vehicleHalt) p .vehicleHalt := activate_activates hn
  rw [State.vehicleCommand]
  cases hb : (s.pos p).factors.vehicleHalt with
  | true =>
    have hq : ({ (s.pos p).factors with vehicleHalt := true } : FactorSet) = (s.pos p).factors := by rw [← hb]
    rw [ha.1 (.inl (by rw [hfac]; exact hb)), hq]
    rfl
  | false =>
    rw [(ha.2 (by rw [hfac]; exact hb)).1 sub hst, linked_pos]
    show ({ s with positions := setAt (setAt s.positions p _) p _ } : State) = _
    rw [setAt_setAt]
    rfl

/-- R97 (3): the end of the freshness time. -/
theorem freshnessExpiry_acts {d : Nat} (hd : s.freshnessLeft p = some d) :
    ∃ t, exec (.freshnessExpiry p) s = .next t ∧
      linkLossActs ((s.elapse d).linked p
        { ((s.elapse d).pos p).link with state := .lost, freshness := none, lastCommand := none }) t p :=
  ⟨_, exec_of_timeLeft (c := .freshnessExpiry p) rfl hd, linkLoss_lossActs _ p⟩

/-- R58 (3): RUN at a position in STARTING under VEHICLE_HALT, from the state with the link of the taken frame. -/
theorem freed_linked (l : LinkContext) : (s.linked p l).freed p = { s with
    positions := setAt s.positions p
      { s.pos p with link := l, factors := { (s.pos p).factors with vehicleHalt := false } } } := by
  rw [State.freed, linked_pos, State.linked]
  dsimp only
  rw [setAt_setAt]

theorem exec_vehicleFrame (frame : Vector Byte 16) :
    exec (.vehicleFrameArrival p frame) s = .next (s.vehicleFrame p frame.toArray.toList) := rfl

/-- Settles O45: a frame is sorted by the link state and its class, and a taken one hands its command to the position. -/
theorem vehicleFramesMoveTheLink : Obligations.VehicleFramesMoveTheLink := by
  unfold Obligations.VehicleFramesMoveTheLink
  refine ⟨fun p frame s => ?_, fun p s d hd => freshnessExpiry_acts hd⟩
  intro c q linked taken stalled
  refine ⟨fun hoff => ?_, fun hon hbad => ?_, fun f hf => ⟨fun hl => ?_, fun hl hd hk hb => ?_, fun hl hd => ?_, fun hl hv =>
    ⟨fun hst => ?_, _, exec_vehicleFrame frame, ?_⟩, fun l ht => ?_⟩⟩
  · rw [exec_vehicleFrame, State.vehicleFrame, if_pos hoff]
  · rw [exec_vehicleFrame, State.vehicleFrame, if_neg hon, hbad]
    rfl
  · rw [exec_vehicleFrame, vehicleFrame_of hf (by rcases hl with hl | hl <;> rw [hl] <;> decide)]
    rcases hl with hl | hl <;> rw [hl] <;> rfl
  · rw [exec_vehicleFrame, vehicleFrame_of hf (by rw [hl]; decide), hl]
    have hk' : (s.pos p).link.vehicleClass = some f.vehicleClass := hk
    have hb' : ¬(s.pos p).link.expectedBit = some f.bit := hb
    simp only [State.frameInStream, hd, hk', hb', Bool.not_true, bne_self_eq_false, Bool.or_self, Bool.false_eq_true, if_false]
    rfl
  · have hns : (s.pos p).link.state ≠ .stream := by rw [hl]; decide
    rw [exec_vehicleFrame, vehicleFrame_of hf (by rw [hl]; decide), hl]
    simp only [State.frameInListen, hd, if_true]
    rw [stallLink_eq, if_neg hns]
    rfl
  · rw [exec_vehicleFrame, vehicleFrame_violates hf hl hv]
    have hq : ((s.linkStalled p).pos p).state.filling = false := by
      rw [linkStalled_pos]
      exact hst
    rw [(linkLoss_lossActs (s.linkStalled p) p).1 hq]
    rfl
  · rw [vehicleFrame_violates hf hl hv]
    exact linkLoss_lossActs (s.linkStalled p) p
  · have hcmd : exec c s = .next ((s.linked p l).vehicleCommand p f.command) := by
      rw [exec_vehicleFrame, vehicleFrame_taken hf ht]
    have hpos : (s.linked p l).pos p = { q with link := l } := linked_pos l
    have hnl (hn : noGrantDue s) : noGrantDue (s.linked p l) := hn
    have hpf : ((s.linked p l).freed p).pos p = { q with link := l, factors := { q.factors with vehicleHalt := false } } := by
      rw [freed_pos, hpos]
    have hfreed := freed_linked (s := s) (p := p) l
    refine ⟨fun hst hn => ?_, fun hst hc => ⟨_, hcmd, ?_⟩, fun sub hst hc hn => ?_, fun hst hc hh hn => ⟨_, hcmd, ?_⟩,
      fun hst hc hh => ?_, fun hst hc hh hm => ?_, fun hst hc hn => ⟨_, hcmd, ?_⟩, fun r hst hc hr => ⟨_, hcmd, ?_⟩,
      fun sub hst hc hh => ?_⟩
    · rw [hcmd, vehicleCommand_idle (by rw [hpos]; exact hst) (hnl hn)]
      rfl
    · have hfill : ((s.linked p l).pos p).state.filling = true := by rw [hpos]; exact hst
      rw [hc]
      exact endFill_ends _ hfill
    · rw [hcmd, hc, halt_starting l hst hn]
    · have hfac : ((s.linked p l).pos p).factors = q.factors := by rw [hpos]
      have ha : factorActivates (s.linked p l) ((s.linked p l).activate p .vehicleHalt) p .vehicleHalt := activate_activates hn
      have hb : ((s.linked p l).pos p).factors.has .vehicleHalt = false := by rw [hfac]; exact hh
      have := (ha.2 hb).2.2.1 (by rw [hpos]; exact hst) rfl
      rw [hfac] at this
      rw [hc]
      exact this
    · have hst' : ((s.linked p l).pos p).state = .fuelling ∨ ∃ sub, ((s.linked p l).pos p).state = .starting sub := by
        rw [hpos]; exact hst
      rw [hcmd, hc, runCommand_unhalted hst' (by rw [hpos]; exact hh)]
      rfl
    · have hd : ((s.linked p l).pos p).state = .held .demandWait := by rw [hpos]; exact hst
      have hu : ((s.linked p l).pos p).factors.vehicleHalt = false := by rw [hpos]; exact hh
      rw [hcmd, hc, runCommand_demand hd hu hm]
      rfl
    · rw [hc]
      exact activate_activates (hnl hn)
    · have hd : ((s.linked p l).pos p).state = .held r := by rw [hpos]; exact hst
      rw [hc, runCommand_held hd hr]
      exact clearFactor_clears _ p _
    · intro freed running checked
      have hrun : exec c s = .next (((s.linked p l).freed p).advanceCore p).makeGrants := by
        rw [hcmd, hc, runCommand_starting (sub := sub) (by rw [hpos]; exact hst) (by rw [hpos]; exact hh)]
      rw [hfreed] at hrun hpf
      set u : State := { s with positions := setAt s.positions p freed } with hu
      have hpu : u.pos p = freed := hpf
      have hsu : (u.pos p).state = .starting sub := by rw [hpu]; exact hst
      refine ⟨fun hr hn => ?_, fun h1 h2 h3 hn => ?_, fun h1 h2 => ⟨_, hrun, ?_⟩, fun h1 h2 => ⟨_, hrun, ?_⟩⟩
      · have e : u.advanceCore p = u := advanceCore_running hsu (by rw [hpu]; exact hr)
        refine hrun.trans ?_
        rw [e, makeGrants_of_noGrantDue (s := u) hn]
      · subst h1
        have e := (advanceCore_settle hsu (by rw [hpu]; exact h2)).trans (leaveSettle_leakCheck (by rw [hpu]; exact h3))
        refine hrun.trans ?_
        rw [e, hpu, hu]
        dsimp only
        rw [setAt_setAt]
        exact congrArg _ (makeGrants_of_noGrantDue hn)
      · exact advance_checks hsu (by rw [hpu]; exact h2) (by rw [hpu]; exact h1)
      · subst h1
        exact advance_startLookup hsu (by rw [hpu]; exact h2)

end

end Sys2Proof.Machine
end

section
/-! PROOFS. The ends of the pulse, of the settle time, of the leak check and of the cool wait. -/

namespace Sys2Proof.Machine

/-! ### The pulse -/

section
variable (u : State) (p : Fin 4)

/-- R53 (1), R130: the end of the pulse, whole. -/
theorem enterSettle_eq : u.enterSettle p = { u with
    positions := setAt u.positions p
      { u.pos p with state := .starting .settle, valve := 0, drawBank := none, substateTimer := some 2000 }
    compressor := (u.drawReported p).compressor
    pendingFlags := (u.drawReported p).pendingFlags } := by
  obtain ⟨hc, hf⟩ := (modPos_samePlant u p (fun q => { q with valve := 0 }) rfl).releaseDraw p
  unfold State.enterSettle
  rw [releaseDraw_eq, hc, hf]
  simp [State.modPos, modAt, State.pos, State.drawReported, State.releaseDraw, Config.settleTime]

/-! ### The settle time -/

/-- R53 (2): P_init is taken at the end of the settle time. -/
def State.measured (u : State) (p : Fin 4) : State :=
  { u with
    tickets := (u.modActive p fun k => { k with pInit := some (u.pDisp p) }).tickets
    positions := setAt u.positions p { u.pos p with pInit := some (u.pDisp p), substateTimer := none } }

theorem takePInit_eq : u.takePInit p = u.measured p := by
  have ht := modActive_tickets_congr (s := u)
    (t := u.modPos p fun q => { q with pInit := some (u.pDisp p), substateTimer := none }) p
    (fun k => { k with pInit := some (u.pDisp p) }) rfl (by rw [modPos_pos_self])
  rw [State.takePInit, modActive_eq, ht]
  rfl

/-- R54 (1), (2): the start variant that the lookup gives. -/
def State.variantFound (u : State) (p : Fin 4) : StartVariant := ((u.lookupVariant p).map FillProfile.variant).getD .pulseCheck

/-- R53, R54: the position after the variant lookup. -/
def State.decidedPosition (u : State) (p : Fin 4) : Position :=
  { u.pos p with
    pInit := some (u.pDisp p)
    variant := some (u.variantFound p)
    leakTolerance := some (((u.lookupVariant p).map FillProfile.leakTolerance).getD u.site.leakTolerance)
    substateTimer := none }

/-- R53, R54: the state after the variant lookup. -/
def State.decided (u : State) (p : Fin 4) : State :=
  { u.measured p with positions := setAt u.positions p (u.decidedPosition p) }

theorem decided_pos : (u.decided p).pos p = u.decidedPosition p := get_setAt_self _ _ _

theorem measured_pos : (u.measured p).pos p = { u.pos p with pInit := some (u.pDisp p), substateTimer := none } :=
  get_setAt_self _ _ _

theorem lookUpVariant_measured : (u.measured p).lookUpVariant p = u.decided p := by
  have hl : (u.measured p).lookupVariant p = u.lookupVariant p := rfl
  have hd (v : StartVariant) (l : Nat) : ((u.measured p).modPos p fun q => { q with variant := some v, leakTolerance := some l }) =
      { u.measured p with
        positions := setAt u.positions p
          { u.pos p with pInit := some (u.pDisp p), variant := some v, leakTolerance := some l, substateTimer := none } } := by
    simp only [State.modPos, modAt, State.measured, setAt_setAt, get_setAt_self]
  unfold State.lookUpVariant State.decided State.decidedPosition State.variantFound
  rw [hl]
  cases u.lookupVariant p with
  | none => exact hd _ _
  | some f => exact hd _ _

/-- R53 (2) to (4): the end of the settle time, by P_init. -/
theorem settleEnded_eq : u.settleEnded p =
    if u.pDisp p < 50 then (u.measured p).endFill p .tankUnsafe else ((u.decided p).advanceUnlessHalted p).makeGrants := by
  unfold State.settleEnded
  dsimp only
  rw [takePInit_eq, lookUpVariant_measured, measured_pos]
  rfl

end

section
variable {u : State} {p : Fin 4}

theorem filling_starting {q : PosState} {sub : Substate} (h : q = .starting sub) : q.filling = true := by rw [h]; rfl

theorem advance_halted (hh : (u.pos p).factors.vehicleHalt = true) : u.advanceUnlessHalted p = u := by
  rw [State.advanceUnlessHalted, hh]
  rfl

theorem advance_free (hh : (u.pos p).factors.vehicleHalt = false) : u.advanceUnlessHalted p = u.advanceCore p := by
  rw [State.advanceUnlessHalted, hh]
  rfl

theorem settleEnded_unsafe (hst : (u.pos p).state = .starting .settle) (hv : u.pDisp p < 50) :
    fillEnds (u.measured p) (u.settleEnded p) p .tankUnsafe := by
  rw [settleEnded_eq, if_pos hv]
  exact endFill_ends _ (by rw [measured_pos, hst]; rfl)

theorem settleEnded_halted (hv : 50 ≤ u.pDisp p) (hh : (u.pos p).factors.vehicleHalt = true) (hn : noGrantDue u) :
    u.settleEnded p = u.decided p := by
  have hd : ((u.decided p).pos p).factors.vehicleHalt = true := by rw [decided_pos]; exact hh
  rw [settleEnded_eq, if_neg (Nat.not_lt.2 hv), advance_halted hd]
  exact makeGrants_of_noGrantDue hn

theorem settleEnded_leakCheck (hst : (u.pos p).state = .starting .settle) (hv : 50 ≤ u.pDisp p)
    (hh : (u.pos p).factors.vehicleHalt = false) (hvar : u.variantFound p = .pulseCheck) (hn : noGrantDue u) :
    u.settleEnded p = { u.measured p with
      positions := setAt u.positions p { u.decidedPosition p with state := .starting .leakCheck, substateTimer := some 5000 } } := by
  have hd : ((u.decided p).pos p).factors.vehicleHalt = false := by rw [decided_pos]; exact hh
  have hs : ((u.decided p).pos p).state = .starting .settle := by rw [decided_pos]; exact hst
  have ht : ((u.decided p).pos p).substateTimer = none := by rw [decided_pos]; rfl
  have hp : ((u.decided p).pos p).variant ≠ some .pulseOnly := by
    rw [decided_pos, State.decidedPosition, hvar]
    exact fun h => StartVariant.noConfusion (Option.some.inj h)
  rw [settleEnded_eq, if_neg (Nat.not_lt.2 hv), advance_free hd, advanceCore_settle hs ht, leaveSettle_leakCheck hp, decided_pos,
    State.decided]
  dsimp only
  rw [setAt_setAt]
  exact makeGrants_of_noGrantDue hn

theorem settleEnded_checks (hst : (u.pos p).state = .starting .settle) (hv : 50 ≤ u.pDisp p)
    (hh : (u.pos p).factors.vehicleHalt = false) (hvar : u.variantFound p = .pulseOnly) :
    vehicleChecksAct (u.decided p) (u.settleEnded p) p := by
  have hd : ((u.decided p).pos p).factors.vehicleHalt = false := by rw [decided_pos]; exact hh
  have hs : ((u.decided p).pos p).state = .starting .settle := by rw [decided_pos]; exact hst
  have ht : ((u.decided p).pos p).substateTimer = none := by rw [decided_pos]; rfl
  have hp : ((u.decided p).pos p).variant = some .pulseOnly := by
    rw [decided_pos, State.decidedPosition, hvar]
  rw [settleEnded_eq, if_neg (Nat.not_lt.2 hv), advance_free hd]
  exact advance_checks hs ht (.inl ⟨rfl, hp⟩)

/-! ### The leak check -/

/-- R54 (3): the position whose leak-check time has ended. -/
def State.substateOver (u : State) (p : Fin 4) : State :=
  { u with positions := setAt u.positions p { u.pos p with substateTimer := none } }

theorem substateOver_pos : (u.substateOver p).pos p = { u.pos p with substateTimer := none } := get_setAt_self _ _ _

theorem leakCheckEnded_eq : u.leakCheckEnded p =
    if u.pDisp p + (u.pos p).leakTolerance.getD 0 < (u.pos p).pInit.getD 0 then (u.substateOver p).endFill p .leak
    else ((u.substateOver p).advanceUnlessHalted p).makeGrants := by
  have hl : (u.substateOver p).leaks p =
      decide (u.pDisp p + (u.pos p).leakTolerance.getD 0 < (u.pos p).pInit.getD 0) := by
    rw [State.leaks, substateOver_pos]
    rfl
  have e : u.leakCheckEnded p = if (u.substateOver p).leaks p then (u.substateOver p).endFill p .leak
      else ((u.substateOver p).advanceUnlessHalted p).makeGrants := rfl
  rw [e, hl]
  exact if_congr decide_eq_true_iff rfl rfl

theorem leakCheckEnded_checks (hst : (u.pos p).state = .starting .leakCheck)
    (hl : ¬u.pDisp p + (u.pos p).leakTolerance.getD 0 < (u.pos p).pInit.getD 0)
    (hh : (u.pos p).factors.vehicleHalt = false) : vehicleChecksAct (u.substateOver p) (u.leakCheckEnded p) p := by
  have hd : ((u.substateOver p).pos p).factors.vehicleHalt = false := by rw [substateOver_pos]; exact hh
  rw [leakCheckEnded_eq, if_neg hl, advance_free hd]
  exact advance_checks (by rw [substateOver_pos]; exact hst) (by rw [substateOver_pos]) (.inr rfl)

theorem substateOver_ticket : (u.substateOver p).activeTicket p = u.activeTicket p := by
  rw [State.activeTicket, State.activeTicket, substateOver_pos]
  rfl

end

/-- Settles O47: the advance out of each substate, from the states that its end leaves. -/
theorem startSequenceAdvances : Obligations.StartSequenceAdvances := by
  unfold Obligations.StartSequenceAdvances
  refine ⟨fun s p ambient ha => lookupVariant_first p ha, fun p s d => ?_⟩
  intro u q
  have hstate : ∀ sub, s.substateLeft p sub = some d → q.state = .starting sub := by
    intro sub h
    obtain ⟨h, -⟩ := Option.ite_none_right_eq_some.1 h
    show ((s.elapse d).pos p).state = _
    rw [elapse_pos_state]
    exact h
  refine ⟨fun hd => ?_, fun hd => ?_, fun hd => ?_⟩
  · rw [exec_of_timeLeft (c := .pulseTimeEnd p) rfl hd]
    exact congrArg _ (enterSettle_eq u p)
  · have hst := hstate _ hd
    have he : exec (.settleTimeEnd p) s = .next (u.settleEnded p) := exec_of_timeLeft (c := .settleTimeEnd p) rfl hd
    intro v variant measured decided
    have hm : measured = u.measured p := modActive_positions_eq u p _ _
    have hdec : ({ measured with positions := setAt u.positions p decided } : State) = u.decided p := by rw [hm]; rfl
    refine ⟨fun hv => ⟨_, he, ?_⟩, fun hv hh hn => ?_, fun hv hh hvar hn => ?_, fun hv hh hvar => ⟨_, he, ?_⟩⟩
    · rw [hm]
      exact settleEnded_unsafe hst hv
    · rw [he, settleEnded_halted hv hh hn, hdec]
    · rw [he, settleEnded_leakCheck hst hv hh hvar hn, hm]
      rfl
    · rw [hdec]
      exact settleEnded_checks hst hv hh hvar
  · have hst := hstate _ hd
    have he : exec (.leakCheckTimeEnd p) s = .next (u.leakCheckEnded p) := exec_of_timeLeft (c := .leakCheckTimeEnd p) rfl hd
    intro leaks waiting link checked expected verdict
    have hchecks (hl : ¬leaks) (hh : q.factors.vehicleHalt = false) : vehicleChecksAct waiting (u.leakCheckEnded p) p :=
      leakCheckEnded_checks hst hl hh
    have hw : waiting.pos p = { q with substateTimer := none } := substateOver_pos
    have hverdict (hl : ¬leaks) (hh : q.factors.vehicleHalt = false) :
        (∀ r, verdict = some r → fillEnds checked (u.leakCheckEnded p) p r) ∧
        (verdict = none → coolWaitActs checked (u.leakCheckEnded p) p) := by
      have h := hchecks hl hh
      unfold vehicleChecksAct at h
      rw [show waiting.activeTicket p = u.activeTicket p from substateOver_ticket, hw] at h
      have hc : ({ waiting with positions := setAt waiting.positions p { q with substateTimer := none, link := link } } : State) =
          checked := by
        dsimp only [waiting, checked]
        rw [setAt_setAt]
      rw [← hc]
      exact h
    refine ⟨fun hl => ⟨_, he, ?_⟩, fun hl hh hn => ?_, fun r hl hh hv => ⟨_, he, (hverdict hl hh).1 r hv⟩,
      fun hl hh hv hcool hhold hexp hn => ?_, fun hl hh => ⟨_, he, hchecks hl hh⟩⟩
    · have hfill : (waiting.pos p).state.filling = true := by rw [hw]; exact filling_starting hst
      rw [leakCheckEnded_eq, if_pos hl]
      exact endFill_ends _ hfill
    · have hh' : ((u.substateOver p).pos p).factors.vehicleHalt = true := by rw [substateOver_pos]; exact hh
      rw [he, leakCheckEnded_eq, if_neg hl, advance_halted hh']
      exact congrArg _ (makeGrants_of_noGrantDue hn)
    · have hc : checked.pos p = { q with substateTimer := none, link := link } := get_setAt_self _ _ _
      have h := ((hverdict hl hh).2 hv).2 (by
        rw [hc]
        rintro (h | h | h)
        · exact absurd (hcool.symm.trans h) (by decide)
        · exact absurd (hhold.symm.trans h) (by decide)
        · exact absurd (hexp.symm.trans h) (by decide))
      rw [he, h, hc]
      dsimp only [checked]
      rw [setAt_setAt]
      exact congrArg _ (makeGrants_of_noGrantDue hn)

/-! ### The cool wait -/

section
variable {u : State} {p : Fin 4}

/-- R56 (5), R163 (2): the state after a wait for a cooling slot in vain. -/
def State.waited (u : State) (p : Fin 4) : State :=
  { u with
    positions := setAt u.positions p { u.pos p with coolWaitTimer := none, coolWaitExpired := true }
    precool :=
      { u.precool with
        waitQueue := u.precool.waitQueue.erase p
        grades := setAt u.precool.grades p (some .g0) } }

theorem waited_pos : (u.waited p).pos p = { u.pos p with coolWaitTimer := none, coolWaitExpired := true } := get_setAt_self _ _ _

theorem waited_grade : (u.waited p).grade p = some .g0 := get_setAt_self _ _ _

theorem waited_noGrantDue (hn : noGrantDue u) : noGrantDue (u.waited p) := by
  rcases hn with hn | hn
  · exact .inl hn
  · refine .inr ?_
    show u.precool.waitQueue.erase p = []
    rw [hn]
    rfl

theorem coolWaitEnded_eq (hst : (u.pos p).state = .starting .coolWait) : u.coolWaitEnded p =
    if (u.pos p).factors.vehicleHalt then (u.waited p).makeGrants else ((u.waited p).startLookupCore p).makeGrants := by
  set w := (u.modPcl fun c => { c with waitQueue := c.waitQueue.erase p }).giveUpCooling p with hw
  have hp : w.pos p = { u.pos p with coolWaitExpired := true } := giveUpCooling_pos _ p
  have hs : (w.pos p).state = .starting .coolWait := by rw [hp]; exact hst
  have hm : (w.modPos p fun q => { q with coolWaitTimer := none }) = u.waited p := by
    rw [hw, State.giveUpCooling]
    simp only [State.modPos, State.modPcl, State.setGrade, modAt, setAt_setAt, get_setAt_self, State.waited, State.pos]
  have e : u.coolWaitEnded p = (w.endCoolWaitCore p).makeGrants := rfl
  rw [e, endCoolWaitCore_at w p hs, hm, hp]
  split <;> rfl

theorem coolWaitEnded_lookup (hst : (u.pos p).state = .starting .coolWait) (hh : (u.pos p).factors.vehicleHalt = false) :
    startLookupActs (u.waited p) (u.coolWaitEnded p) p := by
  rw [coolWaitEnded_eq hst, hh]
  exact startLookup_acts (by rw [waited_pos]; exact filling_starting hst)

end

/-! ### What grants leave of one position -/

section
variable {s : State} {p : Fin 4}

/-- R162: grants leave a ticket that is ACTIVE at no position in COOL_WAIT. -/
theorem makeGrants_ticket {j : Fin 32} {k : Ticket} (hc : (s.pos p).state ≠ .starting .coolWait)
    (hk : s.tickets.get j = some k) (ho : ∀ o, o ≠ p → (s.pos o).active ≠ some k.number) :
    s.makeGrants.tickets.get j = some k := by
  refine (makeGrants_fills s).tickets j k hk fun o hs => ?_
  by_cases h : o = p
  · exact absurd (h ▸ hs) hc
  · exact ho o h

/-- R57 (4) to (6): the fill that goes on in FUELLING, from the state in which the start lookup was made. -/
def State.fuelled (s : State) (p : Fin 4) (i : Fin 16) (f : FillProfile) (b : Fin 6) : State :=
  { s.profiled p i f ((s.pos p).pInit.getD 0) with
    positions := setAt s.positions p
      { s.pos p with
        state := .fuelling, valve := 0, drawBank := some b, substateTimer := none, coolWaitTimer := none
        ramp :=
          { (s.pos p).ramp.onProfile i f (10 * (s.pos p).pInit.getD 0) with stepTimer := some 250 } }
    compressor := (s.suspendForDraw b).compressor }

theorem startLookup_fuels {t : State} {i : Fin 16} {f : FillProfile} {b : Fin 6} (h : startLookupActs s t p)
    (hf : (s.pos p).factors = .empty)
    (hl : s.lookupProfile p (s.grade p) (if (s.pos p).link.state = .stream then .comm else .noncomm) = some (i, f))
    (hp : (s.pos p).pInit.getD 0 < f.endPressure) (hb : s.selectedBank p none = some b) :
    t = (s.fuelled p i f b).makeGrants := by
  have := ((h.2 i f hl).2 hp).2.2.1 b hf hb
  rw [this, modActive_positions_eq]
  rfl

end

section
variable {u : State} {p : Fin 4}

/-- R56 (5), R57: what a wait in vain and a start lookup leave, when the fill goes on in FUELLING. -/
theorem fuelled_shows (i : Fin 16) (f : FillProfile) (b : Fin 6) :
    let t := ((u.waited p).fuelled p i f b).makeGrants
    let q := u.pos p
    let mode : CommMode := if q.link.state = .stream then .comm else .noncomm
    t.base = u.base ∧ t.banks = u.banks ∧ (u.precool.waitQueue.Nodup → t.grade p = some .g0) ∧
    t.pos p =
      { q with
        state := .fuelling, valve := 0, drawBank := some b, coolWaitTimer := none, coolWaitExpired := true, substateTimer := none
        ramp :=
          { q.ramp with
            profile := some i, base := 10 * q.pInit.getD 0, time := 0, rate := f.rampRate, taper := false
            target := none, starved := 0, lagging := 0, stepTimer := some 250 } } ∧
    ∀ n j k, q.active = some n → u.ticketSlot n = some j → u.tickets.get j = some k →
      (∀ o, o ≠ p → (u.pos o).active ≠ some n) →
      t.tickets.get j = some { k with profile := some i, grade := some .g0, commMode := some mode } := by
  intro t q mode
  set w := (u.waited p).fuelled p i f b with hw
  have hpos : w.pos p = { (u.waited p).pos p with
        state := .fuelling, valve := 0, drawBank := some b, substateTimer := none, coolWaitTimer := none
        ramp :=
          { ((u.waited p).pos p).ramp.onProfile i f (10 * ((u.waited p).pos p).pInit.getD 0) with stepTimer := some 250 } } :=
    get_setAt_self _ _ _
  rw [waited_pos] at hpos
  have hne : (w.pos p).state ≠ .starting .coolWait := by rw [hpos]; exact fun h => PosState.noConfusion h
  refine ⟨(makeGrants_fills w).base, (makeGrants_fills w).banks, fun hn => ?_, ?_, fun n j k ha hj hk ho => ?_⟩
  · have hg := (makeGrants_only w).grades p (show p ∉ u.precool.waitQueue.erase p from hn.not_mem_erase)
    exact hg.trans waited_grade
  · exact ((makeGrants_fills w).pos p hne).trans hpos
  · have hnum := number_of_slot hj hk
    refine makeGrants_ticket hne ?_ fun o h => ?_
    · have h := modActive_get (u.waited p) p
        (fun x => { x with profile := some i, grade := (u.waited p).grade p, commMode := some ((u.waited p).pos p).commMode }) j
      have hj' : ((u.waited p).pos p).active.bind (u.waited p).ticketSlot = some j := by
        rw [waited_pos]
        show q.active.bind u.ticketSlot = some j
        rw [ha]
        exact hj
      have hk' : (u.waited p).tickets.get j = some k := hk
      have hm : ((u.waited p).pos p).commMode = mode := by rw [waited_pos]; rfl
      rw [if_pos hj', hk', Option.map_some] at h
      refine h.trans ?_
      rw [waited_grade, hm]
    · have e : w.pos o = u.pos o := by
        show (setAt (setAt u.positions p _) p _).get o = _
        rw [setAt_setAt]
        exact get_setAt_ne _ _ h
      rw [e]
      show (u.pos o).active ≠ some k.number
      rw [hnum]
      exact ho o h

end

/-- Settles O48: the wait ends at grade G0, and the start lookup decides as it does after every wait. -/
theorem coolWaitEndsInTheStartLookup : Obligations.CoolWaitEndsInTheStartLookup := by
  unfold Obligations.CoolWaitEndsInTheStartLookup
  refine ⟨fun s p grade mode ambient ha => lookupProfile_first p grade mode ha, fun p s d hd => ?_⟩
  intro c u q mode found waited
  have hst : q.state = .starting .coolWait := by
    show ((s.elapse d).pos p).state = _
    rw [elapse_pos_state]
    exact (Option.ite_none_right_eq_some.1 hd).1
  have he : exec c s = .next (u.coolWaitEnded p) := exec_of_timeLeft (c := .coolWaitExpiry p) rfl hd
  have hlook (hh : q.factors.vehicleHalt = false) : startLookupActs (u.waited p) (u.coolWaitEnded p) p :=
    coolWaitEnded_lookup hst hh
  have hw : waited.pos p = { q with coolWaitTimer := none, coolWaitExpired := true } := waited_pos
  have hg : waited.grade p = some .g0 := waited_grade
  have hfound : waited.lookupProfile p (waited.grade p) (if (waited.pos p).link.state = .stream then .comm else .noncomm) =
      found := by
    rw [hg, State.lookupProfile, hw]
    rfl
  have hfill : (waited.pos p).state.filling = true := by rw [hw]; exact filling_starting hst
  refine ⟨fun hh hn => ?_, fun hh => ⟨_, he, hlook hh⟩, fun hh hf => ⟨_, he, ?_⟩, fun i f hh hf hp => ⟨_, he, ?_⟩,
    fun i f b hfac hf hp hb => ⟨_, he, ?_⟩⟩
  · rw [he, coolWaitEnded_eq hst, if_pos hh]
    exact congrArg _ (makeGrants_of_noGrantDue (waited_noGrantDue hn))
  · have h := (hlook hh).1 (hfound.trans hf)
    rwa [if_pos ⟨hg, by rw [waited_pos]⟩] at h
  · exact ((hlook hh).2 i f (hfound.trans hf)).1 (by
      show f.endPressure ≤ (waited.pos p).pInit.getD 0
      rw [hw]
      exact hp)
  · have hh : q.factors.vehicleHalt = false := by rw [hfac]; rfl
    have h := startLookup_fuels (hlook hh) (by rw [waited_pos]; exact hfac) (hfound.trans hf)
      (by rw [waited_pos]; exact hp) hb
    rw [h]
    exact fuelled_shows i f b

end Sys2Proof.Machine
end

section
/-! PROOFS. The ends of the vent time, of the hold times and of the fallback window. -/

namespace Sys2Proof.Machine

/-! ### The vent -/

section
variable {u : State} {p : Fin 4} {n : Nat} {i : Fin 32} {k : Ticket}

/-- A change of the ACTIVE ticket of a position, at its slot of the table. -/
theorem modActive_of_slot (ha : (u.pos p).active = some n) (hi : u.ticketSlot n = some i) (hk : u.tickets.get i = some k)
    (f : Ticket → Ticket) : u.modActive p f = { u with tickets := setAt u.tickets i (some (f k)) } := by
  rw [State.modActive, ha]
  exact modTicket_of_slot hi hk f

/-- R12 (3), R61: the end of the vent time, before the nozzle is looked at. -/
def State.vented (u : State) (p : Fin 4) (i : Fin 32) (k : Ticket) : State :=
  { u with
    positions := setAt u.positions p { u.pos p with state := .ended, substateTimer := none, quarter := 0 }
    tickets := setAt u.tickets i
      (some { k with state := .ended, endTime := some u.clock, finalPressure := some (u.pDisp p) })
    pendingFlags := u.pendingFlags ||| (EventFlag.fillEnded p).word }

theorem ventEnded_eq (ha : (u.pos p).active = some n) (hi : u.ticketSlot n = some i) (hk : u.tickets.get i = some k) :
    u.ventEnded p = if (u.debouncers.holster.get p).level then (u.vented p i k).holsterEnded p else u.vented p i k := by
  unfold State.ventEnded
  dsimp only
  rw [modActive_of_slot ha hi hk]
  rfl

/-- R12 (3): the table slot of a number stands when the ticket in it keeps its number. -/
theorem ticketSlot_setAt (hi : u.ticketSlot n = some i) (hk : u.tickets.get i = some k) {l : Ticket} (hl : l.number = k.number)
    {t : State} (ht : t.tickets = setAt u.tickets i (some l)) : t.ticketSlot n = some i := by
  obtain ⟨hhit, hlow⟩ := findSlot_eq_some_iff.1 hi
  rw [State.ticketSlot, ht]
  refine findSlot_eq_some_iff.2 ⟨?_, fun j hj => ?_⟩
  · rw [hk, Option.any_some] at hhit
    rw [get_setAt_self, Option.any_some, hl]
    exact hhit
  · rw [get_setAt_ne _ _ (Fin.ne_of_lt hj)]
    exact hlow j hj

/-- R13 (1), R48: the ticket of a fill that has ended is detached at the holstering. -/
theorem holsterEnded_vented (ha : (u.pos p).active = some n) (hi : u.ticketSlot n = some i) (hk : u.tickets.get i = some k) :
    (u.vented p i k).holsterEnded p = ({ u with
      positions := setAt u.positions p { u.pos p with state := .idle, substateTimer := none, quarter := 0, active := none }
      tickets := setAt u.tickets i (some
        { k with state := .ended, endTime := some u.clock, finalPressure := some (u.pDisp p), attachment := .detached })
      pendingFlags := u.pendingFlags ||| (EventFlag.fillEnded p).word } : State).promote p := by
  set v := (u.vented p i k).modPos p fun q => { q with state := .idle } with hv
  have hpos : v.pos p = { u.pos p with state := .idle, substateTimer := none, quarter := 0 } := by
    rw [hv, modPos_pos_self]
    show { (setAt u.positions p _).get p with state := .idle } = _
    rw [get_setAt_self]
  have hva : (v.pos p).active = some n := by rw [hpos]; exact ha
  have hvk : v.tickets.get i = some
      { k with state := .ended, endTime := some u.clock, finalPressure := some (u.pDisp p) } := get_setAt_self _ _ _
  have hvi : v.ticketSlot n = some i := ticketSlot_setAt (l := { k with state := .ended, endTime := some u.clock, finalPressure := some (u.pDisp p) }) hi hk rfl rfl
  have hvt : v.activeTicket p = some
      { k with state := .ended, endTime := some u.clock, finalPressure := some (u.pDisp p) } := by
    rw [State.activeTicket, hva, Option.bind_some, ticket_of_slot hvi, hvk]
  have e : (u.vented p i k).holsterEnded p =
      match v.activeTicket p with
      | some t => if t.state = .ended then (v.detachActive p).promote p else v
      | none => v.promote p := rfl
  rw [e, hvt]
  dsimp only
  rw [if_pos rfl, State.detachActive, modActive_of_slot hva hvi hvk]
  refine congrArg (fun x : State => x.promote p) ?_
  rw [hv]
  simp only [State.modPos, modAt, State.vented, setAt_setAt, get_setAt_self]

end

/-! ### The hold unit -/

section
variable {s : State} {p : Fin 4} {d : Nat}

/-- R115: the end of the resume delay, by the clear mode. -/
theorem delayEnded_timed (hm : (s.cfg p).clearMode = .timed) : s.delayEnded p =
    ({ s with positions := setAt s.positions p { s.pos p with resumeTimer := none } } : State).resume p := by
  have hc : ((s.modPos p fun q => { q with resumeTimer := none }).cfg p).clearMode = .timed := hm
  rw [State.delayEnded]
  dsimp only
  rw [hc]
  rfl

theorem delayEnded_timedDemand (hm : (s.cfg p).clearMode = .timedDemand) : s.delayEnded p =
    { s with positions := setAt s.positions p { s.pos p with state := .held .demandWait, resumeTimer := none } } := by
  have hc : ((s.modPos p fun q => { q with resumeTimer := none }).cfg p).clearMode = .timedDemand := hm
  rw [State.delayEnded]
  dsimp only
  rw [hc]
  exact modPos_modPos _ p _ _

/-- R117 (3): the hold accumulator has reached its limit when the time left to it has passed. -/
theorem holdTotal_reached (hd : s.holdTotalLeft p = some d) (hle : (s.pos p).holdTime ≤ (s.cfg p).maxHold * 1000) :
    ((s.elapse d).pos p).holdTime = (s.cfg p).maxHold * 1000 := by
  obtain ⟨hheld, hx⟩ := Option.ite_none_right_eq_some.1 hd
  have hx' := Option.some.inj hx
  rw [elapse_pos_holdTime, if_pos hheld]
  unfold PositionConfig.holdLimit at *
  omega

/-- R117 (3): the fill whose hold total is exhausted ends. -/
theorem holdExhausted_ends (hst : (s.pos p).state.isHeld = true) {n : Nat} {i : Fin 32} {k : Ticket}
    (ha : (s.pos p).active = some n) (hi : s.ticketSlot n = some i) (hk : s.tickets.get i = some k) :
    fillEnds { s with tickets := setAt s.tickets i (some { k with holdUsed := (s.cfg p).maxHold }) } (s.holdExhausted p) p
      .holdExpired := by
  have hfill : (s.pos p).state.filling = true := filling_of_running (.inr hst)
  rw [State.holdExhausted, modActive_of_slot ha hi hk]
  exact endFill_ends (s := { s with tickets := _ }) _ hfill

end

/-- Settles O50: each expiry acts on the ticket at its slot of the table. -/
theorem ventAndHoldTimersAct : Obligations.VentAndHoldTimersAct := by
  unfold Obligations.VentAndHoldTimersAct
  refine ⟨fun p s d n i k hd => ?_, fun p s d => ?_⟩
  · intro u done flags ha hi hk
    have he : exec (.ventTimeEnd p) s = .next (u.ventEnded p) := exec_of_timeLeft (c := .ventTimeEnd p) rfl hd
    refine ⟨fun hh => ?_, fun hh => ?_⟩
    · rw [he, ventEnded_eq ha hi hk, hh]
      rfl
    · rw [he, ventEnded_eq ha hi hk, hh, if_pos rfl, holsterEnded_vented ha hi hk]
  · intro u
    have hcfg : u.cfg p = s.cfg p := elapse_cfg d s p
    refine ⟨fun hd => ⟨fun hm => ?_, fun hm => ?_⟩, fun n i k ha hi hk => ⟨fun hd => ?_, fun hd => ?_⟩⟩
    · rw [exec_of_timeLeft (c := .resumeDelayExpiry p) rfl hd]
      exact congrArg _ (delayEnded_timed (by rw [elapse_cfg]; exact hm))
    · rw [exec_of_timeLeft (c := .resumeDelayExpiry p) rfl hd]
      exact congrArg _ (delayEnded_timedDemand (by rw [elapse_cfg]; exact hm))
    · rw [exec_of_timeLeft (c := .holdSecondElapsed p) rfl hd]
      exact congrArg _ (modActive_of_slot ha hi hk _)
    · intro total
      refine ⟨holdTotal_reached hd, _, exec_of_timeLeft (c := .holdTotalExpiry p) rfl hd, ?_⟩
      have hst : (u.pos p).state.isHeld = true := by
        show ((s.elapse d).pos p).state.isHeld = true
        rw [elapse_pos_state]
        exact (Option.ite_none_right_eq_some.1 hd).1
      have h := holdExhausted_ends hst ha hi hk
      rw [hcfg] at h
      exact h

/-! ### The fallback window -/

section
variable {u : State} {p : Fin 4} {g : Grade}

/-- R73, R165 (3): the fallback timer has expired. -/
def State.fallbackStopped (u : State) (p : Fin 4) : State :=
  { u with
    precool := { u.precool with fallback := setAt u.precool.fallback p none }
    pendingFlags := u.pendingFlags ||| 0x200000#27 }

theorem fallbackExpired_found {t : State} (hg : u.grade p = some g)
    (h : (u.fallbackStopped p).relookup p (some g.warmer) (u.pos p).commMode = some t) :
    u.fallbackExpired p = t.fallBack p g.warmer := by
  have hs : ((u.setFallback p none).raise .gradeFallback) = u.fallbackStopped p := rfl
  have hg' : (u.fallbackStopped p).grade p = some g := hg
  have hq : (u.fallbackStopped p).pos p = u.pos p := rfl
  rw [State.fallbackExpired]
  rw [hs, hg']
  dsimp only
  rw [hq, h]

theorem fallbackExpired_notFound (hg : u.grade p = some g)
    (h : (u.fallbackStopped p).relookup p (some g.warmer) (u.pos p).commMode = none) :
    u.fallbackExpired p = (u.fallbackStopped p).activate p .precool := by
  have hs : ((u.setFallback p none).raise .gradeFallback) = u.fallbackStopped p := rfl
  have hg' : (u.fallbackStopped p).grade p = some g := hg
  have hq : (u.fallbackStopped p).pos p = u.pos p := rfl
  rw [State.fallbackExpired]
  rw [hs, hg']
  dsimp only
  rw [hq, h]

theorem warmer_eq (g : Grade) : g.warmer = if g = .g1 then .g2 else if g = .g2 then .g3 else .g0 := by
  cases g <;> rfl

/-- R165 (3): a warmer grade is never G1. -/
theorem outletLimit_warmer (r : SiteRecord) (g : Grade) {w : Grade} (hw : g.warmer = w) :
    r.outletLimit w = if w = .g2 then some r.limitG2 else if w = .g3 then some r.limitG3 else none := by
  subst hw
  cases g <;> rfl

theorem fallBack_fuelling (hst : (u.pos p).state = .fuelling) (hf : u.precool.fallback.get p = none) : u.fallBack p g = { u with
    precool := { u.precool with
      grades := setAt u.precool.grades p (some g)
      fallback := setAt u.precool.fallback p
        (if (u.site.outletLimit g).any fun l => decide (l < u.tGas p) then some (u.site.fallbackWindow * 1000) else none) } } := by
  have hsame : setAt u.precool.fallback p none = u.precool.fallback := by rw [← hf]; exact setAt_get_self _ _
  have hst' : ((u.setGrade p (some g)).pos p).state = .fuelling := hst
  have hsite : (u.setGrade p (some g)).site = u.site := rfl
  have htg : (u.setGrade p (some g)).tGas p = u.tGas p := rfl
  unfold State.fallBack
  dsimp only
  rw [hst', hsite]
  cases hl : u.site.outletLimit g with
  | none =>
    simp only [Option.any_none, Bool.false_eq_true, if_false, hsame]
    rfl
  | some l =>
    dsimp only
    rw [htg, Option.any_some]
    by_cases h : l < u.tGas p
    · rw [if_pos h, decide_eq_true h]
      rfl
    · rw [if_neg h, decide_eq_false h, if_neg Bool.false_ne_true, hsame]
      rfl

end

/-- Settles O51: the re-lookup is made from the state with the timer stopped. -/
theorem fallbackWarmsTheGrade : Obligations.FallbackWarmsTheGrade := by
  unfold Obligations.FallbackWarmsTheGrade
  intro p s d g hd hg hst hfac u warmer limit mode found stopped
  have he : exec (.fallbackExpiry p) s = .next (u.fallbackExpired p) := exec_of_timeLeft (c := .fallbackExpiry p) rfl hd
  have hgu : u.grade p = some g := (elapse_grade d s p).trans hg
  have hw : g.warmer = warmer := warmer_eq g
  have hstu : (u.pos p).state = .fuelling := (elapse_pos_state d s p).trans hst
  have hfacu : (u.pos p).factors = .empty := (elapse_pos_factors d s p).trans hfac
  have hmode : (u.pos p).commMode = mode := by
    show (if ((s.elapse d).pos p).link.state = .stream then CommMode.comm else .noncomm) = mode
    rw [elapse_link_state]
  have hsite : u.site = s.site := elapse_site d s
  have hlook : stopped.lookupProfile p (some warmer) mode = found := rfl
  have hnone (hf : found = none) : u.fallbackExpired p = stopped.activate p .precool :=
    fallbackExpired_notFound hgu (by rw [hw, hmode]; exact relookup_none (hlook.trans hf))
  have hb : (stopped.pos p).factors.has .precool = false := by
    show (u.pos p).factors.has .precool = false
    rw [hfacu]
    rfl
  have hcfg : stopped.cfg p = s.cfg p := elapse_cfg d s p
  refine ⟨fun i f hf => ?_, fun hf hc hn => ⟨_, he, ?_⟩, fun hf hc => ⟨_, he, ?_⟩⟩
  · set r := stopped.rebased p i f (some warmer) mode with hr
    have hrp : r.pos p = { u.pos p with ramp := (u.pos p).ramp.onProfile i f (10 * u.pDisp p) } := rebased_pos i f _ _
    have hclear : r.clearFactor p .precool = r := clearFactor_inactive (by rw [hrp]; exact hb)
    have hfound : u.fallbackExpired p = r.fallBack p warmer := by
      rw [← hw]
      refine fallbackExpired_found hgu ?_
      rw [hw, hmode, ← hclear]
      exact relookup_some (hlook.trans hf)
    have hrst : (r.pos p).state = .fuelling := by rw [hrp]; exact hstu
    have hrf : r.precool.fallback.get p = none := get_setAt_self _ _ _
    have hlim : r.site.outletLimit warmer = limit := by
      show u.site.outletLimit warmer = _
      rw [hsite]
      exact outletLimit_warmer s.site g hw
    have ht := modActive_tickets_congr (s := u) (t := stopped) p
      (fun k => { k with profile := some i, grade := some warmer, commMode := some mode }) rfl rfl
    have htg : r.tGas p = u.tGas p := rfl
    have hsr : r.site = s.site := hsite
    rw [he, hfound, fallBack_fuelling hrst hrf, hlim, htg, hsr, modActive_eq, hr, State.rebased, ht]
    simp only [stopped, setAt_setAt]
    rw [hsite]
    rfl
  · rw [hnone hf]
    have ha : factorActivates stopped (stopped.activate p .precool) p .precool := activate_activates hn
    have hr : endingReason (stopped.cfg p) .precool = none := by
      rw [hcfg, endingReason, hc]
      rfl
    have h := (ha.2 hb).2.2.1 hstu hr
    have hq : (stopped.pos p).factors = .empty := hfacu
    rw [hq] at h
    exact h
  · have hr : endingReason (stopped.cfg p) .precool = some .precool := by
      rw [hcfg, endingReason, hc]
      rfl
    rw [hnone hf, State.activate, activateCore_ends hb (.inl hstu) hr]
    exact endFill_ends _ (filling_of_running (.inl hstu))

end Sys2Proof.Machine
end

section
/-! PROOFS. The selection of a bank, and the start test. -/

namespace Sys2Proof.Machine

/-! ### The order of the banks -/

/-- R129 (1): the order of choice, by rated pressure and then by index. -/
def ratedBefore (rated : Fin 6 → Nat) (a b : Fin 6) : Prop := rated a < rated b ∨ rated a = rated b ∧ a < b

section
variable (rated : Fin 6 → Nat)

theorem mem_insertRated (b x : Fin 6) (l : List (Fin 6)) : x ∈ insertRated rated b l ↔ x = b ∨ x ∈ l := by
  induction l with
  | nil => simp [insertRated]
  | cons y l ih =>
    rw [insertRated]
    split
    · rw [List.mem_cons]
    · rw [List.mem_cons, ih, List.mem_cons, or_left_comm]

theorem insertRated_sorted (b : Fin 6) (l : List (Fin 6)) (hs : l.Pairwise (ratedBefore rated)) (hb : ∀ x ∈ l, x < b) :
    (insertRated rated b l).Pairwise (ratedBefore rated) := by
  induction l with
  | nil => exact List.pairwise_singleton _ _
  | cons y l ih =>
    obtain ⟨hy, hl⟩ := List.pairwise_cons.1 hs
    rw [insertRated]
    split
    · next hlt =>
      refine List.pairwise_cons.2 ⟨fun x hx => .inl ?_, hs⟩
      rcases List.mem_cons.1 hx with rfl | hx
      · exact hlt
      · rcases hy x hx with h | ⟨h, -⟩
        · exact hlt.trans h
        · exact h ▸ hlt
    · next hle =>
      refine List.pairwise_cons.2 ⟨fun x hx => ?_, ih hl fun x hx => hb x (List.mem_cons_of_mem _ hx)⟩
      rcases (mem_insertRated rated b x l).1 hx with rfl | hx
      · rcases Nat.lt_or_eq_of_le (Nat.le_of_not_lt hle) with h | h
        · exact .inl h
        · exact .inr ⟨h, hb y List.mem_cons_self⟩
      · exact hy x hx

theorem foldInsert_sorted (bs : List (Fin 6)) (hbs : bs.Pairwise (· < ·)) (l : List (Fin 6)) (hs : l.Pairwise (ratedBefore rated))
    (hb : ∀ x ∈ l, ∀ b ∈ bs, x < b) :
    (bs.foldl (fun l b => insertRated rated b l) l).Pairwise (ratedBefore rated) ∧
      ∀ x, x ∈ bs.foldl (fun l b => insertRated rated b l) l ↔ x ∈ l ∨ x ∈ bs := by
  induction bs generalizing l with
  | nil => exact ⟨hs, by simp⟩
  | cons b bs ih =>
    obtain ⟨hbb, hbs⟩ := List.pairwise_cons.1 hbs
    obtain ⟨h1, h2⟩ := ih hbs (insertRated rated b l) (insertRated_sorted rated b l hs fun x hx => hb x hx b List.mem_cons_self)
      fun x hx c hc => by
        rcases (mem_insertRated rated b x l).1 hx with rfl | hx
        · exact hbb c hc
        · exact hb x hx c (List.mem_cons_of_mem _ hc)
    refine ⟨h1, fun x => ?_⟩
    rw [List.foldl_cons, h2, mem_insertRated, List.mem_cons, or_assoc, or_left_comm]

end

section
variable (s : State) (p : Fin 4) (leaving : Option (Fin 6))

theorem banksByRating_sorted : s.banksByRating.Pairwise (listedBefore s) ∧ ∀ b, b ∈ s.banksByRating := by
  obtain ⟨h1, h2⟩ := foldInsert_sorted (fun x => (s.bankCfg x).rated) allBanks (by decide) [] .nil (by simp)
  exact ⟨h1, fun b => (h2 b).2 (.inr (List.mem_finRange b))⟩

theorem eligible_iff (b : Fin 6) : s.eligible p leaving b = true ↔ bankFits s p leaving b := by
  have hserve : (s.bankCfg b).serves (s.cfg p).nozzleClass = true ↔ servesClass s b (s.cfg p).nozzleClass := by
    cases (s.cfg p).nozzleClass <;> exact Iff.rfl
  unfold State.eligible bankFits
  simp only [Bool.and_eq_true, Bool.not_eq_true', decide_eq_true_eq, bne_iff_ne, hserve, bankPressureKnown_iff, and_assoc]

theorem mem_eligibleBanks (b : Fin 6) : b ∈ s.eligibleBanks p leaving ↔ bankFits s p leaving b := by
  rw [State.eligibleBanks, List.mem_filter, eligible_iff]
  exact and_iff_right ((banksByRating_sorted s).2 b)

theorem notActive_iff (b : Fin 6) : (s.refillStatus b != .active) = true ↔ s.compressor.activeBank ≠ some b := by
  unfold State.refillStatus
  repeat' split
  all_goals simp_all

/-- R129: the bank that a selection takes. -/
theorem selectedBank_answers : selectionAnswer s p leaving (s.selectedBank p leaving) := by
  have hm := mem_eligibleBanks s p leaving
  have hsorted : (s.eligibleBanks p leaving).Pairwise (listedBefore s) := (banksByRating_sorted s).1.filter _
  unfold selectionAnswer State.selectedBank
  dsimp only
  cases hf : (s.eligibleBanks p leaving).find? fun b => s.refillStatus b != .active with
  | some b =>
    rw [Option.some_or]
    obtain ⟨hb, as, bs, hl, has⟩ := List.find?_eq_some_iff_append.1 hf
    have hb' := (notActive_iff s b).1 hb
    refine ⟨(hm b).1 (by rw [hl]; simp), fun h => absurd h hb', fun _ a ha hne hact => ?_⟩
    have hmem := (hm a).2 ha
    rw [hl] at hmem hsorted
    rcases List.mem_append.1 hmem with h | h
    · have := has a h
      rw [(notActive_iff s a).2 hact] at this
      cases this
    · rcases List.mem_cons.1 h with rfl | h
      · exact absurd rfl hne
      · exact (List.pairwise_cons.1 (List.pairwise_append.1 hsorted).2.1).1 a h
  | none =>
    have hact (a : Fin 6) (ha : bankFits s p leaving a) : s.compressor.activeBank = some a := by
      by_contra hne
      exact (List.find?_eq_none.1 hf) a ((hm a).2 ha) ((notActive_iff s a).2 hne)
    rw [Option.none_or]
    cases hl : s.eligibleBanks p leaving with
    | nil =>
      intro b hb
      have := (hm b).2 hb
      rw [hl] at this
      cases this
    | cons b rest =>
      have hb := (hm b).1 (by rw [hl]; exact List.mem_cons_self)
      refine ⟨hb, fun h a ha => ?_, fun h => absurd (hact b hb) h⟩
      exact Option.some.inj ((hact a ha).symm.trans h)

/-- R162: a slot is free in READY while the holders are fewer than the slot count. -/
theorem slotFree_iff : s.slotFree = true ↔
    s.precool.chiller = .ready ∧ (allPositions.filter s.precool.holders.has).length < s.site.slotCount := by
  have hsize : ∀ h : PosSet, h.size = (allPositions.filter h.has).length := by
    rintro ⟨a, b, c, d⟩
    revert a b c d
    decide
  rw [State.slotFree, Bool.and_eq_true, beq_iff_eq, decide_eq_true_eq, hsize]

end

/-! ### The start test -/

section
variable (s : State) (p : Fin 4)

/-- R50: the conditions of the start test. -/
def startPasses (s : State) (p : Fin 4) : Prop :=
  (s.pos p).state = .calling ∧ (∃ k, s.activeTicket p = some k ∧ k.state = .authorized) ∧
    (s.debouncers.coupling.get p).level = true ∧ s.esdLatch = false ∧ s.tradeLockOpen = false ∧ s.commissioned = true

theorem mayStart_iff : s.mayStart p = true ↔ startPasses s p := by
  unfold State.mayStart startPasses
  simp only [Bool.and_eq_true, beq_iff_eq, Bool.not_eq_true', Option.any_eq_true, and_assoc]

/-- R51: the position at its entry into STARTING. -/
def State.begunPosition (s : State) (p : Fin 4) : Position :=
  { s.pos p with
    state := .starting .pulse
    valve := 0
    drawBank := none
    pInit := none, variant := none, leakTolerance := none, coolWaitTimer := none, coolWaitExpired := false
    substateTimer := none
    fillTime := 0
    ramp := .cleared
    quarter := 0, phaseFaults := 0
    factors :=
      { FactorSet.empty with
        vehicleHalt := decide ((s.pos p).link.lastCommand = some .halt)
        sensor :=
          ((s.cfg p).pDisp.any fun i => decide ((s.chan i).state = .held)) ||
          ((s.cfg p).tGas.any fun i => decide ((s.chan i).state = .failed)) }
    resumeTimer := none, holdTime := 0 }

/-- R161: the slot request of a position at its entry into STARTING. -/
def State.slotRequested (s : State) (p : Fin 4) : Precool :=
  if (s.cfg p).cooling = false then { s.precool with grades := setAt s.precool.grades p (some .g0) }
  else if s.slotFree = true ∧ s.precool.waitQueue = [] then
    { s.precool with
      holders := s.precool.holders.put p true
      grades := setAt s.precool.grades p (some s.precool.offered) }
  else
    { s.precool with
      waitQueue := s.precool.waitQueue ++ [p]
      grades := setAt s.precool.grades p none }

/-- R10, R51, R161: the state at the entry of a position into STARTING. -/
def State.entered (s : State) (p : Fin 4) : State :=
  { s with
    tickets := (s.modActive p fun k => k.started s.clock).tickets
    positions := setAt s.positions p (s.begunPosition p)
    precool := s.slotRequested p }

theorem entered_pos : (s.entered p).pos p = s.begunPosition p := get_setAt_self _ _ _

theorem sensorDoubt_eq : s.sensorDoubt p =
    (((s.cfg p).pDisp.any fun i => decide ((s.chan i).state = .held)) ||
      ((s.cfg p).tGas.any fun i => decide ((s.chan i).state = .failed))) := by
  unfold State.sensorDoubt State.namedState
  cases (s.cfg p).pDisp <;> cases (s.cfg p).tGas <;> rfl

theorem started_begun : (s.pos p).started (s.sensorDoubt p) = s.begunPosition p := by
  have hh : ((s.pos p).link.lastCommand == some .halt) = decide ((s.pos p).link.lastCommand = some .halt) := by
    rw [Bool.eq_iff_iff, beq_iff_eq, decide_eq_true_iff]
  rw [sensorDoubt_eq, Position.started, hh, State.begunPosition]

theorem requestSlot_eq : s.requestSlot p = { s with precool := s.slotRequested p } := by
  unfold State.requestSlot State.slotRequested
  dsimp only
  cases hc : (s.cfg p).cooling with
  | false => rfl
  | true =>
    have hcond : ((s.setGrade p none).slotFree && (s.setGrade p none).precool.waitQueue.isEmpty) = true ↔
        s.slotFree = true ∧ s.precool.waitQueue = [] := by
      rw [Bool.and_eq_true, List.isEmpty_iff]
      rfl
    simp only [if_true, Bool.true_eq_false, if_false]
    by_cases h : s.slotFree = true ∧ s.precool.waitQueue = []
    · rw [if_pos (hcond.2 h), if_pos h]
      have he : s.precool.waitQueue.erase p = s.precool.waitQueue := by rw [h.2]; rfl
      simp only [State.grantSlot, State.modPcl, State.setGrade, setAt_setAt, he]
    · rw [if_neg fun h' => h (hcond.1 h'), if_neg h]
      rfl

theorem startBegun_eq : s.startBegun p = s.entered p := by
  unfold State.startBegun
  dsimp only
  rw [modActive_eq, requestSlot_eq, State.entered, ← started_begun]
  rfl

/-- R52: a P_disp channel that is FAILED. -/
theorem pDispFailed_iff : s.namedState (s.cfg p).pDisp = some .failed ↔
    ∃ i, (s.cfg p).pDisp = some i ∧ (s.chan i).state = .failed := by
  cases (s.cfg p).pDisp with
  | none => simp [State.namedState]
  | some i => simp [State.namedState]

/-- R51, R52: the position in PULSE on a bank. -/
def State.pulsing (s : State) (p : Fin 4) (b : Fin 6) : State :=
  { s.entered p with
    positions := setAt s.positions p
      { s.begunPosition p with valve := s.site.pulseOpening, drawBank := some b, substateTimer := some s.site.pulseTime }
    compressor := ((s.entered p).suspendForDraw b).compressor }

theorem enterPulse_entered {b : Fin 6} (hb : s.selectedBank p none = some b) :
    (s.entered p).enterPulseCore p = s.pulsing p b := by
  have hb' : (s.entered p).selectedBank p none = some b := hb
  rw [State.enterPulseCore, hb']
  dsimp only
  rw [joinBank_congr (s := s.entered p) ⟨rfl, fun _ => rfl, rfl, rfl⟩, entered_pos]
  simp only [State.modPos, modAt, State.pulsing, State.entered, setAt_setAt, get_setAt_self]

theorem enterPulse_noSupply (hb : s.selectedBank p none = none) :
    (s.entered p).enterPulseCore p = (s.entered p).enterEndingCore p .noSupply := by
  have hb' : (s.entered p).selectedBank p none = none := hb
  rw [State.enterPulseCore, hb']

section
variable {s p}

/-- R162: the slot request takes the one slot that is due, or none is. -/
theorem slotRequested_noGrantDue (hn : noGrantDue s) {t : State} (ht : t.precool = s.slotRequested p) (hs : t.site = s.site) :
    noGrantDue t := by
  unfold State.slotRequested at ht
  have hfree : t.slotFree = (t.precool.chiller == .ready && decide (t.precool.holders.size < s.site.slotCount)) := by
    rw [State.slotFree, hs]
  split at ht
  · exact (noGrantDue_congr (by rw [ht]) (by rw [ht]) (by rw [ht]) (by rw [hs])).2 hn
  · split at ht
    · next h => exact .inr (by rw [ht]; exact h.2)
    · next h =>
      rcases hn with hn | hn
      · refine .inl ?_
        rw [hfree, ht]
        exact hn
      · have : s.slotFree = false := Bool.eq_false_iff.2 fun hf => h ⟨hf, hn⟩
        refine .inl ?_
        rw [hfree, ht]
        exact this

theorem startTest_fails (h : ¬startPasses s p) : s.startTest p = s := by
  rw [State.startTest, if_neg fun h' => h ((mayStart_iff s p).1 h')]

theorem startTest_failed (h : startPasses s p) (hf : ∃ i, (s.cfg p).pDisp = some i ∧ (s.chan i).state = .failed) :
    s.startTest p = (s.entered p).endFill p .sensorFail := by
  have hf' : (s.entered p).namedState ((s.entered p).cfg p).pDisp = some .failed := (pDispFailed_iff s p).2 hf
  rw [State.startTest, if_pos ((mayStart_iff s p).2 h), enterStartingCore_eq, startBegun_eq, if_pos hf']
  rfl

theorem startTest_asks (h : startPasses s p) (hf : ¬∃ i, (s.cfg p).pDisp = some i ∧ (s.chan i).state = .failed) :
    s.startTest p = ((s.entered p).enterPulseCore p).makeGrants := by
  have hf' : ¬(s.entered p).namedState ((s.entered p).cfg p).pDisp = some .failed := fun h' => hf ((pDispFailed_iff s p).1 h')
  rw [State.startTest, if_pos ((mayStart_iff s p).2 h), enterStartingCore_eq, startBegun_eq, if_neg hf']

end

end

/-- R50: the start test leaves the banks. -/
theorem startTest_banks (s : State) (p : Fin 4) : (s.startTest p).banks = s.banks := by
  unfold State.startTest
  split
  · have hb := startBegun_fill s p
    have he : FillOnly p (s.startBegun p) (s.enterStartingCore p) := by
      rw [enterStartingCore_eq]
      split
      · exact enterEndingCore_fill _ p _
      · unfold State.enterPulseCore
        split
        · exact enterEndingCore_fill _ p _
        · exact (joinBank_fill _ p _).trans (modPos_fill _ p _ ⟨rfl, rfl⟩)
    exact (makeGrants_fills _).banks.trans (he.banks.trans hb.banks)
  · rfl

/-- Settles O46: the entry into STARTING is one record, from which the fill ends or the pulse begins. -/
theorem startTestOpensAFill : Obligations.StartTestOpensAFill := by
  unfold Obligations.StartTestOpensAFill
  refine ⟨⟨fun s p leaving => ⟨selectedBank_answers s p leaving, eligible_iff s p leaving⟩, fun s p i hi => ?_, slotFree_iff⟩,
    fun s p => ?_⟩
  · rw [State.pDisp, hi]
    rfl
  · intro t passes failed
    refine ⟨startTest_fails, ?_⟩
    intro begun fuelling requested entered
    have hfill : (entered.pos p).state.filling = true := by rw [show entered.pos p = begun from entered_pos s p]; rfl
    refine fun h => ⟨fun hf => ?_, fun hf hb => ?_, fun b hf hb => ?_, startTest_base s p, startTest_banks s p⟩
    · rw [show t = _ from startTest_failed h hf]
      exact endFill_ends _ hfill
    · rw [show t = _ from startTest_asks h hf, enterPulse_noSupply s p hb]
      exact endFill_ends _ hfill
    · intro pulsing started
      have ht : t = started.makeGrants := by
        rw [show t = s.startTest p from rfl, startTest_asks h hf, enterPulse_entered s p hb]
        rfl
      have hnext (hn : noGrantDue started) : t = started := by rw [ht, makeGrants_of_noGrantDue hn]
      have hn (hn : noGrantDue s) : noGrantDue started := slotRequested_noGrantDue hn rfl rfl
      have hpos : started.pos p = pulsing := get_setAt_self _ _ _
      have hne : (started.pos p).state ≠ .starting .coolWait := by rw [hpos]; exact fun h => by cases h
      refine ⟨ht, fun h => hnext (hn h), ?_, fun n i k ha hi hk ho => ?_, fun hc h => ?_, fun hc hfree => ?_, fun hc hfree hq => ?_⟩
      · rw [ht, (makeGrants_fills started).pos p hne, hpos]
      · have hnum := number_of_slot hi hk
        have hk' : started.tickets.get i = some (fuelling k) := by
          have h := modActive_get s p (fun k => k.started s.clock) i
          rw [ha, Option.bind_some, if_pos hi, hk, Option.map_some] at h
          exact h
        rw [ht]
        refine makeGrants_ticket hne hk' fun o h => ?_
        have e : started.pos o = s.pos o := get_setAt_ne _ _ h
        rw [e]
        exact hnum ▸ ho o h
      · have hp : started.precool = _ := if_pos hc
        rw [hnext (hn h), State.grade, hp]
        exact get_setAt_self _ _ _
      · have hp : started.precool = _ :=
          (if_neg (by rw [hc]; decide)).trans (if_neg fun h => Bool.false_ne_true (hfree.symm.trans h.1))
        rw [hnext (hn (.inl hfree)), State.grade, hp]
        exact ⟨get_setAt_self _ _ _, rfl, rfl⟩
      · have hp : started.precool = _ := (if_neg (by rw [hc]; decide)).trans (if_pos ⟨hfree, hq⟩)
        rw [hnext (hn (.inr hq)), State.grade, hp]
        exact ⟨get_setAt_self _ _ _, rfl, hq⟩

end Sys2Proof.Machine
end

section
/-! PROOFS. One control step of a fill. -/

namespace Sys2Proof.Machine

/-! ### A bank that is drawn is not ACTIVE -/

/-- R141, R145: a bank that a position draws on, and that is not ACTIVE, stays so from one state to the next. -/
def DrawnStands (p : Fin 4) (b : Fin 6) (s t : State) : Prop :=
  (s.pos p).drawBank = some b → s.compressor.activeBank ≠ some b →
    (t.pos p).drawBank = some b ∧ t.compressor.activeBank ≠ some b

section
variable {p : Fin 4} {b : Fin 6} {s t u : State}

theorem DrawnStands.refl (s : State) : DrawnStands p b s s := fun hd ha => ⟨hd, ha⟩

theorem DrawnStands.trans (h : DrawnStands p b s t) (k : DrawnStands p b t u) : DrawnStands p b s u :=
  fun hd ha => k (h hd ha).1 (h hd ha).2

theorem DrawnStands.of_eq (hp : t.pos p = s.pos p) (hc : t.compressor = s.compressor) : DrawnStands p b s t :=
  fun hd ha => ⟨by rw [hp]; exact hd, by rw [hc]; exact ha⟩

theorem DrawnStands.of_compressor (hp : t.pos p = s.pos p) (hc : t.compressor = u.compressor) (h : DrawnStands p b s u) :
    DrawnStands p b s t := fun hd ha => ⟨by rw [hp]; exact hd, by rw [hc]; exact (h hd ha).2⟩

theorem nextRefill_drawn {leave : Option (Fin 6)} (h : nextRefill s t leave) (hd : (s.pos p).drawBank = some b) :
    t.compressor.activeBank ≠ some b := by
  cases hc : s.choosable leave with
  | none =>
    rw [h.2 (choosable_eq_none.1 hc)]
    exact fun h => by cases h
  | some x =>
    have hx := choosable_eq_some.1 hc
    rw [h.1 x hx]
    obtain ⟨-, -, -, ⟨-, hdrawn, -⟩, -⟩ := hx
    exact fun e => hdrawn p (by rw [hd, Option.some.inj e])

theorem compressorStartTest_active (s : State) : s.compressorStartTest.compressor.activeBank = s.compressor.activeBank := by
  unfold State.compressorStartTest State.waitForCredit
  repeat' split
  all_goals rfl

theorem CompressorOnly.drawn (h : CompressorOnly s t)
    (ha : (s.pos p).drawBank = some b → s.compressor.activeBank ≠ some b → t.compressor.activeBank ≠ some b) :
    DrawnStands p b s t := by
  refine fun hd hn => ⟨?_, ha hd hn⟩
  unfold CompressorOnly at h
  rw [h]
  exact hd

theorem bankMayBeChosen_drawn (s : State) : DrawnStands p b s s.bankMayBeChosen := by
  refine (bankMayBeChosen_only s).drawn fun hd ha => ?_
  unfold State.bankMayBeChosen
  split
  · rw [compressorStartTest_active]
    exact ha
  · unfold State.chooseUnloaded
    split
    · next x hx =>
      obtain ⟨-, -, -, ⟨-, hdrawn, -⟩, -⟩ := choosable_eq_some.1 hx
      exact fun e => hdrawn p (by rw [hd, ← e]; rfl)
    · exact ha
  all_goals exact ha

theorem reportLeft_drawn (s : State) (a : Option (Fin 6)) : DrawnStands p b s (s.reportLeft a) := by
  unfold State.reportLeft State.reportEmptyDraw
  repeat' split
  all_goals first | exact bankMayBeChosen_drawn s | exact .refl s

theorem suspendForDraw_drawn (s : State) (a : Fin 6) : DrawnStands p b s (s.suspendForDraw a) := by
  refine (suspendForDraw_only s a).drawn fun hd hn => ?_
  obtain ⟨hsame, hnext⟩ := suspendForDraw_suspends s a
  by_cases ha : s.compressor.activeBank = some a
  · exact nextRefill_drawn (hnext ha) hd
  · rw [hsame ha]
    exact hn

variable {q : Fin 4} (hq : q ≠ p)
include hq

theorem modPos_drawn (s : State) (f : Position → Position) : DrawnStands p b s (s.modPos q f) :=
  .of_eq (modPos_pos_ne s f hq.symm) rfl

theorem releaseDraw_drawn (s : State) : DrawnStands p b s (s.releaseDraw q) :=
  (modPos_drawn hq s _).trans (reportLeft_drawn _ _)

theorem fillEnded_drawn (s : State) (r : EndReason) : DrawnStands p b s (fillEnded s q r) :=
  .of_compressor (u := s.releaseDraw q) (fillEnded_pos_ne s q r hq.symm) rfl (releaseDraw_drawn hq s)

theorem enterEndingCore_drawn (s : State) (r : EndReason) : DrawnStands p b s (s.enterEndingCore q r) := by
  by_cases h : (s.pos q).state.filling = true
  · rw [enterEndingCore_eq h]
    exact fillEnded_drawn hq s r
  · rw [enterEndingCore_idle (Bool.eq_false_iff.2 h)]
    exact .refl s

theorem fillHolds_drawn {fs : FactorSet} (h : fillHolds s t q fs) : DrawnStands p b s t := by
  unfold fillHolds at h
  rw [h]
  exact .of_compressor (u := s.releaseDraw q) (get_setAt_ne _ _ hq.symm) rfl (releaseDraw_drawn hq s)

theorem startWithoutBank_drawn (s : State) : DrawnStands p b s (s.startWithoutBank q) := by
  unfold State.startWithoutBank
  split
  · exact enterEndingCore_drawn hq s _
  · exact (fillHolds_drawn hq (putFactor_enterHeld_eq s q .bankLow)).trans (.of_eq rfl rfl)

theorem enterFuelling_drawn (s : State) (a : Fin 6) : DrawnStands p b s (s.enterFuelling q a) := by
  rw [enterFuelling_eq]
  exact .of_compressor (u := s.suspendForDraw a) (get_setAt_ne _ _ hq.symm) rfl (suspendForDraw_drawn s a)

theorem beginFill_drawn (s : State) (i : Fin 16) (f : FillProfile) (x : Nat) : DrawnStands p b s (s.beginFill q i f x) := by
  have hp : DrawnStands p b s (s.profiled q i f x) := .of_eq (get_setAt_ne _ _ hq.symm) rfl
  rw [beginFill_eq]
  refine hp.trans ?_
  repeat' split
  · exact enterEndingCore_drawn hq _ _
  · exact enterFuelling_drawn hq _ _
  · exact startWithoutBank_drawn hq _
  · exact fillHolds_drawn hq (enterHeld_eq _ q)

theorem startLookupCore_drawn (s : State) : DrawnStands p b s (s.startLookupCore q) := by
  unfold State.startLookupCore
  dsimp only
  split
  · exact enterEndingCore_drawn hq s _
  split
  · exact enterEndingCore_drawn hq s _
  · exact beginFill_drawn hq s _ _ _

theorem endCoolWaitCore_drawn (s : State) : DrawnStands p b s (s.endCoolWaitCore q) := by
  by_cases h : (s.pos q).state = .starting .coolWait
  · rw [endCoolWaitCore_at s q h]
    split
    · exact modPos_drawn hq s _
    · exact (modPos_drawn hq s _).trans (startLookupCore_drawn hq _)
  · rw [endCoolWaitCore_elsewhere h]
    exact .refl s

end

/-- R162: the grants of an event leave the bank of a position that does not wait in COOL_WAIT. -/
theorem makeGrants_drawn {p : Fin 4} {b : Fin 6} (s : State) (hp : (s.pos p).state ≠ .starting .coolWait) :
    DrawnStands p b s s.makeGrants := by
  refine makeGrants_induction (C := fun s t => (s.pos p).state ≠ .starting .coolWait → DrawnStands p b s t)
    (fun s _ _ => .refl s) (fun s q rest t hq _ h hp => ?_) s hp
  have hg : DrawnStands p b s (s.grantSlot q) := .of_eq rfl rfl
  have hpg : ((s.grantSlot q).pos p).state ≠ .starting .coolWait := hp
  by_cases he : q = p
  · subst he
    have e : (s.grantSlot q).endCoolWaitCore q = s.grantSlot q := endCoolWaitCore_elsewhere hpg
    rw [e] at h
    exact hg.trans (h hpg)
  · have hpos : ((s.grantSlot q).endCoolWaitCore q).pos p = (s.grantSlot q).pos p :=
      (endCoolWaitCore_fill _ q).pos p fun h => he h.symm
    exact (hg.trans (endCoolWaitCore_drawn he _)).trans (h (by rw [hpos]; exact hpg))

end Sys2Proof.Machine
end

section
/-! PROOFS. The stages of a control step. -/

namespace Sys2Proof.Machine

/-! ### A position put in place -/

section
variable (s : State) (p : Fin 4)

/-- A state with one position replaced. -/
def State.placed (s : State) (p : Fin 4) (q : Position) : State := { s with positions := setAt s.positions p q }

theorem placed_pos (q : Position) : (s.placed p q).pos p = q := get_setAt_self _ _ _

theorem modPos_eq_placed (g : Position → Position) : s.modPos p g = s.placed p (g (s.pos p)) := rfl

/-- R11: the ACTIVE ticket after a change of it. -/
theorem modActive_activeTicket (f : Ticket → Ticket) (hf : ∀ k, (f k).number = k.number) :
    (s.modActive p f).activeTicket p = (s.activeTicket p).map f := by
  have hpos : (s.modActive p f).pos p = s.pos p := by rw [modActive_eq]; rfl
  rw [State.activeTicket, State.activeTicket, hpos]
  cases ha : (s.pos p).active with
  | none => rfl
  | some n =>
    have hslot : (s.modActive p f).ticketSlot n = s.ticketSlot n := (modActive_fill s p f hf).ticketSlot n
    rw [Option.bind_some, Option.bind_some, State.ticket, State.ticket, hslot]
    cases hi : s.ticketSlot n with
    | none => rfl
    | some i =>
      rw [Option.bind_some, Option.bind_some, modActive_get, if_pos (by rw [ha]; exact hi)]

end

/-! ### Stages 1 to 4 -/

section
variable (u : State) (p : Fin 4) (f : FillProfile)

/-- R77, R78: the position after the ramp and the valve of a step. -/
def Position.stepped (q : Position) (f : FillProfile) (pressure : Nat) : Position :=
  let time := q.ramp.time + 250
  let target := min (q.ramp.base + q.ramp.rate * time / 1000) (10 * f.endPressure)
  let error : Int := (target : Int) - 10 * pressure
  { q with
    valve := (max 0 (min 1000 ((q.valve : Int) + max (-40) (min 40 ((error * f.gain).tdiv 256))))).toNat
    ramp := { q.ramp with time := time, target := some target, error := error } }

theorem stepRamp_eq : u.stepRamp p f = u.placed p ((u.pos p).stepped f (u.pDisp p)) := rfl

/-- R84, R103: the state of charge of a step. -/
def socOf (k : NozzleClass) (q : Position) : Option Nat :=
  q.tankData.map fun d =>
    if k = .h70 then min 1999 (1000 * d.1 * 4121 / (7000 * (d.2 + d.1 * 177 / 1000)))
    else min 1999 (1000 * d.1 * 3501 / (3500 * (d.2 + d.1 * 177 / 1000)))

theorem stepSoc_eq : (u.stepRamp p f).stepSoc p = socOf (u.cfg p).nozzleClass (u.pos p) := by
  have hp : ((u.stepRamp p f).pos p).tankData = (u.pos p).tankData := by rw [stepRamp_eq, placed_pos]; rfl
  have hc : (u.stepRamp p f).cfg p = u.cfg p := rfl
  unfold State.stepSoc socOf
  rw [hp, hc]
  cases (u.cfg p).nozzleClass <;> rfl

/-- R79: the state after the first four stages of a step. -/
def State.moved (u : State) (p : Fin 4) (f : FillProfile) : State :=
  { u with
    tickets := (u.recordSoc p (socOf (u.cfg p).nozzleClass (u.pos p))).tickets
    positions := setAt u.positions p ((u.pos p).stepped f (u.pDisp p)) }

theorem moved_pos : (u.moved p f).pos p = (u.pos p).stepped f (u.pDisp p) := get_setAt_self _ _ _

theorem recordSoc_eq : (u.stepRamp p f).recordSoc p (socOf (u.cfg p).nozzleClass (u.pos p)) = u.moved p f := by
  unfold State.moved State.recordSoc
  cases socOf (u.cfg p).nozzleClass (u.pos p) with
  | none => rfl
  | some x =>
    dsimp only
    have ht := modActive_tickets_congr (s := u) (t := u.stepRamp p f) p (fun k => { k with lastSoc := some x }) rfl
      (by rw [stepRamp_eq, placed_pos]; rfl)
    rw [modActive_eq, ht]
    rfl

/-- A state with the state of charge written and other positions put in. -/
theorem recordSoc_positions (soc : Option Nat) (v : Vector Position 4) :
    ({ u.recordSoc p soc with positions := v } : State) = { u with tickets := (u.recordSoc p soc).tickets, positions := v } := by
  unfold State.recordSoc
  cases soc with
  | none => rfl
  | some x => exact modActive_positions_eq u p _ v

theorem runStep_of {i : Fin 16} (hi : (u.pos p).ramp.profile = some i) (hf : u.profiles.get i = some f) : u.runStep p =
    match (u.moved p f).comparators p f (socOf (u.cfg p).nozzleClass (u.pos p)) with
    | some reason => (u.moved p f).endFill p reason
    | none => ((u.moved p f).stepCascade p f (socOf (u.cfg p).nozzleClass (u.pos p))).makeGrants := by
  have hp : u.profileInUse p = some f := by
    rw [State.profileInUse, hi]
    exact hf
  rw [State.runStep, hp]
  dsimp only
  rw [stepSoc_eq, recordSoc_eq] <;> rfl

end

/-! ### The comparators -/

section
open Classical

/-- The reason beside the first true one of a list of tests. -/
noncomputable def firstTrue (l : List (Prop × EndReason)) : Option EndReason :=
  match l with
  | [] => none
  | x :: rest => if x.1 then some x.2 else firstTrue rest

theorem firstTrue_cons {b t : Prop} [Decidable b] {r : EndReason} {l : List (Prop × EndReason)} {x : Option EndReason} (h : b ↔ t)
    (hx : x = firstTrue l) : (if b then some r else x) = firstTrue ((t, r) :: l) := by
  rw [firstTrue]
  by_cases ht : t
  · rw [if_pos ht, if_pos (h.2 ht)]
  · rw [if_neg ht, if_neg fun hb => ht (h.1 hb), hx]

theorem firstTrue_none {l : List (Prop × EndReason)} (h : ∀ x ∈ l, ¬x.1) : firstTrue l = none := by
  induction l with
  | nil => rfl
  | cons x l ih =>
    rw [firstTrue, if_neg (h x List.mem_cons_self)]
    exact ih fun y hy => h y (List.mem_cons_of_mem _ hy)

theorem firstTrue_some {before after : List (Prop × EndReason)} {test : Prop} {r : EndReason} (h : ∀ x ∈ before, ¬x.1)
    (ht : test) : firstTrue (before ++ (test, r) :: after) = some r := by
  induction before with
  | nil => exact if_pos ht
  | cons x l ih =>
    rw [List.cons_append, firstTrue, if_neg (h x List.mem_cons_self)]
    exact ih fun y hy => h y (List.mem_cons_of_mem _ hy)

end

section
variable (u : State) (p : Fin 4) (f : FillProfile)

/-- R80: the comparators of a step, in their order. -/
def comparatorsOf (u : State) (p : Fin 4) (f : FillProfile) : List (Prop × EndReason) :=
  let soc := socOf (u.cfg p).nozzleClass (u.pos p)
  [(f.endPressure ≤ u.pDisp p, .endPressure),
   ((∃ x k, soc = some x ∧ f.comm = some k ∧ k.endSoc ≤ x), .endSoc),
   ((∃ x k, soc.isSome = true ∧ (u.pos p).link.tankTemperature = some x ∧ f.comm = some k ∧ k.tankLimit ≤ x), .tankHot),
   ((∃ k x, u.activeTicket p = some k ∧ k.presetMass = some x ∧ x ≤ k.mass / 1000), .presetMass),
   ((∃ k x, u.activeTicket p = some k ∧ k.presetAmount = some x ∧ x ≤ k.amount), .presetAmount),
   ((if (u.cfg p).nozzleClass = .h70 then u.site.maxFillH70 else u.site.maxFillH35) * 60000 ≤ (u.pos p).fillTime, .fillTime)]

theorem tankData_hot (q : Position) (k : NozzleClass) : (f.comm.any fun c => reaches (q.tankData.map Prod.snd) c.tankLimit) = true ↔
    ∃ x c, (socOf k q).isSome = true ∧ q.link.tankTemperature = some x ∧ f.comm = some c ∧ c.tankLimit ≤ x := by
  unfold socOf Position.tankData reaches
  cases f.comm <;> cases q.link.state <;> cases q.link.tankPressure <;> cases q.link.tankTemperature <;> simp

/-- R79: the state of charge in the ticket is not read by the comparators. -/
theorem moved_ticket (g : Ticket → Bool) (hg : ∀ k x, g { k with lastSoc := x } = g k) :
    ((u.moved p f).activeTicket p).any g = (u.activeTicket p).any g := by
  have ha : (u.moved p f).activeTicket p = (u.recordSoc p (socOf (u.cfg p).nozzleClass (u.pos p))).activeTicket p := by
    have hpos : (u.recordSoc p (socOf (u.cfg p).nozzleClass (u.pos p))).pos p = u.pos p := by
      unfold State.recordSoc
      split
      · rw [modActive_eq]; rfl
      · rfl
    rw [State.activeTicket, State.activeTicket, moved_pos, hpos]
    rfl
  rw [ha]
  unfold State.recordSoc
  split
  · next _ x _ =>
    rw [modActive_activeTicket u p (fun k => { k with lastSoc := some x }) fun _ => rfl, Option.any_map]
    exact congrArg (fun h => (u.activeTicket p).any h) (funext fun k => hg k _)
  · rfl

theorem limitReached_iff {l : Option Nat} {v : Nat} : limitReached l v = true ↔ ∃ x, l = some x ∧ x ≤ v := by
  cases l <;> simp [limitReached]

/-- R80: the first comparator that is true gives the reason. -/
theorem comparators_eq : (u.moved p f).comparators p f (socOf (u.cfg p).nozzleClass (u.pos p)) = firstTrue (comparatorsOf u p f) := by
  have htank : ((u.moved p f).pos p).tankData = (u.pos p).tankData := by rw [moved_pos]; rfl
  have hfill : ((u.moved p f).pos p).fillTime = (u.pos p).fillTime := by rw [moved_pos]; rfl
  have hmax : (u.moved p f).site.maxFillTime ((u.moved p f).cfg p).nozzleClass =
      (if (u.cfg p).nozzleClass = .h70 then u.site.maxFillH70 else u.site.maxFillH35) * 60000 := by
    show u.site.maxFillTime (u.cfg p).nozzleClass = _
    cases (u.cfg p).nozzleClass <;> rfl
  have hsoc : (f.comm.any fun c => reaches (socOf (u.cfg p).nozzleClass (u.pos p)) c.endSoc) = true ↔
      ∃ x k, socOf (u.cfg p).nozzleClass (u.pos p) = some x ∧ f.comm = some k ∧ k.endSoc ≤ x := by
    unfold reaches
    cases f.comm <;> cases socOf (u.cfg p).nozzleClass (u.pos p) <;> simp
  have hmass : ((u.moved p f).activeTicket p).any (fun t => limitReached t.presetMass t.grams) = true ↔
      ∃ k x, u.activeTicket p = some k ∧ k.presetMass = some x ∧ x ≤ k.mass / 1000 := by
    rw [moved_ticket u p f _ fun _ _ => rfl, Option.any_eq_true]
    simp only [limitReached_iff, ← exists_and_left]
    rfl
  have hamount : ((u.moved p f).activeTicket p).any (fun t => limitReached t.presetAmount t.amount) = true ↔
      ∃ k x, u.activeTicket p = some k ∧ k.presetAmount = some x ∧ x ≤ k.amount := by
    rw [moved_ticket u p f _ fun _ _ => rfl, Option.any_eq_true]
    simp only [limitReached_iff, ← exists_and_left]
  unfold State.comparators
  dsimp only
  rw [htank, hfill, hmax]
  exact firstTrue_cons Iff.rfl (firstTrue_cons hsoc (firstTrue_cons (tankData_hot f (u.pos p) _) (firstTrue_cons hmass
    (firstTrue_cons hamount (firstTrue_cons Iff.rfl rfl)))))

end

end Sys2Proof.Machine
end

section
/-! PROOFS. The bank switch and the taper of a control step. -/

namespace Sys2Proof.Machine

/-! ### The taper -/

section
variable (s : State) (p : Fin 4) (f : FillProfile) (soc : Option Nat)

/-- R82: whether a step tapers. -/
def tapers (s : State) (p : Fin 4) (f : FillProfile) (soc : Option Nat) : Prop :=
  (s.pos p).ramp.taper = false ∧ ((∃ x, soc = some x ∧ f.taperSoc ≤ x) ∨ f.endPressure ≤ s.pDisp p + 300)

/-- R82: the ramp after the taper stage. -/
def taperedRamp (t : Prop) (target : Nat) (r x : RampContext) : Prop :=
  t ∧ x = { r with base := target, time := 0, rate := max 10 (r.rate / 4), taper := true } ∨ ¬t ∧ x = r

theorem tapers_iff : (!(s.pos p).ramp.taper && (reaches soc f.taperSoc || decide (f.endPressure ≤ s.pDisp p + 300))) = true ↔
    tapers s p f soc := by
  unfold tapers reaches
  cases soc <;> simp

/-- R76 (2), R82: the taper stage and the restart of the step timer, from a step that has its target. -/
theorem taper_restart {target : Nat} (ht : (s.pos p).ramp.target = some target) :
    ∃ x, taperedRamp (tapers s p f soc) target (s.pos p).ramp x ∧
      (s.stepTaper p f soc).restartStep p = s.placed p { s.pos p with ramp := { x with stepTimer := some 250 } } := by
  have hb : (s.pos p).ramp.target.getD (s.pos p).ramp.base = target := by rw [ht]; rfl
  by_cases h : tapers s p f soc
  · refine ⟨_, .inl ⟨h, rfl⟩, ?_⟩
    rw [State.stepTaper, if_pos ((tapers_iff s p f soc).2 h), State.restartStep, modPos_modPos, modPos_eq_placed]
    dsimp only
    rw [hb]
    rfl
  · refine ⟨_, .inr ⟨h, rfl⟩, ?_⟩
    rw [State.stepTaper, if_neg fun h' => h ((tapers_iff s p f soc).1 h')]
    rfl

end

/-! ### The counts -/

section
variable (u : State) (p : Fin 4) (f : FillProfile)

/-- R81 (1): a step of a position is starved. -/
def isStarved (u : State) (p : Fin 4) (f : FillProfile) : Prop :=
  ∀ b, (u.pos p).drawBank = some b → (u.bank b).p < u.pDisp p + f.switchDiff

/-- R81 (1): the starved count after a step. -/
def starvedAfter (u : State) (p : Fin 4) (f : FillProfile) (n : Nat) : Prop :=
  isStarved u p f ∧ n = (u.pos p).ramp.starved + 1 ∨ ¬isStarved u p f ∧ n = 0

/-- R81 (2): the lagging count after a step. -/
def State.lagAfter (u : State) (p : Fin 4) (f : FillProfile) : Nat :=
  let q := (u.pos p).stepped f (u.pDisp p)
  if q.valve = 1000 ∧ 500 ≤ q.ramp.error then (u.pos p).ramp.lagging + 1 else 0

/-- R81: a position with other consecutive counts. -/
def Position.counted (q : Position) (n l : Nat) : Position := { q with ramp := { q.ramp with starved := n, lagging := l } }

/-- R81: the state of a step after its counts. -/
def State.counted (u : State) (p : Fin 4) (f : FillProfile) (n : Nat) : State :=
  { u.moved p f with
    positions := setAt u.positions p (((u.pos p).stepped f (u.pDisp p)).counted n (u.lagAfter p f)) }

theorem counted_pos (n : Nat) : (u.counted p f n).pos p = ((u.pos p).stepped f (u.pDisp p)).counted n (u.lagAfter p f) :=
  get_setAt_self _ _ _

theorem starved_iff : (u.moved p f).starved p f = true ↔ isStarved u p f := by
  have hd : ((u.moved p f).pos p).drawBank = (u.pos p).drawBank := by rw [moved_pos]; rfl
  unfold State.starved isStarved
  rw [hd]
  cases (u.pos p).drawBank with
  | none => simp
  | some b =>
    dsimp only
    rw [decide_eq_true_iff]
    exact ⟨fun h b' hb => by obtain rfl := Option.some.inj hb; exact h, fun h => h b rfl⟩

theorem countTests_eq {n : Nat} (hn : starvedAfter u p f n) : (u.moved p f).countTests p f = u.counted p f n := by
  have hs : (if (u.moved p f).starved p f = true then (u.pos p).ramp.starved + 1 else 0) = n := by
    rcases hn with ⟨h, rfl⟩ | ⟨h, rfl⟩
    · rw [if_pos ((starved_iff u p f).2 h)]
    · rw [if_neg fun h' => h ((starved_iff u p f).1 h')]
  have hl : (if ((u.pos p).stepped f (u.pDisp p)).lags = true then (u.pos p).ramp.lagging + 1 else 0) = u.lagAfter p f := by
    unfold Position.lags State.lagAfter
    refine if_congr ?_ rfl rfl
    rw [Bool.and_eq_true, beq_iff_eq, decide_eq_true_iff]
  unfold State.countTests State.counted Position.counted
  dsimp only
  rw [modPos_eq_placed, moved_pos, State.placed, State.moved]
  dsimp only
  rw [setAt_setAt, ← hs, ← hl]
  rfl

theorem wantsSwitch_iff (n : Nat) : ((u.counted p f n).pos p).ramp.wantsSwitch = true ↔ 2 ≤ n ∨ 4 ≤ u.lagAfter p f := by
  rw [counted_pos, RampContext.wantsSwitch, Bool.or_eq_true, decide_eq_true_iff, decide_eq_true_iff]
  rfl

/-! ### The bank switch -/

section
variable {u p f} {n : Nat} (hn : starvedAfter u p f n)
include hn

/-- R81 (3): a step without a switch. -/
theorem stepCascade_keeps_bank (soc : Option Nat) (h : ¬(2 ≤ n ∨ 4 ≤ u.lagAfter p f)) :
    (u.moved p f).stepCascade p f soc = ((u.counted p f n).stepTaper p f soc).restartStep p := by
  unfold State.stepCascade
  dsimp only
  rw [countTests_eq u p f hn, if_neg fun h' => h ((wantsSwitch_iff u p f n).1 h')]

theorem stepCascade_switches (soc : Option Nat) {b : Fin 6} (h : 2 ≤ n ∨ 4 ≤ u.lagAfter p f)
    (hb : u.selectedBank p (u.pos p).drawBank = some b) : (u.moved p f).stepCascade p f soc =
      (((((u.counted p f n).leaveBank p).switchTo p b).reportLeft (u.pos p).drawBank).stepTaper p f soc).restartStep p := by
  have hd : ((u.counted p f n).pos p).drawBank = (u.pos p).drawBank := by rw [counted_pos]; rfl
  have hb' : ((u.counted p f n).leaveBank p).selectedBank p (u.pos p).drawBank = some b := hb
  unfold State.stepCascade
  dsimp only
  rw [countTests_eq u p f hn, if_pos ((wantsSwitch_iff u p f n).2 h), hd, hb']

theorem stepCascade_low (soc : Option Nat) (h : 2 ≤ n ∨ 4 ≤ u.lagAfter p f)
    (hb : u.selectedBank p (u.pos p).drawBank = none) : (u.moved p f).stepCascade p f soc =
      ((u.counted p f n).drawReported p).bankLowCore p := by
  have hd : ((u.counted p f n).pos p).drawBank = (u.pos p).drawBank := by rw [counted_pos]; rfl
  have hb' : ((u.counted p f n).leaveBank p).selectedBank p (u.pos p).drawBank = none := hb
  unfold State.stepCascade
  dsimp only
  rw [countTests_eq u p f hn, if_pos ((wantsSwitch_iff u p f n).2 h), hd, hb', State.drawReported, hd]

end

variable {u p f}

/-- R129 (3), R130, R131: the state after a position has left one bank for another, before the report of the set it left. -/
def State.rejoined (u : State) (p : Fin 4) (b : Fin 6) : State :=
  { ({ u with positions := setAt u.positions p { u.pos p with drawBank := none } } : State).suspendForDraw b with
    positions := setAt u.positions p { u.pos p with drawBank := some b } }

/-- R81 (3), R131: a position that switches to a bank, with the counts at 0. -/
def Position.switched (q : Position) (b : Fin 6) : Position :=
  { q with drawBank := some b, ramp := { q.ramp with starved := 0, lagging := 0 } }

/-- R81 (3), R129 (3), R131: the state of a step after a switch, before the report of the set that was left. -/
def State.switchMade (u : State) (p : Fin 4) (f : FillProfile) (b : Fin 6) : State :=
  { u.moved p f with
    positions := setAt u.positions p (((u.pos p).stepped f (u.pDisp p)).switched b)
    compressor :=
      (({ u with positions := setAt u.positions p { u.pos p with drawBank := none } } : State).suspendForDraw b).compressor }

theorem switchTo_eq (n : Nat) (b : Fin 6) : ((u.counted p f n).leaveBank p).switchTo p b = u.switchMade p f b := by
  have hsame : SamePlant { u with positions := setAt u.positions p { u.pos p with drawBank := none } }
      ((u.counted p f n).leaveBank p) := by
    refine ⟨rfl, fun o => ?_, rfl, rfl⟩
    show ((setAt (setAt u.positions p _) p _).get o).drawBank = ((setAt u.positions p _).get o).drawBank
    rw [setAt_setAt, get_setAt, get_setAt]
    split <;> rfl
  have hpos : ((u.counted p f n).leaveBank p).pos p =
      { ((u.pos p).stepped f (u.pDisp p)).counted n (u.lagAfter p f) with drawBank := none } := by
    rw [leaveBank_pos, counted_pos]
  rw [State.switchTo, joinBank_congr hsame, hpos]
  simp only [State.modPos, modAt, State.leaveBank, State.counted, State.moved, State.switchMade, setAt_setAt, get_setAt_self]
  rfl

/-- R130 (3), R145: the report of the set that was left, from the state after a switch. -/
theorem switch_reported (b : Fin 6) (old : Option (Fin 6)) : (u.switchMade p f b).reportLeft old =
    { u.switchMade p f b with
      compressor := ((u.rejoined p b).reportLeft old).compressor
      pendingFlags := ((u.rejoined p b).reportLeft old).pendingFlags } := by
  have hsame : SamePlant (u.rejoined p b) (u.switchMade p f b) := by
    have ho := suspendForDraw_only ({ u with positions := setAt u.positions p { u.pos p with drawBank := none } } : State) b
    have hf := suspendForDraw_pendingFlags
      (s := { u with positions := setAt u.positions p { u.pos p with drawBank := none } }) b
    refine ⟨rfl, fun o => ?_, ?_, hf.symm⟩
    · show ((setAt u.positions p _).get o).drawBank = ((setAt u.positions p _).get o).drawBank
      rw [get_setAt, get_setAt]
      split <;> rfl
    · unfold CompressorOnly at ho
      unfold State.rejoined
      rw [ho]
      rfl
  obtain ⟨hc, hf⟩ := hsame.reportLeft old
  have ho := reportLeft_only (u.switchMade p f b) old
  unfold CompressorOnly at ho
  rw [hc, hf] at ho
  exact ho

/-- R81 (3), R82, R131: the state of a step that switches to a bank, with its ramp after the taper. -/
def State.switchedStep (u : State) (p : Fin 4) (f : FillProfile) (b : Fin 6) (x : RampContext) : State :=
  { u.moved p f with
    positions := setAt u.positions p
      { (u.pos p).stepped f (u.pDisp p) with drawBank := some b, ramp := { x with stepTimer := some 250 } }
    compressor := ((u.rejoined p b).reportLeft (u.pos p).drawBank).compressor
    pendingFlags := ((u.rejoined p b).reportLeft (u.pos p).drawBank).pendingFlags }

/-- R77 (2): the target of a step. -/
def targetOf (q : Position) (f : FillProfile) : Nat :=
  min (q.ramp.base + q.ramp.rate * (q.ramp.time + 250) / 1000) (10 * f.endPressure)

theorem stepped_target (q : Position) (f : FillProfile) (x : Nat) : (q.stepped f x).ramp.target = some (targetOf q f) := rfl

theorem stepped_taper (q : Position) (f : FillProfile) (x : Nat) : (q.stepped f x).ramp.taper = q.ramp.taper := rfl

theorem switched_ramp (q : Position) (b : Fin 6) : (q.switched b).ramp = { q.ramp with starved := 0, lagging := 0 } := rfl

theorem counted_ramp (q : Position) (n l : Nat) : (q.counted n l).ramp = { q.ramp with starved := n, lagging := l } := rfl

theorem tapers_congr {s : State} {soc : Option Nat} (ht : (s.pos p).ramp.taper = (u.pos p).ramp.taper)
    (hp : s.pDisp p = u.pDisp p) : tapers s p f soc ↔ tapers u p f soc := by rw [tapers, tapers, ht, hp]

theorem taperedRamp_congr {t t' : Prop} (h : t ↔ t') {target : Nat} {r x : RampContext} (hx : taperedRamp t target r x) :
    taperedRamp t' target r x := by
  rwa [taperedRamp, ← h]

/-- R81 (3), R82, R131: a step that switches to a bank, whole. -/
theorem stepCascade_switched {n : Nat} (hn : starvedAfter u p f n) (soc : Option Nat) {b : Fin 6}
    (h : 2 ≤ n ∨ 4 ≤ u.lagAfter p f) (hb : u.selectedBank p (u.pos p).drawBank = some b) :
    ∃ x, taperedRamp (tapers u p f soc) (targetOf (u.pos p) f)
        { ((u.pos p).stepped f (u.pDisp p)).ramp with starved := 0, lagging := 0 } x ∧
      (u.moved p f).stepCascade p f soc = u.switchedStep p f b x := by
  set w := (u.switchMade p f b).reportLeft (u.pos p).drawBank with hw
  have hwe := switch_reported (u := u) (p := p) (f := f) b (u.pos p).drawBank
  have hpos : w.pos p = ((u.pos p).stepped f (u.pDisp p)).switched b := by
    rw [hw, hwe]
    exact get_setAt_self _ _ _
  have hpd : w.pDisp p = u.pDisp p := by rw [hw, hwe]; rfl
  obtain ⟨x, hx, he⟩ := taper_restart w p f soc (target := targetOf (u.pos p) f) (by
    rw [hpos, switched_ramp]; exact stepped_target (u.pos p) f (u.pDisp p))
  refine ⟨x, ?_, ?_⟩
  · have ht : (w.pos p).ramp.taper = (u.pos p).ramp.taper := by rw [hpos, switched_ramp]; exact stepped_taper (u.pos p) f (u.pDisp p)
    rw [hpos, switched_ramp] at hx
    exact taperedRamp_congr (tapers_congr ht hpd) hx
  · rw [stepCascade_switches hn soc h hb, switchTo_eq, ← hw, he, hpos, hw, hwe]
    simp only [State.placed, State.switchMade, State.switchedStep, setAt_setAt]
    rfl

/-- R81, R82: a step without a switch, whole. -/
theorem stepCascade_stays {n : Nat} (hn : starvedAfter u p f n) (soc : Option Nat) (h : ¬(2 ≤ n ∨ 4 ≤ u.lagAfter p f)) :
    ∃ x, taperedRamp (tapers u p f soc) (targetOf (u.pos p) f)
        { ((u.pos p).stepped f (u.pDisp p)).ramp with starved := n, lagging := u.lagAfter p f } x ∧
      (u.moved p f).stepCascade p f soc = { u.moved p f with
        positions := setAt u.positions p
          { (u.pos p).stepped f (u.pDisp p) with ramp := { x with stepTimer := some 250 } } } := by
  have hpos := counted_pos u p f n
  obtain ⟨x, hx, he⟩ := taper_restart (u.counted p f n) p f soc (target := targetOf (u.pos p) f) (by
    rw [hpos, counted_ramp]; exact stepped_target (u.pos p) f (u.pDisp p))
  have hpd : (u.counted p f n).pDisp p = u.pDisp p := rfl
  refine ⟨x, ?_, ?_⟩
  · have ht : ((u.counted p f n).pos p).ramp.taper = (u.pos p).ramp.taper := by
      rw [hpos, counted_ramp]; exact stepped_taper (u.pos p) f (u.pDisp p)
    rw [hpos, counted_ramp] at hx
    exact taperedRamp_congr (tapers_congr ht hpd) hx
  · rw [stepCascade_keeps_bank hn soc h, he, hpos]
    simp only [State.placed, State.counted, setAt_setAt]
    rfl

/-- R145: the bank that a step has switched to is not ACTIVE, and stays so under the grants that follow. -/
theorem switchedStep_notActive (b : Fin 6) (x : RampContext) (hst : (u.pos p).state ≠ .starting .coolWait) :
    (u.switchedStep p f b x).makeGrants.compressor.activeBank ≠ some b := by
  have hpos : (u.switchedStep p f b x).pos p =
      { (u.pos p).stepped f (u.pDisp p) with drawBank := some b, ramp := { x with stepTimer := some 250 } } :=
    get_setAt_self _ _ _
  have hr : (u.rejoined p b).pos p = { u.pos p with drawBank := some b } := get_setAt_self _ _ _
  have hne : (u.rejoined p b).compressor.activeBank ≠ some b := suspendForDraw_notActive _ b
  have hrep := reportLeft_drawn (p := p) (b := b) (u.rejoined p b) (u.pos p).drawBank (by rw [hr]) hne
  exact (makeGrants_drawn (u.switchedStep p f b x) (by rw [hpos]; exact hst) (by rw [hpos]) hrep.2).2

/-! ### BANK_LOW after the report of the set that was left -/

section
variable {s t : State} {r : EndReason}

/-- R130: a position that has left its draw set has nothing more to leave. -/
theorem drawReported_again (s : State) (p : Fin 4) : (s.drawReported p).drawReported p = s.drawReported p := by
  have hp : (s.drawReported p).pos p = { s.pos p with drawBank := none } := by
    have : s.drawReported p = s.releaseDraw p := rfl
    rw [this, releaseDraw_pos, if_pos rfl]
  have hd : ((s.drawReported p).pos p).drawBank = none := by rw [hp]
  rw [State.drawReported, hd]
  show (s.drawReported p).leaveBank p = s.drawReported p
  refine modPos_self _ p _ ?_
  rw [hp]

theorem drawReported_eq (s : State) (p : Fin 4) : s.drawReported p = { s with
    positions := setAt s.positions p { s.pos p with drawBank := none }
    compressor := (s.drawReported p).compressor
    pendingFlags := (s.drawReported p).pendingFlags } := releaseDraw_eq s p

theorem fillEnded_drawReported (s : State) (p : Fin 4) (r : EndReason) : fillEnded (s.drawReported p) p r = fillEnded s p r := by
  have hp : (s.drawReported p).pos p = { s.pos p with drawBank := none } := by
    rw [drawReported_eq]
    exact get_setAt_self _ _ _
  have ht := modActive_tickets_congr (s := s) (t := s.drawReported p) p (fun k => { k with endReason := some r })
    (by rw [drawReported_eq]) (by rw [hp])
  rw [fillEnded, drawReported_again, ht, hp, drawReported_eq]
  simp only [fillEnded, setAt_setAt]
  rfl

theorem fillHolds_drawReported {fs : FactorSet} (h : fillHolds (s.drawReported p) t p fs) : fillHolds s t p fs := by
  have hp : (s.drawReported p).pos p = { s.pos p with drawBank := none } := by
    rw [drawReported_eq]
    exact get_setAt_self _ _ _
  unfold fillHolds at h ⊢
  rw [drawReported_again, hp] at h
  rw [h, drawReported_eq]
  simp only [setAt_setAt]
  rfl

end

/-- R131: BANK_LOW of a step, which comes after the report of the set that was left. -/
theorem counted_bankLow {n : Nat} (hst : (u.pos p).state = .fuelling) (hlow : (u.pos p).factors.bankLow = false) :
    ((u.cfg p).bankLow = .endFill →
      fillEnds (u.counted p f n) (((u.counted p f n).drawReported p).bankLowCore p).makeGrants p .bankLow) ∧
    ((u.cfg p).bankLow = .holdFill →
      ∃ v, fillHolds (u.counted p f n) v p { (u.pos p).factors with bankLow := true } ∧
        ((u.counted p f n).drawReported p).bankLowCore p = { v with waiting := u.waiting.put p true }) := by
  have hp : ((u.counted p f n).drawReported p).pos p =
      { ((u.pos p).stepped f (u.pDisp p)).counted n (u.lagAfter p f) with drawBank := none } := by
    rw [drawReported_eq, counted_pos]
    exact get_setAt_self _ _ _
  have hcfg : ((u.counted p f n).drawReported p).cfg p = u.cfg p := by rw [drawReported_eq]; rfl
  have hwait : ((u.counted p f n).drawReported p).waiting = u.waiting := by rw [drawReported_eq]; rfl
  have hst' : (((u.counted p f n).drawReported p).pos p).state = .fuelling := by rw [hp]; exact hst
  have hlow' : (((u.counted p f n).drawReported p).pos p).factors.bankLow = false := by rw [hp]; exact hlow
  have hfac : (((u.counted p f n).drawReported p).pos p).factors = (u.pos p).factors := by rw [hp]; rfl
  refine ⟨fun hd => ?_, fun hd => ?_⟩
  · have he := bankLowCore_ends hlow' (.inl hst') (endingReason_bankLow_ends (by rw [hcfg]; exact hd))
    rw [he, fillEnded_drawReported]
    exact fillEnded_ends _ p _
  · obtain ⟨v, hv, he⟩ := bankLowCore_holds hlow' hst' (endingReason_bankLow_holds (by rw [hcfg]; exact hd))
    rw [hfac] at hv
    refine ⟨v, fillHolds_drawReported hv, ?_⟩
    have hvw : v.waiting = u.waiting := by
      unfold fillHolds at hv
      rw [hv]
      exact hwait
    rw [he, State.setWaiting, hvw]

end

section
variable {s t : State} {p : Fin 4} {fs : FactorSet}

theorem fillHolds_pos (h : fillHolds s t p fs) : t.pos p = heldPosition (s.pos p) fs := by
  unfold fillHolds at h
  rw [h]
  exact get_setAt_self _ _ _

theorem fillHolds_pos_ne {o : Fin 4} (h : fillHolds s t p fs) (ho : o ≠ p) : t.pos o = s.pos o := by
  unfold fillHolds at h
  rw [h]
  exact get_setAt_ne _ _ ho

theorem fillHolds_flag (h : fillHolds s t p fs) : t.flagPending (.held p) = true := by
  unfold fillHolds at h
  rw [h]
  have := flagPending_raise (s.drawReported p) (.held p) (.held p)
  rw [decide_eq_true rfl, Bool.or_true] at this
  exact this

end

/-- R84, R103: the state of charge of a step, by the link. -/
theorem socOf_match (k : NozzleClass) (q : Position) :
    (match q.link.state, q.link.tankPressure, q.link.tankTemperature with
      | .stream, some tp, some tt =>
        some (if k = .h70 then min 1999 (1000 * tp * 4121 / (7000 * (tt + tp * 177 / 1000)))
          else min 1999 (1000 * tp * 3501 / (3500 * (tt + tp * 177 / 1000))))
      | _, _, _ => none) = socOf k q := by
  unfold socOf Position.tankData
  cases q.link.state <;> cases q.link.tankPressure <;> cases q.link.tankTemperature <;> rfl

section
variable {u : State} {p : Fin 4} {f : FillProfile}

theorem runStep_ends {i : Fin 16} (hi : (u.pos p).ramp.profile = some i) (hf : u.profiles.get i = some f)
    (hst : (u.pos p).state = .fuelling) {r : EndReason} (hr : firstTrue (comparatorsOf u p f) = some r) :
    fillEnds (u.moved p f) (u.runStep p) p r := by
  rw [runStep_of u p f hi hf, comparators_eq, hr]
  exact endFill_ends _ (by rw [moved_pos]; exact filling_of_running (.inl hst))

theorem runStep_goes {i : Fin 16} (hi : (u.pos p).ramp.profile = some i) (hf : u.profiles.get i = some f)
    (hr : ∀ x ∈ comparatorsOf u p f, ¬x.1) :
    u.runStep p = ((u.moved p f).stepCascade p f (socOf (u.cfg p).nozzleClass (u.pos p))).makeGrants := by
  rw [runStep_of u p f hi hf, comparators_eq, firstTrue_none hr]

end

/-- Settles O49: the stages of the step, each as one record, in their order. -/
theorem controlStepRunsTheFill : Obligations.ControlStepRunsTheFill := by
  unfold Obligations.ControlStepRunsTheFill
  intro p s d f hd c u q hprof pressure time target error valve soc ramp moved ticket minutes comparators starved starvedCount
    lagCount tapers' tapered left switched
  obtain ⟨i, hi, hf⟩ := hprof
  have he : exec c s = .next (u.runStep p) := exec_of_timeLeft (c := .controlStep p) rfl hd
  have hst : q.state = .fuelling := by
    show ((s.elapse d).pos p).state = _
    rw [elapse_pos_state]
    exact (Option.ite_none_right_eq_some.1 hd).1
  have hsoc : soc = socOf (u.cfg p).nozzleClass q := socOf_match _ _
  have hmoved : moved = u.moved p f := by
    refine Eq.trans ?_ (recordSoc_positions u p (socOf (u.cfg p).nozzleClass q) (setAt u.positions p (q.stepped f pressure)))
    rw [← hsoc]
    rfl
  have hcomp : comparators = comparatorsOf u p f := by
    unfold comparatorsOf
    dsimp only
    rw [← hsoc]
  refine ⟨fun before test r after hl hn ht => ⟨_, he, ?_⟩, fun hcs n hn => ?_⟩
  · rw [hmoved]
    exact runStep_ends hi hf hst (by rw [← hcomp, hl]; exact firstTrue_some hn ht)
  have hgo := runStep_goes hi hf (hcomp ▸ hcs)
  have hn' : starvedAfter u p f n := hn
  have hne : (u.pos p).state ≠ .starting .coolWait := fun h => by rw [h] at hst; cases hst
  refine ⟨fun h1 h2 hg => ?_, fun b h hb => ?_, fun h hb hlow => ?_⟩
  · obtain ⟨x, hx, hc⟩ := stepCascade_stays hn' (socOf (u.cfg p).nozzleClass (u.pos p)) fun h =>
      h.elim (Nat.not_le.2 h1) (Nat.not_le.2 h2)
    rw [← hsoc] at hx
    refine ⟨x, hx, ?_⟩
    rw [he, hgo, hc, hmoved]
    exact congrArg _ (makeGrants_of_noGrantDue hg)
  · obtain ⟨x, hx, hc⟩ := stepCascade_switched hn' (socOf (u.cfg p).nozzleClass (u.pos p)) h hb
    rw [hc] at hgo
    rw [← hsoc] at hx
    set w := u.switchedStep p f b x with hw
    have hpos : w.pos p = { q with valve := valve, drawBank := some b, ramp := { x with stepTimer := some 250 } } :=
      get_setAt_self _ _ _
    have hfills := makeGrants_fills w
    refine ⟨w.makeGrants, x, hx, he.trans (congrArg _ hgo), hfills.base, hfills.banks, switchedStep_notActive b x hne, ?_,
      fun o ho hco => ?_, fun hg => ?_⟩
    · exact (hfills.pos p (by rw [hpos]; exact hne)).trans hpos
    · have e : w.pos o = u.pos o := get_setAt_ne _ _ ho
      exact (hfills.pos o (by rw [e]; exact hco)).trans e
    · rw [makeGrants_of_noGrantDue (s := w) hg, hmoved]
      rfl
  · intro counted
    have hcounted : counted = u.counted p f n := by
      dsimp only [counted]
      rw [hmoved]
      rfl
    have hc := stepCascade_low hn' (socOf (u.cfg p).nozzleClass (u.pos p)) h hb
    rw [hc] at hgo
    obtain ⟨hend, hhold⟩ := counted_bankLow (u := u) (p := p) (f := f) (n := n) hst hlow
    rw [hcounted]
    refine ⟨fun hd => ⟨_, he, ?_⟩, fun hd => ?_⟩
    · rw [hgo]
      exact hend hd
    · obtain ⟨v, hv, hvl⟩ := hhold hd
      rw [hvl] at hgo
      have hfills := makeGrants_fills { v with waiting := u.waiting.put p true }
      have hpos : ({ v with waiting := u.waiting.put p true } : State).pos p =
          heldPosition ((u.counted p f n).pos p) { q.factors with bankLow := true } := fillHolds_pos (t := v) hv
      have hne' : (({ v with waiting := u.waiting.put p true } : State).pos p).state ≠ .starting .coolWait := by
        rw [hpos]
        exact fun h => by cases h
      refine ⟨_, he.trans (congrArg _ hgo), ?_, ?_, ?_, fun hg => ⟨v, hv, ?_⟩⟩
      · rw [hfills.waiting p hne']
        exact (PosSet.has_put _ _ _ _).trans (if_pos rfl)
      · exact hfills.flags _ (fillHolds_flag (t := v) hv)
      · rw [hfills.pos p hne', hpos, counted_pos]
        rfl
      · refine makeGrants_of_noGrantDue ?_
        have := fillHolds_noGrantDue hv hg
        exact this

end Sys2Proof.Machine
end

section
/-! PROOFS. The loss of the cooling slots, at one position and at every holder (R56, R74, R157, R159). -/

namespace Sys2Proof.Machine

/-! ### What becomes of the ticket of a position -/

section
variable {s s' t t' u : State} {p : Fin 4} {f : Ticket → Ticket}

theorem ticketBecomes_of_modActive (h : t.tickets = (s.modActive p f).tickets) : ticketBecomes s t p f := by
  intro n i k ha hi hk _
  rw [h, modActive_get, if_pos (by rw [ha]; exact hi), hk]
  rfl

theorem ticketBecomes_of_tickets (h : t.tickets = s.tickets) : ticketBecomes s t p fun k => k := by
  intro n i k _ _ hk _
  rw [h, hk]

/-- R12: a ticket that is no other position's is what its own position makes of it, whatever other fills do before and after. -/
theorem ticketBecomes.between (hb : FillsOnly (· ≠ p) s s') (ha : FillsOnly (· ≠ p) t' t) (hf : ∀ k, (f k).number = k.number)
    (hp : ∀ q, (t'.pos q).active = (s'.pos q).active) (h : ticketBecomes s' t' p f) : ticketBecomes s t p f := by
  intro n i k hact hi hk hn
  have hnum := number_of_slot hi hk
  have hmid := h n i k ((hb.slots p).1.trans hact) ((hb.ticketSlot n).trans hi)
    (hb.tickets i k hk fun q hq => hnum ▸ hn q hq) fun q hq => by rw [(hb.slots q).1]; exact hn q hq
  refine ha.tickets i (f k) hmid fun q hq => ?_
  rw [hp, (hb.slots q).1, hf, hnum]
  exact hn q hq

end

/-! ### One position loses its slot -/

section
variable (s : State) (p : Fin 4)

/-- R74, R157 (2): a former holder in FUELLING or HELD before it is looked up again: at grade G0, without a fallback timer. -/
def State.warmed (s : State) (p : Fin 4) : State := (s.setGrade p (some .g0)).setFallback p none

theorem loseSlot_running {s : State} {p : Fin 4} (h : (s.pos p).state = .fuelling ∨ (s.pos p).state.isHeld = true) :
    s.loseSlot p = (s.warmed p).relookupWarm p := by
  unfold State.loseSlot
  cases hs : (s.pos p).state <;> simp_all [PosState.isHeld, State.warmed]

theorem loseSlot_starting {s : State} {p : Fin 4} {sub : Substate} (h : (s.pos p).state = .starting sub) :
    s.loseSlot p = s.giveUpCooling p := by
  unfold State.loseSlot
  rw [h]

theorem loseSlot_idle {s : State} {p : Fin 4} (h : (s.pos p).state.filling = false) : s.loseSlot p = s := by
  unfold State.loseSlot
  cases hs : (s.pos p).state <;> simp_all [PosState.filling]

theorem relookupWarm_none {s : State} {p : Fin 4} (h : s.lookupProfile p (some .g0) (s.pos p).commMode = none) :
    s.relookupWarm p = s.activateCore p .precool := by
  rw [State.relookupWarm, relookup_none h]

theorem relookupWarm_some {s : State} {p : Fin 4} {i : Fin 16} {f : FillProfile}
    (h : s.lookupProfile p (some .g0) (s.pos p).commMode = some (i, f)) :
    s.relookupWarm p = (s.rebased p i f (some .g0) (s.pos p).commMode).clearFactor p .precool := by
  rw [State.relookupWarm, relookup_some h]

theorem fillHolds_fallback {s t : State} {p : Fin 4} {fs : FactorSet} (h : fillHolds s t p fs) :
    t.precool.fallback.get p = none := by
  unfold fillHolds at h
  rw [h]
  exact get_setAt_self _ _ _

theorem fillHolds_tickets {s t : State} {p : Fin 4} {fs : FactorSet} (h : fillHolds s t p fs) : t.tickets = s.tickets := by
  unfold fillHolds at h
  rw [h]

theorem warmed_fill : FillOnly p s (s.warmed p) := (setGrade_fills s p _ _).trans (setFallback_fill _ p none)

theorem warmed_grade : (s.warmed p).grade p = some .g0 := get_setAt_self _ _ _

theorem warmed_fallback : (s.warmed p).precool.fallback.get p = none := get_setAt_self _ _ _

/-- R165: a factor that becomes active starts no fallback timer. -/
theorem activateCore_fallback (f : Factor) (h : s.precool.fallback.get p = none) :
    (s.activateCore p f).precool.fallback.get p = none := by
  rcases activateCore_cases s p f with e | ⟨-, ⟨sub, -, e⟩ | ⟨r, hr, e⟩ | ⟨-, -, e⟩ | ⟨-, e⟩⟩ <;> rw [e]
  · exact h
  · exact h
  · rw [enterEndingCore_eq hr]
    exact get_setAt_self _ _ _
  · exact fillHolds_fallback (putFactor_enterHeld_eq s p f)
  · exact h

theorem relookupWarm_fallback (h : s.precool.fallback.get p = none) : (s.relookupWarm p).precool.fallback.get p = none := by
  unfold State.relookupWarm
  split
  · next t ht => rw [relookup_precool s p _ _ ht]; exact h
  · exact activateCore_fallback s p _ h

end

/-! ### What the loss of slots leaves of the other positions and of the chiller -/

/-- R56, R157, R159: some positions lose or give up their cooling: the others stand with their grades, no slot is given, the
chiller stands, and only they leave the wait queue. -/
structure CoolingLeft (P : Fin 4 → Prop) (s t : State) : Prop where
  fills : FillsOnly P s t
  rest : t.precool = { s.precool with
    holders := t.precool.holders, waitQueue := t.precool.waitQueue, fallback := t.precool.fallback, grades := t.precool.grades }
  shrinks : ∀ q, t.precool.holders.has q = true → s.precool.holders.has q = true
  grade : ∀ q, ¬P q → t.grade q = s.grade q
  queue : (∀ q, P q → q ∉ s.precool.waitQueue) → t.precool.waitQueue = s.precool.waitQueue
  leaves : t.precool.waitQueue.Sublist s.precool.waitQueue

namespace CoolingLeft
variable {P : Fin 4 → Prop} {p : Fin 4} {s t u : State}

theorem refl (P : Fin 4 → Prop) (s : State) : CoolingLeft P s s :=
  ⟨.refl P s, rfl, fun _ h => h, fun _ _ => rfl, fun _ => rfl, .refl _⟩

theorem trans (h : CoolingLeft P s t) (k : CoolingLeft P t u) : CoolingLeft P s u where
  fills := h.fills.trans k.fills
  rest := by rw [k.rest, h.rest]
  shrinks q hq := h.shrinks q (k.shrinks q hq)
  grade q hq := (k.grade q hq).trans (h.grade q hq)
  queue hp := by
    have ht := h.queue hp
    exact (k.queue (ht ▸ hp)).trans ht
  leaves := k.leaves.trans h.leaves

theorem mono {Q : Fin 4 → Prop} (hPQ : ∀ q, P q → Q q) (h : CoolingLeft P s t) : CoolingLeft Q s t where
  fills := h.fills.mono hPQ
  rest := h.rest
  shrinks := h.shrinks
  grade q hq := h.grade q fun hp => hq (hPQ q hp)
  queue hQ := h.queue fun q hq => hQ q (hPQ q hq)
  leaves := h.leaves

theorem of_slotMoves (hf : FillOnly p s t) (h : SlotMoves p s t) : CoolingLeft (· = p) s t where
  fills := hf
  rest := by rw [h.rest]
  shrinks := h.shrinks
  grade q _ := h.grade q
  queue hp := h.queue (hp p rfl)
  leaves := h.leaves

end CoolingLeft

section
variable (s : State) (p : Fin 4)

theorem warmed_left : CoolingLeft (· = p) s (s.warmed p) :=
  ⟨warmed_fill s p, rfl, fun _ h => h, fun _ hq => get_setAt_ne _ _ hq, fun _ => rfl, .refl _⟩

theorem giveUpCooling_left : CoolingLeft (· = p) s (s.giveUpCooling p) :=
  ⟨giveUpCooling_fill s p, rfl, fun _ h => h, fun _ hq => get_setAt_ne _ _ hq, fun _ => rfl, .refl _⟩

theorem loseSlot_left : CoolingLeft (· = p) s (s.loseSlot p) := by
  cases hs : (s.pos p).state with
  | closed | idle | calling | ending | ended => rw [loseSlot_idle (by rw [hs]; rfl)]; exact .refl _ s
  | starting sub => rw [loseSlot_starting hs]; exact giveUpCooling_left s p
  | fuelling =>
    rw [loseSlot_running (.inl hs)]
    exact (warmed_left s p).trans (.of_slotMoves (relookupWarm_fill _ p) (relookupWarm_slotMoves _ p))
  | held r =>
    rw [loseSlot_running (.inr (by rw [hs]; rfl))]
    exact (warmed_left s p).trans (.of_slotMoves (relookupWarm_fill _ p) (relookupWarm_slotMoves _ p))

theorem withdrawWaiter_left : CoolingLeft (· = p) s (s.withdrawWaiter p) :=
  (giveUpCooling_left s p).trans (.of_slotMoves (endCoolWaitCore_fill _ p) (endCoolWaitCore_slotMoves _ p))

end

theorem foldl_coolingLeft {f : State → Fin 4 → State} (hf : ∀ s p, CoolingLeft (· = p) s (f s p)) (l : List (Fin 4)) (s : State) :
    CoolingLeft (· ∈ l) s (l.foldl f s) := by
  induction l generalizing s with
  | nil => exact .refl _ s
  | cons p l ih =>
    exact ((hf s p).mono fun q hq => hq ▸ List.mem_cons_self).trans ((ih (f s p)).mono fun q hq => List.mem_cons_of_mem p hq)

/-! ### What a position that loses its slot becomes -/

section
variable {s s' t t' u : State} {p : Fin 4}

theorem precool_stands (h : (u.pos p).factors.precool = true) :
    (u.activateCore p .precool).pos p = u.pos p ∧ ticketBecomes u (u.activateCore p .precool) p fun k => k := by
  rw [activateCore_active (s := u) (p := p) (f := .precool) h]
  exact ⟨rfl, ticketBecomes_of_tickets rfl⟩

/-- R112: PRECOOL becomes active where it ends the fill. -/
theorem precool_ends (hr : (u.pos p).state = .fuelling ∨ (u.pos p).state.isHeld = true) (h : (u.pos p).factors.precool = false)
    (he : (u.cfg p).precool = .endFill) :
    (u.activateCore p .precool).pos p = endedPosition (u.pos p) (u.site.ventTime * 1000) ∧
      ticketBecomes u (u.activateCore p .precool) p fun k => { k with endReason := some .precool } := by
  rw [activateCore_ends (s := u) (p := p) (f := .precool) (r := .precool) h hr (if_pos he), enterEndingCore_eq (filling_of_running hr)]
  exact ⟨fillEnded_pos_self _ p _, ticketBecomes_of_modActive rfl⟩

/-- R112, R113: PRECOOL becomes active where it holds the fill. -/
theorem precool_holds (hr : (u.pos p).state = .fuelling ∨ (u.pos p).state.isHeld = true) (h : (u.pos p).factors.precool = false)
    (he : (u.cfg p).precool = .holdFill) :
    ((u.pos p).state = .fuelling →
      (u.activateCore p .precool).pos p = heldPosition (u.pos p) { (u.pos p).factors with precool := true } ∧
        (u.activateCore p .precool).flagPending (.held p) = true) ∧
    ((u.pos p).state.isHeld = true → (u.activateCore p .precool).pos p =
      { u.pos p with
        factors := { (u.pos p).factors with precool := true }, state := .held .factorWait, resumeTimer := none }) ∧
    ticketBecomes u (u.activateCore p .precool) p fun k => k := by
  have hend : endingReason (u.cfg p) .precool = none := if_neg (by rw [he]; exact fun h => by cases h)
  rcases hr with hst | hst
  · rw [activateCore_holds (s := u) (p := p) (f := .precool) h hst hend]
    have hk := putFactor_enterHeld_eq u p .precool
    refine ⟨fun _ => ⟨fillHolds_pos hk, fillHolds_flag hk⟩, fun h => ?_, ticketBecomes_of_tickets (fillHolds_tickets hk)⟩
    rw [hst] at h
    cases h
  · rw [activateCore_held (s := u) (p := p) (f := .precool) h hst hend]
    refine ⟨fun h => ?_, fun _ => modPos_pos_self _ p _, ticketBecomes_of_tickets rfl⟩
    rw [h] at hst
    cases hst

/-- R56, R74, R157 (2): what becomes of a position that holds no slot any more, whole. -/
theorem loseSlot_lost (hh : s.precool.holders.has p = false) : slotLost s (s.loseSlot p) p := by
  unfold slotLost
  intro q running mode found joined
  have hpos : (s.warmed p).pos p = s.pos p := rfl
  have hgrade : ((s.warmed p).relookupWarm p).grade p = some .g0 :=
    ((relookupWarm_slotMoves (s.warmed p) p).grade p).trans (warmed_grade s p)
  refine ⟨Bool.eq_false_iff.2 fun h => Bool.eq_false_iff.1 hh ((loseSlot_left s p).shrinks p h), fun hf => ?_, fun sub hst => ?_,
    fun hr => ?_, fun i f hr hfd => ?_, fun hr hfd => ⟨fun hp => ?_, fun hp he => ?_, fun hp he => ?_⟩⟩
  · rw [loseSlot_idle hf]
    exact ⟨rfl, rfl⟩
  · rw [loseSlot_starting hst]
    exact ⟨giveUpCooling_pos s p, giveUpCooling_grade s p⟩
  · rw [loseSlot_running hr]
    exact ⟨hgrade, relookupWarm_fallback _ p (warmed_fallback s p)⟩
  · have hl : (s.warmed p).lookupProfile p (some .g0) ((s.warmed p).pos p).commMode = some (i, f) := hfd
    rw [loseSlot_running hr, relookupWarm_some hl]
    refine ⟨?_, ticketBecomes_of_modActive ?_⟩
    · rw [clearFactor_eq]
      exact (get_setAt_self _ _ _).trans (congrArg (clearedPosition _ · Factor.precool) (rebased_pos i f _ _))
    · rw [clearFactor_eq]
      exact modActive_tickets_congr (s := s) (t := s.warmed p) p _ rfl rfl
  · rw [loseSlot_running hr, relookupWarm_none (s := s.warmed p) hfd]
    exact precool_stands (u := s.warmed p) hp
  · rw [loseSlot_running hr, relookupWarm_none (s := s.warmed p) hfd]
    exact precool_ends (u := s.warmed p) hr hp he
  · rw [loseSlot_running hr, relookupWarm_none (s := s.warmed p) hfd]
    exact precool_holds (u := s.warmed p) hr hp he

theorem lookupProfile_congr (hb : t.base = s.base) (hp : t.pos p = s.pos p) (g : Option Grade) (m : CommMode) :
    t.lookupProfile p g m = s.lookupProfile p g m := by
  have e (v : State) : v.lookupProfile p g m = v.base.firstProfile fun f =>
      f.nozzleClass == (v.base.cfg p).nozzleClass && some f.grade == g && f.coversAmbient v.base.ambient &&
        f.matchesComm m (v.pos p).link.volume := rfl
  rw [e t, e s, hb, hp]

theorem pDisp_congr (hb : t.base = s.base) : t.pDisp p = s.pDisp p := by
  have e (v : State) : v.pDisp p = v.base.pDisp p := rfl
  rw [e t, e s, hb]

/-- R157, R159: what becomes of a position that loses its slot, whatever becomes of others before and after. -/
theorem slotLost.between (hb : CoolingLeft (· ≠ p) s s') (ha : CoolingLeft (· ≠ p) t' t)
    (hact : ∀ q, (t'.pos q).active = (s'.pos q).active) (h : slotLost s' t' p) : slotLost s t p := by
  have hpp : ¬p ≠ p := fun h => h rfl
  have hq : s'.pos p = s.pos p := hb.fills.pos p hpp
  have ht : t.pos p = t'.pos p := ha.fills.pos p hpp
  have hg : t.grade p = t'.grade p := ha.grade p hpp
  have hg' : s'.grade p = s.grade p := hb.grade p hpp
  have hfb : t.precool.fallback.get p = t'.precool.fallback.get p := ha.fills.fallback p hpp
  have tick {f : Ticket → Ticket} (hf : ∀ k, (f k).number = k.number) (hk : ticketBecomes s' t' p f) : ticketBecomes s t p f :=
    hk.between hb.fills ha.fills hf hact
  unfold slotLost at *
  simp only [hq, hg', hb.fills.cfg, hb.fills.site, lookupProfile_congr hb.fills.base hq, pDisp_congr hb.fills.base] at h
  obtain ⟨h1, h2, h3, h4, h5, h6⟩ := h
  refine ⟨Bool.eq_false_iff.2 fun hx => Bool.eq_false_iff.1 h1 (ha.shrinks p hx), fun hf => ?_, fun sub hst => ?_, fun hr => ?_,
    fun i f hr hfd => ?_, fun hr hfd => ?_⟩
  · rw [ht, hg]; exact h2 hf
  · rw [ht, hg]; exact h3 sub hst
  · rw [hg, hfb]; exact h4 hr
  · obtain ⟨hp, hk⟩ := h5 i f hr hfd
    exact ⟨ht.trans hp, tick (fun _ => rfl) hk⟩
  · obtain ⟨ha6, hb6, hc6⟩ := h6 hr hfd
    refine ⟨fun hx => ?_, fun hx he => ?_, fun hx he => ?_⟩
    · obtain ⟨hp, hk⟩ := ha6 hx
      exact ⟨ht.trans hp, tick (fun _ => rfl) hk⟩
    · obtain ⟨hp, hk⟩ := hb6 hx he
      exact ⟨ht.trans hp, tick (fun _ => rfl) hk⟩
    · obtain ⟨hf, hh, hk⟩ := hc6 hx he
      exact ⟨fun hs => ⟨ht.trans (hf hs).1, ha.fills.flags _ (hf hs).2⟩, fun hs => ht.trans (hh hs), tick (fun _ => rfl) hk⟩

/-- R157 (2): every position of a list loses its slot, each once. -/
theorem loseSlots_lost (l : List (Fin 4)) (hl : l.Nodup) (s : State) (hh : ∀ p, s.precool.holders.has p = false) :
    ∀ p ∈ l, slotLost s (l.foldl State.loseSlot s) p := by
  induction l generalizing s with
  | nil => exact fun _ h => absurd h List.not_mem_nil
  | cons a l ih =>
    obtain ⟨ha, hl⟩ := List.nodup_cons.1 hl
    intro p hp
    have hrest := foldl_coolingLeft loseSlot_left l (s.loseSlot a)
    rcases List.mem_cons.1 hp with rfl | hp
    · exact (loseSlot_lost (hh p)).between (.refl _ s) (hrest.mono fun q hq e => ha (e ▸ hq))
        fun q => ((loseSlot_left s p).fills.slots q).1
    · have hne : p ≠ a := fun e => ha (e ▸ hp)
      have hfree (q : Fin 4) : (s.loseSlot a).precool.holders.has q = false :=
        Bool.eq_false_iff.2 fun h => Bool.eq_false_iff.1 (hh q) ((loseSlot_left s a).shrinks q h)
      exact (ih hl _ hfree p hp).between ((loseSlot_left s a).mono fun q hq e => hne (e.symm.trans hq)) (.refl _ _)
        fun q => (hrest.fills.slots q).1

/-! ### Every holder loses its slot -/

theorem mem_holders : p ∈ allPositions.filter s.precool.holders.has ↔ s.precool.holders.has p = true := by
  rw [List.mem_filter]
  exact ⟨fun h => h.2, fun h => ⟨List.mem_finRange p, h⟩⟩

theorem holders_nodup : (allPositions.filter s.precool.holders.has).Nodup := (List.nodup_finRange 4).filter _

theorem emptied_left (P : Fin 4 → Prop) : CoolingLeft P s (s.modPcl fun c => { c with holders := .empty }) := by
  refine ⟨modPcl_fills s P _ fun _ _ => rfl, rfl, fun q hq => ?_, fun _ _ => rfl, fun _ => rfl, .refl _⟩
  rw [modPcl_precool, PosSet.has_empty] at hq
  cases hq

/-- R157 (2): the slots are released: only the former holders change. -/
theorem releaseSlots_left (s : State) : CoolingLeft (fun q => s.precool.holders.has q = true) s s.releaseSlots :=
  (emptied_left _).trans ((foldl_coolingLeft loseSlot_left _ _).mono fun _ hq => mem_holders.1 hq)

theorem releaseSlots_holders (s : State) : s.releaseSlots.precool.holders = .empty :=
  PosSet.eq_empty fun p => Bool.eq_false_iff.2 fun h => by
    have := (foldl_coolingLeft loseSlot_left (allPositions.filter s.precool.holders.has)
      (s.modPcl fun c => { c with holders := .empty })).shrinks p h
    rw [modPcl_precool, PosSet.has_empty] at this
    cases this

theorem releaseSlots_lost (h : s.precool.holders.has p = true) : slotLost s s.releaseSlots p := by
  refine (loseSlots_lost _ holders_nodup (s.modPcl fun c => { c with holders := .empty }) (fun q => ?_) p
    (mem_holders.2 h)).between (emptied_left _) (.refl _ _) fun q => ?_
  · rw [modPcl_precool, PosSet.has_empty]
  · exact ((foldl_coolingLeft loseSlot_left (allPositions.filter s.precool.holders.has)
      (s.modPcl fun c => { c with holders := .empty })).fills.slots q).1

/-- R160 (1): the chiller leaves READY: no position sees it yet. -/
theorem slotLost.of_setChiller {c : ChillerState} (h : slotLost (s.setChiller c) t p) : slotLost s t p := h

theorem slotLost.raised (e : EventFlag) (hact : ∀ q, (t.pos q).active = (s.pos q).active) (h : slotLost s t p) :
    slotLost s (t.raise e) p :=
  h.between (.refl _ s) ⟨raise_fills t _ e, rfl, fun _ h => h, fun _ _ => rfl, fun _ => rfl, .refl _⟩ hact

/-- R157: entry into FAULT, whole. -/
theorem enterFault_faults (s : State) : chillerFaults s s.enterFault := by
  have hl := releaseSlots_left (s.setChiller .fault)
  have hr : s.enterFault.precool = (s.setChiller .fault).releaseSlots.precool := rfl
  have hflag : s.enterFault.flagPending .precoolFault = true := by
    rw [State.enterFault, flagPending_raise, decide_eq_true rfl, Bool.or_true]
  refine ⟨enterFault_base s, hl.fills.banks, ?_, ?_, releaseSlots_holders _, hflag, ?_, ?_, ?_, fun hw => ?_, fun p hp => ?_,
    fun p hp => ⟨?_, ?_⟩⟩
  · rw [hr, hl.rest]; rfl
  · rw [hr, hl.rest]; rfl
  · rw [hr, hl.rest]; rfl
  · rw [hr, hl.rest]; rfl
  · rw [hr, hl.rest]; rfl
  · exact hl.queue fun q hq hm => Bool.eq_false_iff.1 (hw q hm) hq
  · exact ((releaseSlots_lost (s := s.setChiller .fault) hp).of_setChiller).raised .precoolFault
      fun q => (hl.fills.slots q).1
  · exact hl.fills.pos p (Bool.eq_false_iff.1 hp)
  · exact hl.grade p (Bool.eq_false_iff.1 hp)

end

end Sys2Proof.Machine
end

section
/-! PROOFS. What the events of the fills do not read: the reply that has been sent, and the readings of the banks but for which of
them are eligible. -/

namespace Sys2Proof.Machine

/-! ### Selection by what it reads -/

section
variable {s t : State} {p : Fin 4}

theorem eligible_congr (hb : t.base = s.base) (hk : t.banks = s.banks) (l : Option (Fin 6)) (a : Fin 6) :
    t.eligible p l a = s.eligible p l a := by
  have e (v : State) : v.eligible p l a = ((v.base.bankCfg a).inService && !(v.banks.get a).isolated &&
      (v.base.bankCfg a).serves (v.base.cfg p).nozzleClass && v.base.bankPressureKnown a &&
      decide (v.base.pDisp p + v.base.site.openDiff ≤ (v.banks.get a).p) && l != some a) := rfl
  rw [e t, e s, hb, hk]

/-- R129: a selection reads the eligible banks, the ACTIVE bank and the configured ratings. -/
theorem selectedBank_of_eligible (hr : t.bankConfig = s.bankConfig) (ha : t.compressor.activeBank = s.compressor.activeBank)
    (l : Option (Fin 6)) (he : ∀ a, t.eligible p l a = s.eligible p l a) : t.selectedBank p l = s.selectedBank p l := by
  have hlist : t.eligibleBanks p l = s.eligibleBanks p l := by
    have e : t.banksByRating = s.banksByRating := by
      unfold State.banksByRating State.bankCfg
      rw [hr]
    rw [State.eligibleBanks, e, funext he, State.eligibleBanks]
  have hstat : (fun b => t.refillStatus b != .active) = fun b => s.refillStatus b != .active := by
    funext b
    rw [Bool.eq_iff_iff, notActive_iff, notActive_iff, ha]
  rw [State.selectedBank, hlist, hstat, State.selectedBank]

end

/-! ### Another reply and other readings of the banks -/

/-- R179, R125: a state with another reply and other readings of the banks. -/
def State.dressed (s : State) (g : Option Reply → Option Reply) (k : Vector Bank 6 → Vector Bank 6) : State :=
  { s with reply := g s.reply, banks := k s.banks }

/-- R128: the readings of the banks that are eligible show no difference. -/
def eligibleAlike (s : State) (g : Option Reply → Option Reply) (k : Vector Bank 6 → Vector Bank 6) : Prop :=
  ∀ p a, (s.dressed g k).eligible p none a = s.eligible p none a

section
variable (s : State) (p : Fin 4) (g : Option Reply → Option Reply) (k : Vector Bank 6 → Vector Bank 6)

theorem dressed_samePlant : SamePlant s (s.dressed g k) := ⟨rfl, fun _ => rfl, rfl, rfl⟩

theorem drawReported_dressed : PlantAgrees (s.drawReported p) ((s.dressed g k).drawReported p) :=
  (dressed_samePlant s g k).releaseDraw p

theorem modActive_dressed (f : Ticket → Ticket) : ((s.dressed g k).modActive p f).tickets = (s.modActive p f).tickets :=
  modActive_tickets_congr p f rfl rfl

theorem fillEnded_dressed (e : EndReason) : fillEnded (s.dressed g k) p e = (fillEnded s p e).dressed g k := by
  obtain ⟨hc, hf⟩ := drawReported_dressed s p g k
  unfold fillEnded
  rw [hc, hf, modActive_dressed]
  rfl

theorem enterEndingCore_dressed (e : EndReason) :
    (s.dressed g k).enterEndingCore p e = (s.enterEndingCore p e).dressed g k := by
  cases h : (s.pos p).state.filling with
  | false => rw [enterEndingCore_idle h, enterEndingCore_idle (s := s.dressed g k) h]
  | true => rw [enterEndingCore_eq h, enterEndingCore_eq (s := s.dressed g k) h, fillEnded_dressed]

theorem enterHeld_dressed : (s.dressed g k).enterHeld p = (s.enterHeld p).dressed g k := by
  have h := enterHeld_eq s p
  have h' := enterHeld_eq (s.dressed g k) p
  obtain ⟨hc, hf⟩ := drawReported_dressed s p g k
  unfold fillHolds at h h'
  rw [h, h', hc, hf]
  rfl

theorem profiled_dressed (i : Fin 16) (f : FillProfile) (x : Nat) :
    (s.dressed g k).profiled p i f x = (s.profiled p i f x).dressed g k := by
  unfold State.profiled
  have e := modActive_dressed s p g k fun t => { t with profile := some i, grade := s.grade p, commMode := some (s.pos p).commMode }
  exact congrArg (fun v : Vector (Option Ticket) 32 => ({ s with
    reply := g s.reply, banks := k s.banks, tickets := v, positions := setAt s.positions p
      { s.pos p with valve := 0, ramp := (s.pos p).ramp.onProfile i f (10 * x) } } : State)) e

theorem enterFuelling_dressed (b : Fin 6) : (s.dressed g k).enterFuelling p b = (s.enterFuelling p b).dressed g k := by
  rw [enterFuelling_eq, enterFuelling_eq, ((dressed_samePlant s g k).suspendForDraw b).1]
  rfl

theorem startWithoutBank_dressed : (s.dressed g k).startWithoutBank p = (s.startWithoutBank p).dressed g k := by
  have e : ((s.dressed g k).putFactor p .bankLow true) = (s.putFactor p .bankLow true).dressed g k := rfl
  have hc : ((s.dressed g k).cfg p).endedBy .bankLow = (s.cfg p).endedBy .bankLow := rfl
  unfold State.startWithoutBank
  rw [e, enterHeld_dressed, hc]
  cases (s.cfg p).endedBy .bankLow with
  | some reason => exact enterEndingCore_dressed s p g k reason
  | none => rfl

variable {s} {g k} (he : eligibleAlike s g k)
include he

theorem eligibleAlike.congr {t : State} (hb : t.base = s.base) (hk : t.banks = s.banks) : eligibleAlike t g k := by
  intro q a
  have hd : (t.dressed g k).eligible q none a = (s.dressed g k).eligible q none a := by
    refine eligible_congr ?_ (congrArg k hk) none a
    have e : (t.dressed g k).base = { t.base with reply := g t.base.reply } := rfl
    rw [e, hb]
    rfl
  rw [hd, he q a, eligible_congr hb hk]

theorem beginFill_dressed (i : Fin 16) (f : FillProfile) (x : Nat) :
    (s.dressed g k).beginFill p i f x = (s.beginFill p i f x).dressed g k := by
  have hend : ((s.profiled p i f x).dressed g k).endingFactor p = (s.profiled p i f x).endingFactor p := rfl
  have hb : (s.dressed g k).selectedBank p none = s.selectedBank p none := 
    selectedBank_of_eligible (s := s) (t := s.dressed g k) rfl rfl none (he p)
  have hq : (s.dressed g k).pos p = s.pos p := rfl
  rw [beginFill_eq, beginFill_eq, profiled_dressed, hend, hb, hq]
  cases (s.profiled p i f x).endingFactor p with
  | some e => exact enterEndingCore_dressed _ p g k e
  | none =>
    dsimp only
    split
    · cases s.selectedBank p none with
      | some b => exact enterFuelling_dressed _ p g k b
      | none => exact startWithoutBank_dressed _ p g k
    · exact enterHeld_dressed _ p g k

theorem startLookupCore_dressed : (s.dressed g k).startLookupCore p = (s.startLookupCore p).dressed g k := by
  cases h : s.lookupProfile p (s.grade p) (s.pos p).commMode with
  | none =>
    rw [startLookupCore_none h, startLookupCore_none (s := s.dressed g k) h]
    exact enterEndingCore_dressed s p g k _
  | some x =>
    obtain ⟨i, f⟩ := x
    have hq : (s.dressed g k).pos p = s.pos p := rfl
    rw [startLookupCore_some h, startLookupCore_some (s := s.dressed g k) h, hq]
    split
    · exact enterEndingCore_dressed s p g k _
    · exact beginFill_dressed p he i f _

theorem endCoolWaitCore_dressed : (s.dressed g k).endCoolWaitCore p = (s.endCoolWaitCore p).dressed g k := by
  by_cases h : (s.pos p).state = .starting .coolWait
  · have hq : (s.dressed g k).pos p = s.pos p := rfl
    have hm : ((s.dressed g k).modPos p fun q => { q with coolWaitTimer := none }) =
        (s.modPos p fun q => { q with coolWaitTimer := none }).dressed g k := rfl
    have he' : eligibleAlike (s.modPos p fun q => { q with coolWaitTimer := none }) g k := he
    rw [endCoolWaitCore_at s p h, endCoolWaitCore_at (s.dressed g k) p h, hq, hm, startLookupCore_dressed p he']
    split <;> rfl
  · rw [endCoolWaitCore_elsewhere h, endCoolWaitCore_elsewhere (s := s.dressed g k) h]

omit p in
theorem makeGrants_dressed : (s.dressed g k).makeGrants = s.makeGrants.dressed g k := by
  refine makeGrants_induction (C := fun s t => eligibleAlike s g k → (s.dressed g k).makeGrants = t.dressed g k)
    (fun s h _ => makeGrants_of_noGrantDue (s := s.dressed g k) h) (fun s p rest t hq hf h he => ?_) s he
  have hg : ((s.dressed g k).grantSlot p) = (s.grantSlot p).dressed g k := rfl
  have he' : eligibleAlike (s.grantSlot p) g k := he
  have hfill := endCoolWaitCore_fill (s.grantSlot p) p
  rw [makeGrants_head (s := s.dressed g k) hq hf, hg, endCoolWaitCore_dressed p he']
  exact h (he'.congr hfill.base hfill.banks)

end

/-! ### Another reply -/

section
variable (s : State) (p : Fin 4) (r : Option Reply)

/-- R179: the state with the reply that the event sends. -/
def State.replied (s : State) (r : Option Reply) : State := s.dressed (fun _ => r) id

theorem replied_alike : eligibleAlike s (fun _ => r) id := fun _ _ => rfl

theorem replied_samePlant : SamePlant s (s.replied r) := dressed_samePlant s _ _

theorem drawReported_replied : PlantAgrees (s.drawReported p) ((s.replied r).drawReported p) := drawReported_dressed s p _ _

theorem enterEndingCore_replied (e : EndReason) : (s.replied r).enterEndingCore p e = (s.enterEndingCore p e).replied r :=
  enterEndingCore_dressed s p _ _ e

theorem enterHeld_replied : (s.replied r).enterHeld p = (s.enterHeld p).replied r := enterHeld_dressed s p _ _

theorem startLookupCore_replied : (s.replied r).startLookupCore p = (s.startLookupCore p).replied r :=
  startLookupCore_dressed p (replied_alike s r)

theorem makeGrants_replied : (s.replied r).makeGrants = s.makeGrants.replied r := makeGrants_dressed (replied_alike s r)

end

end Sys2Proof.Machine
end

section
/-! PROOFS. CHILLER_ON and CHILLER_OFF, and the grants from the wait queue (R158, R159, R162). -/

namespace Sys2Proof.Machine

/-! ### A grant -/

section
variable {s : State} {p : Fin 4}

theorem grantSlot_eq {rest : List (Fin 4)} (hq : s.precool.waitQueue = p :: rest) : s.grantSlot p = { s with
    precool := { s.precool with
      waitQueue := rest
      holders := s.precool.holders.put p true
      grades := setAt s.precool.grades p (some s.precool.offered) } } := by
  have e : s.precool.waitQueue.erase p = rest := by rw [hq, List.erase_cons_head]
  rw [State.grantSlot, State.modPcl, e]

/-- R56 (4), R162: the grant to the head of the wait queue, and what follows. -/
theorem makeGrants_grants {rest : List (Fin 4)} (hq : s.precool.waitQueue = p :: rest) (hf : s.slotFree = true) :
    slotGranted s s.makeGrants p rest := by
  have hg := makeGrants_head hq hf
  rw [grantSlot_eq hq] at hg
  unfold slotGranted
  intro granted told
  refine ⟨fun hst => ?_, fun hst => ⟨fun hh => ?_, fun hh => ?_⟩⟩
  · exact hg.trans (congrArg _ (endCoolWaitCore_elsewhere (s := granted) hst))
  · have e := endCoolWaitCore_at granted p hst
    rw [if_pos (c := ((granted.pos p).factors.vehicleHalt = true)) hh] at e
    exact hg.trans (congrArg _ e)
  · have e := endCoolWaitCore_at granted p hst
    rw [if_neg (c := ((granted.pos p).factors.vehicleHalt = true)) (by rw [Bool.not_eq_true]; exact hh)] at e
    rw [hg.trans (congrArg _ e)]
    refine startLookup_acts (s := told) ?_
    have hp : told.pos p = { s.pos p with coolWaitTimer := none } := get_setAt_self _ _ _
    rw [hp]
    exact congrArg PosState.filling hst

end

/-! ### CHILLER_ON -/

section
variable {s t : State} {c : Instr}

theorem takeFrame_coolantValue (s : State) (c : Instr) : (s.takeFrame c).coolantValue = s.coolantValue := by
  rw [takeFrame_eq]
  rfl

theorem slotLost.replied {p : Fin 4} (r : Option Reply) (h : slotLost s t p) : slotLost (s.replied r) (t.replied r) p := h

theorem chillerFaults_replied (r : Option Reply) (h : chillerFaults s t) : chillerFaults (s.replied r) (t.replied r) :=
  ⟨congrArg (State.replied · r) h.1, h.2⟩

/-- R158 (1): entry into PULLDOWN stays there when the last coolant value is not cold enough. -/
theorem enterPulldown_warm (h : ¬(s.precool.coolantSeen = true ∧ ∃ v, s.coolantValue = some v ∧ v ≤ s.site.limitG3 - s.site.approach)) :
    s.enterPulldown = s.setChiller .pulldown := by
  have hv : (s.setChiller .pulldown).coolantValue = s.coolantValue := rfl
  have hs : (s.setChiller .pulldown).precool.coolantSeen = s.precool.coolantSeen := rfl
  unfold State.enterPulldown
  dsimp only
  rw [hv, hs]
  cases hc : s.coolantValue with
  | none => rfl
  | some v =>
    refine if_neg fun hx => h ?_
    obtain ⟨hseen, hle⟩ := Bool.and_eq_true_iff.1 hx
    exact ⟨hseen, v, hc, of_decide_eq_true hle⟩

/-- R158 (1): entry into PULLDOWN goes on to READY when the last coolant value is cold enough. -/
theorem enterPulldown_cold {v : Nat} (hs : s.precool.coolantSeen = true) (hv : s.coolantValue = some v)
    (hle : v ≤ s.site.limitG3 - s.site.approach) : s.enterPulldown = (s.setReady v).makeGrants := by
  have hv' : (s.setChiller .pulldown).coolantValue = some v := hv
  have hs' : (s.setChiller .pulldown).precool.coolantSeen = true := hs
  have hle' : v ≤ (s.setChiller .pulldown).site.readyThreshold := hle
  unfold State.enterPulldown
  dsimp only
  rw [hv', hs']
  dsimp only
  rw [Bool.true_and, decide_eq_true hle']
  rfl

theorem chillerOn_off (h : s.precool.chiller = .off) : s.chillerOn = accept s.switchChillerOn := by
  rw [State.chillerOn, h]

theorem chillerOn_fault (h : s.precool.chiller = .fault) (hf : s.precool.faultLine = false) (hc : s.precool.coolantCause = false) :
    s.chillerOn = accept s.switchChillerOn := by
  simp only [State.chillerOn, h, hf, hc, Bool.not_false, Bool.and_self, require_true]

theorem switchChillerOn_faults (h : s.precool.faultLine = true ∨ s.precool.coolantCause = true) :
    s.switchChillerOn = s.enterFault := if_pos (Bool.or_eq_true_iff.2 h)

theorem switchChillerOn_starts (h : ¬(s.precool.faultLine = true ∨ s.precool.coolantCause = true)) :
    s.switchChillerOn = s.enterPulldown := if_neg fun hx => h (Bool.or_eq_true_iff.1 hx)

theorem chillerOn_starts (h : s.precool.chiller = .off ∨ s.precool.chiller = .fault)
    (hc : ¬(s.precool.faultLine = true ∨ s.precool.coolantCause = true)) : s.chillerOn = accept s.enterPulldown := by
  rw [← switchChillerOn_starts hc]
  rcases h with h | h
  · exact chillerOn_off h
  · rw [not_or, Bool.not_eq_true, Bool.not_eq_true] at hc
    exact chillerOn_fault h hc.1 hc.2

end

/-! ### CHILLER_OFF: what leaves the wait queue -/

section
variable (s : State) {p q : Fin 4}

theorem enterEndingCore_stays (e : EndReason) (h : q ≠ p) (hq : q ∈ s.precool.waitQueue) :
    q ∈ (s.enterEndingCore p e).precool.waitQueue := by
  cases hf : (s.pos p).state.filling with
  | false => rwa [enterEndingCore_idle hf]
  | true =>
    rw [enterEndingCore_eq hf]
    exact (List.mem_erase_of_ne h).2 hq

theorem activateCore_stays (f : Factor) (h : q ≠ p) (hq : q ∈ s.precool.waitQueue) :
    q ∈ (s.activateCore p f).precool.waitQueue := by
  rcases activateCore_cases s p f with e | ⟨-, ⟨sub, -, e⟩ | ⟨r, -, e⟩ | ⟨-, -, e⟩ | ⟨-, e⟩⟩ <;> rw [e]
  · exact hq
  · exact hq
  · exact enterEndingCore_stays s r h hq
  · rw [(fillHolds_precool (putFactor_enterHeld_eq s p f)).1]
    exact hq
  · exact hq

theorem relookupWarm_stays (h : q ≠ p) (hq : q ∈ s.precool.waitQueue) : q ∈ (s.relookupWarm p).precool.waitQueue := by
  unfold State.relookupWarm
  split
  · next t ht => rwa [relookup_precool s p _ _ ht]
  · exact activateCore_stays s _ h hq

/-- R157: the loss of a slot takes at most the position itself out of the wait queue. -/
theorem loseSlot_stays (h : q ≠ p) (hq : q ∈ s.precool.waitQueue) : q ∈ (s.loseSlot p).precool.waitQueue := by
  unfold State.loseSlot
  split
  · exact relookupWarm_stays ((s.setGrade p (some .g0)).setFallback p none) h hq
  · exact relookupWarm_stays ((s.setGrade p (some .g0)).setFallback p none) h hq
  all_goals exact hq

/-- R157: a waiter stays in the queue while others lose their slots, and also when it loses one outside a fill. -/
theorem loseSlots_stays (l : List (Fin 4)) (h : q ∉ l ∨ (s.pos q).state.filling = false) (hq : q ∈ s.precool.waitQueue) :
    q ∈ (l.foldl State.loseSlot s).precool.waitQueue := by
  induction l generalizing s with
  | nil => exact hq
  | cons a l ih =>
    by_cases e : q = a
    · subst e
      have hf : (s.pos q).state.filling = false := h.resolve_left fun hn => hn List.mem_cons_self
      rw [List.foldl_cons, loseSlot_idle hf]
      exact ih s (.inr hf) hq
    · refine ih (s.loseSlot a) ?_ (loseSlot_stays s e hq)
      rw [(loseSlot_left s a).fills.pos q e]
      exact h.imp_left fun hn hm => hn (List.mem_cons_of_mem a hm)

/-- R157, R159: after the slots are released a waiter still waits, unless it was a holder in a fill, which has grade G0. -/
theorem releaseSlots_waits (hq : q ∈ s.precool.waitQueue) :
    q ∈ s.releaseSlots.precool.waitQueue ∨ s.releaseSlots.grade q = some .g0 := by
  by_cases h : s.precool.holders.has q = true ∧ (s.pos q).state.filling = true
  · obtain ⟨hh, hf⟩ := h
    obtain ⟨-, -, hstart, hrun, -⟩ := releaseSlots_lost hh
    right
    cases hst : (s.pos q).state with
    | closed | idle | calling | ending | ended => rw [hst] at hf; cases hf
    | starting sub => exact (hstart sub hst).2
    | fuelling => exact (hrun (.inl hst)).1
    | held r => exact (hrun (.inr (by rw [hst]; rfl))).1
  · refine .inl (loseSlots_stays (s.modPcl fun c => { c with holders := .empty }) _ ?_ hq)
    by_cases hh : s.precool.holders.has q = true
    · exact .inr (Bool.eq_false_iff.2 fun hf => h ⟨hh, hf⟩)
    · exact .inl fun hm => hh (mem_holders.1 hm)

theorem releaseSlots_waits_of_free (hh : s.precool.holders.has q = false) (hq : q ∈ s.precool.waitQueue) :
    q ∈ s.releaseSlots.precool.waitQueue :=
  loseSlots_stays (s.modPcl fun c => { c with holders := .empty }) _
    (.inl fun hm => Bool.eq_false_iff.1 hh (mem_holders.1 hm)) hq

/-! ### CHILLER_OFF: the waiters -/

theorem withdrawWaiter_grade (q : Fin 4) : (s.withdrawWaiter q).grade q = some .g0 :=
  ((endCoolWaitCore_slotMoves (s.giveUpCooling q) q).grade q).trans (giveUpCooling_grade s q)

theorem withdrawAll_grade (l : List (Fin 4)) (h : q ∈ l ∨ s.grade q = some .g0) :
    (l.foldl State.withdrawWaiter s).grade q = some .g0 := by
  induction l generalizing s with
  | nil => exact h.resolve_left List.not_mem_nil
  | cons a l ih =>
    refine ih (s.withdrawWaiter a) ?_
    by_cases e : q = a
    · subst e
      exact .inr (withdrawWaiter_grade s q)
    · refine h.imp (fun hm => (List.mem_cons.1 hm).resolve_left e) fun hg => ?_
      rw [(withdrawWaiter_left s a).grade q e]
      exact hg

/-- R159: what a waiter becomes, however often it stands in the queue. -/
theorem withdrawAll_pos (l : List (Fin 4)) (x y : Position) (hx : ∀ u : State, u.pos q = x → (u.withdrawWaiter q).pos q = y)
    (hy : ∀ u : State, u.pos q = y → (u.withdrawWaiter q).pos q = y) (h : (q ∈ l ∧ s.pos q = x) ∨ s.pos q = y) :
    (l.foldl State.withdrawWaiter s).pos q = y := by
  induction l generalizing s with
  | nil => exact h.resolve_left fun hm => List.not_mem_nil hm.1
  | cons a l ih =>
    refine ih (s.withdrawWaiter a) ?_
    by_cases e : q = a
    · subst e
      exact .inr (h.elim (fun hm => hx s hm.2) (hy s))
    · rw [(withdrawWaiter_left s a).fills.pos q e]
      exact h.imp_left fun ⟨hm, hp⟩ => ⟨(List.mem_cons.1 hm).resolve_left e, hp⟩

theorem withdrawWaiter_pos_elsewhere (h : (s.pos q).state ≠ .starting .coolWait) :
    (s.withdrawWaiter q).pos q = { s.pos q with coolWaitExpired := true } := by
  have hp := giveUpCooling_pos s q
  rw [State.withdrawWaiter, endCoolWaitCore_elsewhere (s := s.giveUpCooling q) (by rw [hp]; exact h), hp]

theorem withdrawWaiter_coolWait (h : (s.pos q).state = .starting .coolWait) : s.withdrawWaiter q =
    if (s.pos q).factors.vehicleHalt then (s.giveUpCooling q).modPos q fun x => { x with coolWaitTimer := none }
    else ((s.giveUpCooling q).modPos q fun x => { x with coolWaitTimer := none }).startLookupCore q := by
  have hp := giveUpCooling_pos s q
  rw [State.withdrawWaiter, endCoolWaitCore_at (s.giveUpCooling q) q (by rw [hp]; exact h), hp]

theorem withdrawWaiter_pos_halted (h : (s.pos q).state = .starting .coolWait) (hh : (s.pos q).factors.vehicleHalt = true) :
    (s.withdrawWaiter q).pos q = { s.pos q with coolWaitExpired := true, coolWaitTimer := none } := by
  rw [withdrawWaiter_coolWait s h, if_pos hh, modPos_pos_self, giveUpCooling_pos]

theorem emptyQueue_left : CoolingLeft (· ∈ s.precool.waitQueue) s (s.modPcl fun c => { c with waitQueue := [] }) :=
  ⟨modPcl_fills s _ _ fun _ _ => rfl, rfl, fun _ h => h, fun _ _ => rfl,
    fun h => (List.eq_nil_iff_forall_not_mem.2 fun q hq => h q hq hq).symm, List.nil_sublist _⟩

theorem withdrawWaiters_left : CoolingLeft (· ∈ s.precool.waitQueue) s s.withdrawWaiters :=
  (emptyQueue_left s).trans (foldl_coolingLeft withdrawWaiter_left _ _)

theorem withdrawWaiters_queue : s.withdrawWaiters.precool.waitQueue = [] :=
  List.sublist_nil.1 (foldl_coolingLeft withdrawWaiter_left s.precool.waitQueue (s.modPcl fun c => { c with waitQueue := [] })).leaves

/-- R159 (1): what CHILLER_OFF leaves of the chiller, and whom it reaches. -/
theorem switchChillerOff_left :
    CoolingLeft (fun q => s.precool.holders.has q = true ∨ q ∈ s.precool.waitQueue) (s.setChiller .off) s.switchChillerOff := by
  have hr := releaseSlots_left (s.setChiller .off)
  exact (hr.mono fun q hq => .inl hq).trans ((withdrawWaiters_left _).mono fun q hq => .inr (hr.leaves.subset hq))

end

/-! ### CHILLER_OFF with one waiter -/

section
variable (s : State) (p : Fin 4)

/-- R56 (5), R159 (1): the only waiter, in COOL_WAIT, at its start lookup after CHILLER_OFF. -/
def State.withdrawnAlone : State :=
  { s with
    positions := setAt s.positions p { s.pos p with coolWaitExpired := true, coolWaitTimer := none }
    precool :=
      { s.precool with
        chiller := .off, offered := .g0, waitQueue := []
        grades := setAt s.precool.grades p (some .g0) } }

theorem withdrawnAlone_pos : (s.withdrawnAlone p).pos p = { s.pos p with coolWaitExpired := true, coolWaitTimer := none } :=
  get_setAt_self _ _ _

variable {s p}

theorem releaseSlots_none (h : s.precool.holders = .empty) : s.releaseSlots = s := by
  have hl : allPositions.filter s.precool.holders.has = [] := by rw [h]; rfl
  unfold State.releaseSlots
  dsimp only
  rw [hl, List.foldl_nil, State.modPcl, ← h]

theorem switchChillerOff_alone (hq : s.precool.waitQueue = [p]) (hh : s.precool.holders = .empty)
    (hst : (s.pos p).state = .starting .coolWait) (hv : (s.pos p).factors.vehicleHalt = false) :
    s.switchChillerOff = (s.withdrawnAlone p).startLookupCore p := by
  have hq' : (s.setChiller .off).precool.waitQueue = [p] := hq
  rw [State.switchChillerOff, releaseSlots_none (s := s.setChiller .off) hh, State.withdrawWaiters, hq', List.foldl_cons,
    List.foldl_nil, withdrawWaiter_coolWait ((s.setChiller .off).modPcl fun c => { c with waitQueue := [] }) hst]
  refine (if_neg (by rw [Bool.not_eq_true]; exact hv)).trans (congrArg (State.startLookupCore · p) ?_)
  simp only [State.giveUpCooling, State.modPos, modAt, setAt_setAt, get_setAt_self]
  rfl

/-- R57: the start lookup of the only waiter; a chiller in OFF grants nothing. -/
theorem withdrawnAlone_acts (r : Option Reply) (hst : (s.pos p).state = .starting .coolWait) :
    startLookupActs ((s.withdrawnAlone p).replied r) (((s.withdrawnAlone p).startLookupCore p).replied r) p := by
  have hp := withdrawnAlone_pos s p
  have hfill : (((s.withdrawnAlone p).replied r).pos p).state.filling = true := by
    change ((s.withdrawnAlone p).pos p).state.filling = true
    rw [hp]
    exact congrArg PosState.filling hst
  have hoff : (((s.withdrawnAlone p).startLookupCore p).replied r).precool.chiller ≠ .ready := by
    change ((s.withdrawnAlone p).startLookupCore p).precool.chiller ≠ .ready
    rw [(startLookupCore_slotMoves (s.withdrawnAlone p) p).chiller]
    exact fun h => by cases h
  have h := startLookup_acts hfill
  rwa [startLookupCore_replied, makeGrants_of_noGrantDue (noGrantDue_of_chiller hoff)] at h

end

/-- Settles O38: `makeGrants_grants`, `enterFault_faults`, and for CHILLER_OFF the release of the slots and the fold over the
waiters. -/
theorem chillerIsSwitchedOnAndOff : Obligations.ChillerIsSwitchedOnAndOff := by
  unfold Obligations.ChillerIsSwitchedOnAndOff
  refine ⟨fun s => ⟨makeGrants_of_noGrantDue, fun p rest hq hf => makeGrants_grants hq hf⟩, fun h s hs => ?_, fun h s hs => ?_⟩
  · intro c cause cold
    have hc : exec c s = execChillerOn h s := rfl
    rw [hc, execChillerOn]
    simp only [stationOnly_station hs]
    have hpcl : (s.takeFrame c).precool = s.precool := takeFrame_precool s c
    have hsite : (s.takeFrame c).site = s.site := takeFrame_site s c
    have hval := takeFrame_coolantValue s c
    have hcause : cause ↔ (s.takeFrame c).precool.faultLine = true ∨ (s.takeFrame c).precool.coolantCause = true := by rw [hpcl]
    have hcold : cold ↔ (s.takeFrame c).precool.coolantSeen = true ∧ ∃ v, (s.takeFrame c).coolantValue = some v ∧
        v ≤ (s.takeFrame c).site.limitG3 - (s.takeFrame c).site.approach := by rw [hpcl, hval, hsite]
    refine ⟨fun hst => answer_acceptWith (payload := []) ?_, fun hst hx => answer_refuse ?_, fun hst hx => ?_, fun hst hx hw => ?_,
      fun hst hx hw => ?_⟩
    · rcases hst with hst | hst <;> rw [State.chillerOn, hpcl, hst] <;> rfl
    · rw [State.chillerOn, hpcl, hst]
      dsimp only
      have : (!s.precool.faultLine && !s.precool.coolantCause) = false := by
        rcases hx with hx | hx <;> simp [hx]
      rw [this, require_false]
    · refine ⟨_, answer_accept ((chillerOn_off (hpcl ▸ hst)).trans ?_), chillerFaults_replied _ (enterFault_faults (s.takeFrame c))⟩
      rw [switchChillerOn_faults (hcause.1 hx)]
    · refine answer_change (payload := []) (fun u => u.setChiller .pulldown) (fun _ => rfl) (fun _ _ => rfl) ?_
      rw [chillerOn_starts (hpcl ▸ hst) (mt hcause.2 hx), enterPulldown_warm (mt hcold.2 hw)]
      rfl
    · obtain ⟨hseen, v, hv, hle⟩ := hcold.1 hw
      have hbody := (chillerOn_starts (hpcl ▸ hst) (mt hcause.2 hx)).trans (congrArg accept (enterPulldown_cold hseen hv hle))
      have hfills := makeGrants_fills ((s.takeFrame c).setReady v)
      have honly := makeGrants_only ((s.takeFrame c).setReady v)
      refine ⟨_, answer_accept hbody, congrArg (State.replied · _) hfills.base, honly.chiller, ?_, fun p hp => ?_, fun w hw => ?_⟩
      · exact hfills.banks.trans (takeFrame_banks s c)
      · refine (hfills.pos p ?_).trans (takeFrame_pos s c p)
        change ((s.takeFrame c).pos p).state ≠ _
        rw [takeFrame_pos]
        exact hp
      · obtain rfl : w = v := Option.some.inj (hw.symm.trans (hval.symm.trans hv))
        have hgrade : (s.takeFrame c).site.gradeFor w = s.site.gradeFor w := by rw [hsite]
        have he : (s.takeFrame c).setReady w = { s.takeFrame c with
            precool := { s.precool with chiller := .ready, offered := s.site.gradeFor w } } := by
          rw [State.setReady, hgrade, ← hpcl]
          rfl
        exact ⟨honly.offered.trans hgrade, congrArg (fun x : State => x.makeGrants.replied _) he⟩
  · intro c withdrawn
    have hc : exec c s = execChillerOff h s := rfl
    rw [hc, execChillerOff]
    simp only [stationOnly_station hs]
    set u := s.takeFrame c with hu
    have hpcl : u.precool = s.precool := takeFrame_precool s c
    have hpos (p : Fin 4) : u.pos p = s.pos p := takeFrame_pos s c p
    have hgr (p : Fin 4) : u.grade p = s.grade p := by rw [State.grade, hpcl, State.grade]
    have hleft := switchChillerOff_left u
    have hrel := releaseSlots_left (u.setChiller .off)
    have hwait := withdrawWaiters_left (u.setChiller .off).releaseSlots
    have hpre : u.switchChillerOff.precool = _ := hleft.rest
    have hkept (p : Fin 4) (hq : p ∈ s.precool.waitQueue) (hp : s.precool.holders.has p = false) :
        p ∈ (u.setChiller .off).releaseSlots.precool.waitQueue ∧ (u.setChiller .off).releaseSlots.pos p = s.pos p := by
      rw [← hpcl] at hq hp
      exact ⟨releaseSlots_waits_of_free (u.setChiller .off) hp hq, (hrel.fills.pos p (Bool.eq_false_iff.1 hp)).trans (hpos p)⟩
    refine ⟨_, answer_accept rfl, congrArg (State.replied · _) hleft.fills.base, ?_, ?_, ?_, withdrawWaiters_queue _, ?_, ?_, ?_, ?_,
      fun p hp => ?_, fun p hp hq => ?_, fun p hq hp => ⟨fun sub hst hsub => ?_, fun hst hh => ?_, fun hst hh hone hnone => ?_⟩,
      fun p hp hq => ?_⟩
    · change u.switchChillerOff.precool.chiller = _
      rw [hpre]; rfl
    · change u.switchChillerOff.precool.offered = _
      rw [hpre]; rfl
    · refine PosSet.eq_empty fun q => Bool.eq_false_iff.2 fun hx => ?_
      have := hwait.shrinks q hx
      rw [releaseSlots_holders, PosSet.has_empty] at this
      cases this
    · exact hleft.fills.banks.trans (takeFrame_banks s c)
    · change u.switchChillerOff.precool.faultLine = _
      rw [hpre, ← hpcl]; rfl
    · change u.switchChillerOff.precool.coolantCause = _
      rw [hpre, ← hpcl]; rfl
    · change u.switchChillerOff.precool.coolantSeen = _
      rw [hpre, ← hpcl]; rfl
    · have hp' : p ∈ (u.setChiller .off).precool.waitQueue := by
        change p ∈ u.precool.waitQueue
        rwa [hpcl]
      exact withdrawAll_grade _ _ (releaseSlots_waits (u.setChiller .off) hp')
    · have hp' : (u.setChiller .off).precool.holders.has p = true := by
        change u.precool.holders.has p = true
        rwa [hpcl]
      have hq' (q : Fin 4) (hm : q ∈ (u.setChiller .off).releaseSlots.precool.waitQueue) : q ≠ p := by
        rintro rfl
        have : q ∈ u.precool.waitQueue := hrel.leaves.subset hm
        exact hq (hpcl ▸ this)
      exact (((releaseSlots_lost hp').of_setChiller).between (.refl _ u) (hwait.mono hq') fun q => (hrel.fills.slots q).1).replied _
    · refine withdrawAll_pos ((u.setChiller .off).releaseSlots.modPcl fun c => { c with waitQueue := [] }) _ (s.pos p) (withdrawn p)
        (fun v hv => ?_) (fun v hv => ?_) (.inl (hkept p hq hp))
      · rw [withdrawWaiter_pos_elsewhere v (by rw [hv, hst]; exact fun e => hsub (PosState.starting.inj e)), hv]
      · rw [withdrawWaiter_pos_elsewhere v (by rw [hv, hst]; exact fun e => hsub (PosState.starting.inj e)), hv]
    · refine withdrawAll_pos ((u.setChiller .off).releaseSlots.modPcl fun c => { c with waitQueue := [] }) _ (s.pos p)
        { withdrawn p with coolWaitTimer := none } (fun v hv => ?_) (fun v hv => ?_) (.inl (hkept p hq hp))
      · rw [withdrawWaiter_pos_halted v (by rw [hv, hst]) (by rw [hv]; exact hh), hv]
      · rw [withdrawWaiter_pos_halted v (by rw [hv, hst]) (by rw [hv]; exact hh), hv]
    · rw [switchChillerOff_alone (s := u) (p := p) (hpcl ▸ hone) (hpcl ▸ hnone) (hpos p ▸ hst) (hpos p ▸ hh)]
      have hacts := withdrawnAlone_acts (s := u) (p := p) (some ⟨h.sender, h.tag, 0x48, .ok, []⟩) (hpos p ▸ hst)
      have hx : u.withdrawnAlone p = { u with
          positions := setAt s.positions p { withdrawn p with coolWaitTimer := none }
          precool :=
            { s.precool with
              chiller := .off, offered := .g0, waitQueue := []
              grades := setAt s.precool.grades p (some .g0) } } := by
        rw [State.withdrawnAlone, hpcl, hpos, hu, takeFrame_positions]
      rw [hx] at hacts ⊢
      exact hacts
    · have hp' : ¬(u.precool.holders.has p = true ∨ p ∈ u.precool.waitQueue) := by
        rw [hpcl, hp]
        exact fun h => h.elim (fun h => by cases h) hq
      exact ⟨(hleft.fills.pos p hp').trans (hpos p), (hleft.grade p hp').trans (hgr p)⟩

end Sys2Proof.Machine
end

section
/-! PROOFS. The switch lines: the debouncers, and what a debounced transition does (R40, R48, R49, R94, R155, R173). -/

namespace Sys2Proof.Machine

/-! ### The debouncers -/

theorem debouncers_put_self (d : Debouncers) (line : SwitchLine) (x : Debouncer) : (d.put line x).at line = x := by
  cases line with
  | holster p => exact get_setAt_self _ _ _
  | coupling p => exact get_setAt_self _ _ _
  | metrology | chillerFault => rfl

theorem debouncers_put_ne (d : Debouncers) {line l : SwitchLine} (h : l ≠ line) (x : Debouncer) : (d.put line x).at l = d.at l := by
  cases line with
  | holster p =>
    cases l with
    | holster q => exact get_setAt_ne _ _ fun e => h (congrArg _ e)
    | coupling q | metrology | chillerFault => rfl
  | coupling p =>
    cases l with
    | coupling q => exact get_setAt_ne _ _ fun e => h (congrArg _ e)
    | holster q | metrology | chillerFault => rfl
  | metrology =>
    cases l with
    | metrology => exact absurd rfl h
    | holster q | coupling q | chillerFault => rfl
  | chillerFault =>
    cases l with
    | chillerFault => exact absurd rfl h
    | holster q | coupling q | metrology => rfl

/-- R173: the raw level of a line stands while time passes. -/
theorem elapse_debouncer_raw (s : State) (d : Nat) (line : SwitchLine) :
    ((s.elapse d).debouncers.at line).raw = (s.debouncers.at line).raw := by
  by_cases hd : d = 0
  · rw [State.elapse, if_pos hd]
  · rw [State.elapse, if_neg hd]
    cases line with
    | holster p =>
      have e : (mapAll (Debouncer.elapse d) s.debouncers.holster).get p = _ := get_mapAll _ _ _
      have h := congrArg Debouncer.raw e
      exact h
    | coupling p =>
      have e : (mapAll (Debouncer.elapse d) s.debouncers.coupling).get p = _ := get_mapAll _ _ _
      have h := congrArg Debouncer.raw e
      exact h
    | metrology | chillerFault => rfl

/-- R173 (1), (2): a raw change, by the levels of the debouncer. -/
theorem rawChange_debounces (line : SwitchLine) (level : Bool) (s : State) :
    let x := s.debouncers.at line
    (level = x.raw → x.rawChange level (s.debounceTime line) = x) ∧
    (level ≠ x.raw → level = x.level → x.rawChange level (s.debounceTime line) = ⟨x.level, level, none⟩) ∧
    (level ≠ x.raw → level ≠ x.level →
      x.rawChange level (s.debounceTime line) = ⟨x.level, level, some (s.debounceTime line)⟩) := by
  intro x
  refine ⟨fun h => if_pos h, fun h hl => ?_, fun h hl => ?_⟩
  · rw [Debouncer.rawChange, if_neg h, if_pos hl]
  · rw [Debouncer.rawChange, if_neg h, if_neg hl]

/-! ### What a debounced transition does -/

section
variable {u : State} {p : Fin 4}

theorem enterCalling_eq (u : State) (p : Fin 4) : u.enterCalling p = { u with
    positions := setAt u.positions p
      { u.pos p with
        state := .calling
        link := if (u.debouncers.coupling.get p).level = true ∧ (u.pos p).link.state = .off
          then { LinkContext.off with state := .listen } else (u.pos p).link } } := by
  have hp : (u.modPos p fun q => { q with state := .calling }).pos p = { u.pos p with state := .calling } := modPos_pos_self u p _
  have hd : (u.modPos p fun q => { q with state := .calling }).debouncers = u.debouncers := rfl
  unfold State.enterCalling
  dsimp only
  rw [hd]
  by_cases hc : (u.debouncers.coupling.get p).level = true
  · rw [if_pos hc, State.listen, hp]
    by_cases ho : (u.pos p).link.state = .off
    · rw [if_pos ho, if_pos ⟨hc, ho⟩, State.modLink, modPos_modPos]
      rfl
    · rw [if_neg ho, if_neg fun hx => ho hx.2]
      rfl
  · rw [if_neg hc, if_neg fun hx => hc hx.1]
    rfl

theorem nozzleLifted_idle (h : (u.pos p).state = .idle) : u.nozzleLifted p = { u with
    positions := setAt u.positions p
      { u.pos p with
        state := .calling
        link := if (u.debouncers.coupling.get p).level = true ∧ (u.pos p).link.state = .off
          then { LinkContext.off with state := .listen } else (u.pos p).link } } :=
  (if_pos h).trans (enterCalling_eq u p)

theorem nozzleHolstered_calling (h : (u.pos p).state = .calling) : u.nozzleHolstered p =
    { u with positions := setAt u.positions p { u.pos p with state := .idle } } := by
  rw [State.nozzleHolstered, h]
  rfl

theorem nozzleHolstered_ended (h : (u.pos p).state = .ended) : u.nozzleHolstered p = u.holsterEnded p := by
  rw [State.nozzleHolstered, h]

theorem nozzleHolstered_else (hc : (u.pos p).state ≠ .calling) (he : (u.pos p).state ≠ .ended) : u.nozzleHolstered p = u := by
  unfold State.nozzleHolstered
  cases h : (u.pos p).state with
  | calling => exact absurd h hc
  | ended => exact absurd h he
  | closed | idle | starting sub | fuelling | held r | ending => rfl

theorem holsterEnded_empty (h : (u.pos p).active = none) : u.holsterEnded p =
    ({ u with positions := setAt u.positions p { u.pos p with state := .idle } } : State).promote p := by
  have hp : (u.modPos p fun q => { q with state := .idle }).pos p = { u.pos p with state := .idle } := modPos_pos_self u p _
  have ht : (u.modPos p fun q => { q with state := .idle }).activeTicket p = none := by
    rw [State.activeTicket, hp, h]
    rfl
  rw [State.holsterEnded]
  dsimp only
  rw [ht]
  rfl

/-- R13 (1), R48: the holstering at an ENDED position whose ticket is ENDED. -/
theorem holsterEnded_ended {n : Nat} {i : Fin 32} {k : Ticket} (ha : (u.pos p).active = some n) (hi : u.ticketSlot n = some i)
    (hk : u.tickets.get i = some k) (he : k.state = .ended) : u.holsterEnded p =
    ({ u with
      positions := setAt u.positions p { u.pos p with state := .idle, active := none }
      tickets := setAt u.tickets i (some { k with attachment := .detached }) } : State).promote p := by
  set v := u.modPos p fun q => { q with state := .idle } with hv
  have hp : v.pos p = { u.pos p with state := .idle } := modPos_pos_self u p _
  have hva : (v.pos p).active = some n := by rw [hp]; exact ha
  have ht : v.activeTicket p = some k := by rw [State.activeTicket, hva, Option.bind_some, ticket_of_slot (s := v) hi]; exact hk
  have e : u.holsterEnded p =
      match v.activeTicket p with
      | some t => if t.state = .ended then (v.detachActive p).promote p else v
      | none => v.promote p := rfl
  rw [e, ht]
  dsimp only
  rw [if_pos he, State.detachActive, modActive_of_slot hva (u := v) hi hk]
  refine congrArg (fun x : State => x.promote p) ?_
  rw [hv]
  simp only [State.modPos, modAt, State.pos, setAt_setAt, get_setAt_self]

theorem couplingClosed_calling (h : (u.pos p).state = .calling) : u.couplingClosed p = (u.listen p).startTest p := by
  rw [State.couplingClosed, h]

theorem couplingClosed_outside (h : (u.pos p).state = .closed ∨ (u.pos p).state = .idle) : u.couplingClosed p = u := by
  rcases h with h | h <;> rw [State.couplingClosed, h]

theorem couplingClosed_else (hc : (u.pos p).state ≠ .closed) (hi : (u.pos p).state ≠ .idle) (hn : (u.pos p).state ≠ .calling) :
    u.couplingClosed p = u.listen p := by
  unfold State.couplingClosed
  cases h : (u.pos p).state with
  | closed => exact absurd h hc
  | idle => exact absurd h hi
  | calling => exact absurd h hn
  | starting sub | fuelling | held r | ending | ended => rfl

theorem startTestAll_eq (u : State) : u.startTestAll = (((u.startTest 0).startTest 1).startTest 2).startTest 3 := by
  have h : allPositions = [0, 1, 2, 3] := rfl
  rw [State.startTestAll, h, List.foldl_cons, List.foldl_cons, List.foldl_cons, List.foldl_cons, List.foldl_nil]

theorem metrologyChange_opened (u : State) : u.metrologyChange false =
    { u with
      tradeLockOpen := true
      metrologyCount := min 65535 (u.metrologyCount + 1)
      pendingFlags := u.pendingFlags ||| 0x1000000#27 } := rfl

/-- R155: the chiller fault line shows the cause, where it is no news. -/
theorem faultLineChange_stands (h : u.precool.faultLine = true ∨ u.precool.chiller = .fault) :
    u.faultLineChange true = { u with precool := { u.precool with faultLine := true } } := by
  by_cases hf : u.precool.faultLine = true
  · rw [State.faultLineChange]
    dsimp only
    rw [hf]
    rfl
  · have hc : (u.modPcl fun c => { c with faultLine := true }).precool.chiller = .fault := h.resolve_left hf
    rw [State.faultLineChange]
    dsimp only
    rw [Bool.eq_false_iff.2 hf, State.faultArises, if_pos hc]
    rfl

theorem faultLineChange_faults (hf : u.precool.faultLine = false) (hc : u.precool.chiller ≠ .fault) :
    chillerFaults { u with precool := { u.precool with faultLine := true } } (u.faultLineChange true) := by
  have hc' : (u.modPcl fun c => { c with faultLine := true }).precool.chiller ≠ .fault := hc
  rw [State.faultLineChange]
  dsimp only
  rw [hf, State.faultArises, if_neg hc']
  exact enterFault_faults (u.modPcl fun c => { c with faultLine := true })

/-- R49, R94 (4): the coupling opens. -/
theorem couplingOpened_ends (hf : (u.pos p).state.filling = true) :
    fillEnds { u with positions := setAt u.positions p { u.pos p with link := .off } } (u.couplingOpened p) p .decoupled := by
  have hp : (u.modLink p fun _ => .off).pos p = { u.pos p with link := .off } := modPos_pos_self u p _
  exact endFill_ends (s := u.modLink p fun _ => .off) _ (by rw [hp]; exact hf)

theorem couplingOpened_idle (hf : (u.pos p).state.filling = false) (hn : noGrantDue u) :
    u.couplingOpened p = { u with positions := setAt u.positions p { u.pos p with link := .off } } := by
  have hp : (u.modLink p fun _ => .off).pos p = { u.pos p with link := .off } := modPos_pos_self u p _
  exact endFill_idle (s := u.modLink p fun _ => .off) _ (by rw [hp]; exact hf) hn

end

/-- Settles O42: the debouncers, then the event of each line on the state with its debouncer settled. -/
theorem switchLinesAreDebouncedAndAct : Obligations.SwitchLinesAreDebouncedAndAct := by
  unfold Obligations.SwitchLinesAreDebouncedAndAct
  refine ⟨fun line level s => ?_, fun line s d hd => ?_⟩
  · intro x time
    obtain ⟨hsame, hback, haway⟩ := rawChange_debounces line level s
    have htime : s.debounceTime line = time := by cases line <;> rfl
    refine ⟨s.debouncers.put line (x.rawChange level (s.debounceTime line)), rfl, ?_, ?_, ?_, fun l hl => debouncers_put_ne _ hl _⟩
    · rw [debouncers_put_self]
      exact hsame
    · rw [debouncers_put_self]
      exact hback
    · rw [debouncers_put_self, ← htime]
      exact haway
  · intro level u c
    have hx : exec c s = .next (u.switchEvent line level) := by
      rw [exec_of_timeLeft (c := c) rfl hd]
      have hl := elapse_debouncer_raw s d line
      change Host.Outcome.next ((s.elapse d).debounced line) = _
      rw [State.debounced, hl]
    rw [hx]
    refine ⟨fun hl hv => ?_, fun hl hv => ?_, fun hl => ⟨fun hv => ?_, fun hv hf => ?_, fun hv hf hc => ⟨_, rfl, ?_⟩⟩, fun p =>
      ⟨fun hl hv => ⟨fun hst => ?_, fun hst => ?_⟩, fun hl hv => ⟨fun hst => ?_, fun hc he => ?_, fun hst ha => ?_,
        fun n i k hst ha hi hk he => ?_⟩, fun hl hv => ?_, fun hl hv => ?_⟩⟩
    all_goals clear_value u level; subst hl hv
    · have e : u.switchEvent .metrology true = ({ u with tradeLockOpen := false } : State).startTestAll := rfl
      rw [e, startTestAll_eq]
    · exact congrArg _ (metrologyChange_opened u)
    · rfl
    · exact congrArg _ (faultLineChange_stands hf)
    · exact faultLineChange_faults hf hc
    · exact congrArg _ (nozzleLifted_idle hst)
    · exact congrArg _ (if_neg hst)
    · exact congrArg _ (nozzleHolstered_calling hst)
    · exact congrArg _ (nozzleHolstered_else hc he)
    · exact congrArg _ ((nozzleHolstered_ended hst).trans (holsterEnded_empty ha))
    · exact congrArg _ ((nozzleHolstered_ended hst).trans (holsterEnded_ended ha hi hk he))
    · intro listening
      exact ⟨fun h => congrArg _ (couplingClosed_outside h), fun h => congrArg _ (couplingClosed_calling h),
        fun hc hi hn => congrArg _ (couplingClosed_else hc hi hn)⟩
    · intro off
      exact ⟨fun hf => ⟨_, rfl, couplingOpened_ends hf⟩, fun hf hn => congrArg _ (couplingOpened_idle hf hn)⟩

end Sys2Proof.Machine
end

section
/-! PROOFS. The emergency shutdown: the latch is set and every fill ends, and the latch is cleared (R64, R151, R174, R175). -/

namespace Sys2Proof.Machine

/-! ### The compressor under the ESD cause -/

/-- R151 (1): the compressor stands but for its wait for a credit. -/
def CompressorStands (s t : State) : Prop := t.compressor = { s.compressor with creditWait := t.compressor.creditWait }

/-- R151 (1): the ESD cause is present and the motor is off. -/
def EsdHeld (s : State) : Prop := s.compressor.esdCause = true ∧ s.compressor.state.motorOn = false

section
variable {s t u : State}

theorem CompressorStands.of_eq (h : t.compressor = s.compressor) : CompressorStands s t := by
  unfold CompressorStands
  rw [h]

theorem CompressorStands.trans (h : CompressorStands s t) (k : CompressorStands t u) : CompressorStands s u := by
  unfold CompressorStands at *
  rw [k, h]

theorem EsdHeld.of_stands (h : CompressorStands s t) (he : EsdHeld s) : EsdHeld t := by
  unfold CompressorStands at h
  unfold EsdHeld
  rw [h]
  exact he

theorem compressorStartTest_esd (he : EsdHeld s) : CompressorStands s s.compressorStartTest := by
  have hn : s.startReady = false := Bool.eq_false_iff.2 fun h => by
    obtain ⟨-, -, -, hc⟩ := startReady_iff.1 h
    rw [he.1] at hc
    cases hc
  unfold State.compressorStartTest
  rw [hn]
  split <;> exact rfl

theorem bankMayBeChosen_esd (he : EsdHeld s) : CompressorStands s s.bankMayBeChosen := by
  unfold State.bankMayBeChosen
  split
  · exact compressorStartTest_esd he
  · next h => rw [EsdHeld, h] at he; cases he.2
  all_goals exact .of_eq rfl

theorem reportLeft_esd (he : EsdHeld s) (b : Option (Fin 6)) : CompressorStands s (s.reportLeft b) := by
  unfold State.reportLeft State.reportEmptyDraw
  split
  · split
    · split
      · exact bankMayBeChosen_esd he
      · exact .of_eq rfl
    · exact .of_eq rfl
  · exact .of_eq rfl

theorem esdAtPosition_stands (he : EsdHeld s) (p : Fin 4) : CompressorStands s (s.esdAtPosition p) := by
  unfold State.esdAtPosition
  cases hf : (s.pos p).state.filling with
  | false => rw [enterEndingCore_idle hf]; exact .of_eq rfl
  | true =>
    rw [enterEndingCore_eq hf]
    exact reportLeft_esd (s := s.leaveBank p) he (s.pos p).drawBank

theorem esdAtPositions_stands (l : List (Fin 4)) (he : EsdHeld s) : CompressorStands s (l.foldl State.esdAtPosition s) := by
  induction l generalizing s with
  | nil => exact .of_eq rfl
  | cons p l ih =>
    have h := esdAtPosition_stands he p
    exact h.trans (ih (.of_stands h he))

end

/-! ### Every fill ends -/

section
variable (s : State)

theorem esdAtPosition_left (p : Fin 4) : CoolingLeft (· = p) s (s.esdAtPosition p) :=
  .of_slotMoves (enterEndingCore_fill s p .esd) (enterEndingCore_slotMoves s p .esd)

theorem esdAtPositions_grades (l : List (Fin 4)) : (l.foldl State.esdAtPosition s).precool.grades = s.precool.grades := by
  induction l generalizing s with
  | nil => rfl
  | cons p l ih => exact (ih (s.esdAtPosition p)).trans (enterEndingCore_slotMoves s p .esd).grades

/-- R64: the turn of one position in the setting of the latch; the others change before and after it. -/
theorem esdAtPositions_turn (p : Fin 4) : ∃ u, CoolingLeft (· ≠ p) s u ∧
    CoolingLeft (· ≠ p) (u.enterEndingCore p .esd) (allPositions.foldl State.esdAtPosition s) := by
  obtain ⟨before, after, h⟩ := List.append_of_mem (List.mem_finRange p)
  have hn : (before ++ p :: after).Nodup := h ▸ List.nodup_finRange 4
  rw [List.nodup_append] at hn
  obtain ⟨-, ha, hne⟩ := hn
  have hb (q : Fin 4) (hq : q ∈ before) : q ≠ p := hne q hq p List.mem_cons_self
  have hc (q : Fin 4) (hq : q ∈ after) : q ≠ p := fun e => (List.nodup_cons.1 ha).1 (e ▸ hq)
  refine ⟨before.foldl State.esdAtPosition s, (foldl_coolingLeft esdAtPosition_left before s).mono hb, ?_⟩
  have e : allPositions.foldl State.esdAtPosition s =
      after.foldl State.esdAtPosition ((before.foldl State.esdAtPosition s).enterEndingCore p .esd) := by
    have h' : allPositions = before ++ p :: after := h
    rw [h', List.foldl_append, List.foldl_cons]
    rfl
  rw [e]
  exact (foldl_coolingLeft esdAtPosition_left after _).mono hc

/-- R106: the ticket in a slot of the table after the end of a fill. -/
theorem esdAtPosition_get (p : Fin 4) (i : Fin 32) : (s.esdAtPosition p).tickets.get i =
    if (s.pos p).state.filling = true ∧ (s.pos p).active.bind s.ticketSlot = some i then
      (s.tickets.get i).map fun k => { k with endReason := some .esd }
    else s.tickets.get i := by
  unfold State.esdAtPosition
  cases hf : (s.pos p).state.filling with
  | false =>
    rw [enterEndingCore_idle hf, if_neg fun h => by cases h.1]
  | true =>
    rw [enterEndingCore_eq hf]
    refine (modActive_get s p _ i).trans ?_
    by_cases h : (s.pos p).active.bind s.ticketSlot = some i
    · rw [if_pos h, if_pos ⟨rfl, h⟩]
    · rw [if_neg h, if_neg fun hx => h hx.2]

theorem esdAtPositions_get (l : List (Fin 4)) (hl : l.Nodup) (i : Fin 32) : (l.foldl State.esdAtPosition s).tickets.get i =
    if ∃ p ∈ l, (s.pos p).state.filling = true ∧ (s.pos p).active.bind s.ticketSlot = some i then
      (s.tickets.get i).map fun k => { k with endReason := some .esd }
    else s.tickets.get i := by
  induction l generalizing s with
  | nil => rw [if_neg fun ⟨p, hp, _⟩ => List.not_mem_nil hp]; rfl
  | cons a l ih =>
    obtain ⟨ha, hl⟩ := List.nodup_cons.1 hl
    have hleft := esdAtPosition_left s a
    have hslot : (s.esdAtPosition a).ticketSlot = s.ticketSlot := funext hleft.fills.ticketSlot
    have hiff : (∃ p ∈ l, ((s.esdAtPosition a).pos p).state.filling = true ∧
        ((s.esdAtPosition a).pos p).active.bind (s.esdAtPosition a).ticketSlot = some i) ↔
        ∃ p ∈ l, (s.pos p).state.filling = true ∧ (s.pos p).active.bind s.ticketSlot = some i := by
      refine exists_congr fun p => and_congr_right fun hp => ?_
      rw [hleft.fills.pos p fun e => ha (e ▸ hp), hslot]
    rw [List.foldl_cons, ih (s.esdAtPosition a) hl, esdAtPosition_get, if_congr hiff rfl rfl]
    by_cases hh : (s.pos a).state.filling = true ∧ (s.pos a).active.bind s.ticketSlot = some i
    · have hex : ∃ p ∈ a :: l, (s.pos p).state.filling = true ∧ (s.pos p).active.bind s.ticketSlot = some i :=
        ⟨a, List.mem_cons_self, hh⟩
      rw [if_pos hh, if_pos hex]
      split
      · rw [Option.map_map]; rfl
      · rfl
    · rw [if_neg hh]
      refine if_congr ⟨fun ⟨p, hp, hx⟩ => ⟨p, List.mem_cons_of_mem a hp, hx⟩, fun ⟨p, hp, hx⟩ => ?_⟩ rfl rfl
      rcases List.mem_cons.1 hp with rfl | hp
      · exact absurd hx hh
      · exact ⟨p, hp, hx⟩

/-- R151 (1), R174: the latch is set and the compressor has stopped, before the positions act. -/
def State.latched : State := ({ s with esdLine := true, esdLatch := true } : State).esdCauseSet

theorem latched_eq : s.latched = { s with
    esdLine := true
    esdLatch := true
    compressor :=
      if s.compressor.state.motorOn then
        { s.compressor with esdCause := true, state := .stopped, activeBank := none, timer := none }
      else { s.compressor with esdCause := true } } := by
  unfold State.latched State.esdCauseSet State.stopMotor
  cases h : s.compressor.state.motorOn with
  | true => exact if_pos h
  | false => exact if_neg (Bool.eq_false_iff.1 h)

theorem latched_esdHeld : EsdHeld s.latched := by
  rw [latched_eq]
  unfold EsdHeld
  cases h : s.compressor.state.motorOn with
  | true => exact ⟨rfl, rfl⟩
  | false => exact ⟨rfl, h⟩

theorem esdLineAt_sets (hl : s.esdLine = false) (hn : s.esdLatch = false) :
    s.esdLineAt true = (allPositions.foldl State.esdAtPosition s.latched).raise .esd := by
  rw [State.esdLineAt]
  dsimp only
  rw [hl, hn]
  rfl

theorem esdLineAt_records (active : Bool) (h : active = false ∨ s.esdLine = true ∨ s.esdLatch = true) :
    s.esdLineAt active = { s with esdLine := active } := by
  rw [State.esdLineAt]
  dsimp only
  refine if_neg fun hx => ?_
  rcases h with h | h | h <;> simp [h] at hx

end

theorem takeFrame_esd (s : State) (c : Instr) :
    (s.takeFrame c).esdLatch = s.esdLatch ∧ (s.takeFrame c).esdLine = s.esdLine ∧ (s.takeFrame c).compressor = s.compressor := by
  rw [takeFrame_eq]
  exact ⟨rfl, rfl, rfl⟩

/-- Settles O39: the compressor under the cause, the turn of each position, and the tickets of the fold. -/
theorem esdLatchIsSetAndCleared : Obligations.EsdLatchIsSetAndCleared := by
  unfold Obligations.EsdLatchIsSetAndCleared
  refine ⟨⟨fun active s h => congrArg _ (esdLineAt_records s active h), fun s hl hn => ?_⟩, fun h s hs => ?_⟩
  · have hx : exec (.esdLineChange true) s = .next (s.esdLineAt true) := rfl
    rw [esdLineAt_sets s hl hn] at hx
    have hall : CoolingLeft (· ∈ allPositions) s.latched _ := foldl_coolingLeft esdAtPosition_left allPositions s.latched
    have hcomp := esdAtPositions_stands allPositions (latched_esdHeld s)
    have hget := esdAtPositions_get s.latched allPositions (List.nodup_finRange 4)
    have hturn := esdAtPositions_turn s.latched
    have hgrades := esdAtPositions_grades s.latched allPositions
    generalize allPositions.foldl State.esdAtPosition s.latched = v at hx hall hcomp hget hturn hgrades
    have hflag : (v.raise .esd).flagPending .esd = true := by rw [flagPending_raise, decide_eq_true rfl, Bool.or_true]
    have hbase : s.latched.base = { s with esdLine := true, esdLatch := true }.base := by rw [latched_eq]; rfl
    have hpcl : s.latched.precool = s.precool := by rw [latched_eq]
    have hpos (p : Fin 4) : s.latched.pos p = s.pos p := by rw [latched_eq]; rfl
    have hslot : s.latched.ticketSlot = s.ticketSlot := by rw [latched_eq]; rfl
    have htick : s.latched.tickets = s.tickets := by rw [latched_eq]
    have hheld : EsdHeld v := .of_stands hcomp (latched_esdHeld s)
    unfold CompressorStands at hcomp
    refine ⟨_, hx, hall.fills.base.trans hbase, hall.fills.banks.trans (by rw [latched_eq]), hflag, hheld.1, ?_, ?_, ?_, fun hm => ?_,
      fun hm => ?_, fun p hf => ?_, fun p hf => ?_, fun i hi => ?_, ?_, ?_, ?_⟩
    · change v.compressor.credits = _
      rw [hcomp, latched_eq]
      dsimp only
      split <;> rfl
    · change v.compressor.returns = _
      rw [hcomp, latched_eq]
      dsimp only
      split <;> rfl
    · change v.compressor.queue = _
      rw [hcomp, latched_eq]
      dsimp only
      split <;> rfl
    · change v.compressor.state = _ ∧ v.compressor.activeBank = _
      rw [hcomp, latched_eq]
      dsimp only
      rw [if_pos hm]
      exact ⟨rfl, rfl⟩
    · change v.compressor.state = _
      rw [hcomp, latched_eq]
      dsimp only
      rw [if_neg (Bool.eq_false_iff.1 hm)]
    · obtain ⟨u, hb, ha⟩ := hturn p
      have hpp : ¬p ≠ p := fun h => h rfl
      have hup : u.pos p = s.pos p := (hb.fills.pos p hpp).trans (hpos p)
      have hsite : u.site = s.site := hb.fills.site.trans (by rw [latched_eq])
      have hend : u.enterEndingCore p .esd = fillEnded u p .esd := enterEndingCore_eq (by rw [hup]; exact hf) .esd
      rw [hend] at ha
      refine ⟨?_, ?_, ?_, ?_, fun hq => ?_, fun n i k hact hi hk => ?_⟩
      · refine (ha.fills.pos p hpp).trans ?_
        rw [fillEnded_pos_self, hup, hsite]
      · exact (ha.fills.waiting p hpp).trans ((PosSet.has_put _ _ _ _).trans (if_pos rfl))
      · refine Bool.eq_false_iff.2 fun hx => ?_
        have h : (fillEnded u p .esd).precool.holders.has p = true := ha.shrinks p hx
        have h' : (fillEnded u p .esd).precool.holders.has p = false := (PosSet.has_put _ _ _ _).trans (if_pos rfl)
        rw [h'] at h
        cases h
      · exact (ha.fills.fallback p hpp).trans (get_setAt_self _ _ _)
      · intro hm
        have hun : u.precool.waitQueue.Nodup := hb.leaves.nodup (by rw [hpcl]; exact hq)
        exact hun.not_mem_erase (ha.leaves.subset hm)
      · refine (hget i).trans ?_
        rw [if_pos ⟨p, List.mem_finRange p, by rw [hpos]; exact hf, by rw [hpos, hact, hslot]; exact hi⟩, htick, hk]
        rfl
    · obtain ⟨u, hb, ha⟩ := hturn p
      have hpp : ¬p ≠ p := fun h => h rfl
      have hup : u.pos p = s.pos p := (hb.fills.pos p hpp).trans (hpos p)
      rw [enterEndingCore_idle (by rw [hup]; exact hf)] at ha
      exact (ha.fills.pos p hpp).trans hup
    · refine (hget i).trans ?_
      rw [if_neg, htick]
      rintro ⟨p, -, hf, hb⟩
      rw [hpos] at hf hb
      obtain ⟨n, hact, hn⟩ := Option.bind_eq_some_iff.1 hb
      exact hi p n hf hact (hslot ▸ hn)
    · change v.precool.chiller = _
      rw [hall.rest, hpcl]
    · change v.precool.offered = _
      rw [hall.rest, hpcl]
    · exact hgrades.trans (by rw [hpcl])
  · intro c
    have hc : exec c s = execClearEsd h s := rfl
    obtain ⟨hlatch, hline, hcmp⟩ := takeFrame_esd s c
    rw [hc, execClearEsd]
    simp only [stationOnly_station hs]
    refine ⟨fun hl => answer_acceptWith (payload := []) ?_, fun hl hn => answer_refuse ?_, fun hl hn => ?_⟩
    · rw [State.clearEsd, hlatch, hl]
      rfl
    · rw [State.clearEsd, hlatch, hline, hl, hn]
      rfl
    · have hbody : (s.takeFrame c).clearEsd = accept (s.takeFrame c).clearEsdLatch := by
        rw [State.clearEsd, hlatch, hline, hl, hn]
        rfl
      rw [answer_accept hbody, State.clearEsdLatch, startTestAll_eq, ← hcmp]
      rfl

end Sys2Proof.Machine
end

section
/-! PROOFS. A bank that is isolated takes no part: no position joins its draw set, and it does not become ACTIVE (R128, R132,
R141). -/

namespace Sys2Proof.Machine

/-- R128, R132, R141: the refill queue and the banks stand, no position joins the draw set of a bank, and the bank, when it is not
queued, does not become ACTIVE. -/
structure BankOut (b : Fin 6) (s t : State) : Prop where
  queue : t.compressor.queue = s.compressor.queue
  active : b ∉ s.compressor.queue → s.compressor.activeBank ≠ some b → t.compressor.activeBank ≠ some b
  draws : ∀ q, (t.pos q).drawBank = some b → (s.pos q).drawBank = some b
  banks : t.banks = s.banks

namespace BankOut
variable {b : Fin 6} {s t u : State}

theorem refl (s : State) : BankOut b s s := ⟨rfl, fun _ h => h, fun _ h => h, rfl⟩

theorem trans (h : BankOut b s t) (k : BankOut b t u) : BankOut b s u where
  queue := k.queue.trans h.queue
  active hq ha := k.active (h.queue ▸ hq) (h.active hq ha)
  draws q hq := h.draws q (k.draws q hq)
  banks := k.banks.trans h.banks

/-- An event that leaves the compressor as another one does. -/
theorem of_compressor (h : BankOut b s u) (hc : t.compressor = u.compressor)
    (hd : ∀ q, (t.pos q).drawBank = some b → (s.pos q).drawBank = some b) (hb : t.banks = s.banks) : BankOut b s t where
  queue := by rw [hc]; exact h.queue
  active hq ha := by rw [hc]; exact h.active hq ha
  draws := hd
  banks := hb

theorem of_eq (hc : t.compressor = s.compressor) (hd : ∀ q, (t.pos q).drawBank = some b → (s.pos q).drawBank = some b)
    (hb : t.banks = s.banks) : BankOut b s t := (refl s).of_compressor hc hd hb

end BankOut

section
variable {b : Fin 6} {s t : State}

/-- An operation of the compressor moves no position and no bank. -/
theorem CompressorOnly.bankOut (h : CompressorOnly s t) (hq : t.compressor.queue = s.compressor.queue)
    (ha : b ∉ s.compressor.queue → s.compressor.activeBank ≠ some b → t.compressor.activeBank ≠ some b) : BankOut b s t := by
  unfold CompressorOnly at h
  refine ⟨hq, ha, fun q => ?_, ?_⟩ <;> rw [h]
  exact id

theorem nextRefill_queue {leave : Option (Fin 6)} (h : nextRefill s t leave) : t.compressor.queue = s.compressor.queue := by
  cases hc : s.choosable leave with
  | none => rw [h.2 (choosable_eq_none.1 hc)]
  | some x => rw [h.1 x (choosable_eq_some.1 hc)]; rfl

theorem nextRefill_notQueued {leave : Option (Fin 6)} (h : nextRefill s t leave) (hb : b ∉ s.compressor.queue) :
    t.compressor.activeBank ≠ some b := by
  cases hc : s.choosable leave with
  | none =>
    rw [h.2 (choosable_eq_none.1 hc)]
    exact fun h => by cases h
  | some x =>
    have hx := choosable_eq_some.1 hc
    rw [h.1 x hx]
    obtain ⟨before, after, hq, -⟩ := hx
    rintro e
    obtain rfl : x = b := Option.some.inj e
    exact hb (hq ▸ List.mem_append_right _ List.mem_cons_self)

theorem compressorStartTest_out (s : State) : BankOut b s s.compressorStartTest := by
  refine (compressorStartTest_only s).bankOut ?_ fun _ ha => ?_
  · unfold State.compressorStartTest State.waitForCredit
    repeat' split
    all_goals rfl
  · rwa [compressorStartTest_active]

theorem bankMayBeChosen_out (s : State) : BankOut b s s.bankMayBeChosen := by
  obtain ⟨hstop, hunl, helse⟩ := bankMayBeChosen_taken s
  by_cases hs : s.compressor.state = .stopped
  · rw [hstop hs]
    exact compressorStartTest_out s
  by_cases hu : s.compressor.state = .unloaded
  · cases hc : s.choosable none with
    | none =>
      rw [(hunl hu).2 (choosable_eq_none.1 hc)]
      exact .refl s
    | some x =>
      have hx := choosable_eq_some.1 hc
      rw [(hunl hu).1 x hx]
      refine ⟨rfl, fun hq _ e => hq ?_, fun _ => id, rfl⟩
      obtain rfl : x = b := Option.some.inj e
      obtain ⟨before, after, hq, -⟩ := hx
      exact hq ▸ List.mem_append_right _ List.mem_cons_self
  · rw [helse hs hu]
    exact .refl s

theorem reportLeft_out (s : State) (a : Option (Fin 6)) : BankOut b s (s.reportLeft a) := by
  unfold State.reportLeft State.reportEmptyDraw
  repeat' split
  all_goals first | exact bankMayBeChosen_out s | exact .refl s

theorem suspendForDraw_out (s : State) (a : Fin 6) : BankOut b s (s.suspendForDraw a) := by
  obtain ⟨hsame, hnext⟩ := suspendForDraw_suspends s a
  by_cases ha : s.compressor.activeBank = some a
  · have hqueue := nextRefill_queue (hnext ha)
    have hactive := nextRefill_notQueued (b := b) (hnext ha)
    exact (suspendForDraw_only s a).bankOut hqueue fun hq _ => hactive hq
  · rw [hsame ha]
    exact .refl s

/-! ### The events of a fill -/

variable {p : Fin 4}

theorem modPos_out (s : State) (f : Position → Position) (hf : (f (s.pos p)).drawBank = some b → (s.pos p).drawBank = some b) :
    BankOut b s (s.modPos p f) := by
  refine .of_eq rfl (fun q => ?_) rfl
  rw [modPos_pos]
  split
  · next h => subst h; exact hf
  · exact id

theorem releaseDraw_out (s : State) : BankOut b s (s.releaseDraw p) :=
  (modPos_out s (fun q => { q with drawBank := none }) fun h => by cases h).trans (reportLeft_out _ _)

theorem fillEnded_out (s : State) (r : EndReason) : BankOut b s (fillEnded s p r) := by
  refine (releaseDraw_out (p := p) s).of_compressor rfl (fun q hq => ?_) rfl
  by_cases e : q = p
  · subst e
    rw [fillEnded_pos_self] at hq
    cases hq
  · rwa [fillEnded_pos_ne s p r e] at hq

theorem enterEndingCore_out (s : State) (r : EndReason) : BankOut b s (s.enterEndingCore p r) := by
  by_cases h : (s.pos p).state.filling = true
  · rw [enterEndingCore_eq h]
    exact fillEnded_out s r
  · rw [enterEndingCore_idle (Bool.eq_false_iff.2 h)]
    exact .refl s

theorem fillHolds_out {fs : FactorSet} (h : fillHolds s t p fs) : BankOut b s t := by
  have hp := fillHolds_pos h
  have hne (q : Fin 4) (hq : q ≠ p) := fillHolds_pos_ne h hq
  unfold fillHolds at h
  refine (releaseDraw_out (p := p) s).of_compressor (by rw [h]; rfl) (fun q hq => ?_) (by rw [h])
  by_cases e : q = p
  · subst e
    rw [hp] at hq
    cases hq
  · rwa [hne q e] at hq

theorem startWithoutBank_out (s : State) : BankOut b s (s.startWithoutBank p) := by
  unfold State.startWithoutBank
  split
  · exact enterEndingCore_out s _
  · exact (fillHolds_out (putFactor_enterHeld_eq s p .bankLow)).trans (.of_eq rfl (fun _ => id) rfl)

theorem enterFuelling_out (s : State) {a : Fin 6} (ha : a ≠ b) : BankOut b s (s.enterFuelling p a) := by
  rw [enterFuelling_eq]
  refine (suspendForDraw_out s a).of_compressor rfl (fun q hq => ?_) rfl
  by_cases e : q = p
  · subst e
    exact absurd (Option.some.inj ((congrArg Position.drawBank (get_setAt_self s.positions q _)).symm.trans hq)) ha
  · exact (congrArg Position.drawBank (get_setAt_ne s.positions _ e)).symm.trans hq

/-- R128: an isolated bank is not selected. -/
theorem selectedBank_ne (hi : (s.bank b).isolated = true) {a : Fin 6} {l : Option (Fin 6)} (h : s.selectedBank p l = some a) :
    a ≠ b := by
  rintro rfl
  have hs := selectedBank_answers s p l
  rw [h] at hs
  obtain ⟨⟨⟨-, hn⟩, -⟩, -⟩ := hs
  rw [hi] at hn
  cases hn

theorem beginFill_out (hi : (s.bank b).isolated = true) (i : Fin 16) (f : FillProfile) (x : Nat) :
    BankOut b s (s.beginFill p i f x) := by
  have hp : BankOut b s (s.profiled p i f x) := by
    refine .of_eq rfl (fun q hq => ?_) rfl
    by_cases e : q = p
    · subst e
      rwa [profiled_pos] at hq
    · exact (congrArg Position.drawBank (get_setAt_ne s.positions _ e)).symm.trans hq
  rw [beginFill_eq]
  refine hp.trans ?_
  cases (s.profiled p i f x).endingFactor p with
  | some r => exact enterEndingCore_out _ r
  | none =>
    dsimp only
    split
    · cases hb : s.selectedBank p none with
      | some a => exact enterFuelling_out _ (selectedBank_ne hi hb)
      | none => exact startWithoutBank_out _
    · exact fillHolds_out (enterHeld_eq _ p)

theorem startLookupCore_out (hi : (s.bank b).isolated = true) : BankOut b s (s.startLookupCore p) := by
  unfold State.startLookupCore
  dsimp only
  split
  · exact enterEndingCore_out s _
  split
  · exact enterEndingCore_out s _
  · exact beginFill_out hi _ _ _

theorem endCoolWaitCore_out (hi : (s.bank b).isolated = true) : BankOut b s (s.endCoolWaitCore p) := by
  have hm := modPos_out (b := b) (p := p) s (fun q => { q with coolWaitTimer := none }) id
  by_cases h : (s.pos p).state = .starting .coolWait
  · rw [endCoolWaitCore_at s p h]
    split
    · exact hm
    · exact hm.trans (startLookupCore_out hi)
  · rw [endCoolWaitCore_elsewhere h]
    exact .refl s

end

/-- R162: the grants of an event leave an isolated bank out. -/
theorem makeGrants_out {b : Fin 6} {s : State} (hi : (s.bank b).isolated = true) : BankOut b s s.makeGrants := by
  refine makeGrants_induction (C := fun s t => (s.bank b).isolated = true → BankOut b s t) (fun s _ _ => .refl s)
    (fun s q rest t _ _ h hi => ?_) s hi
  have hg : BankOut b s (s.grantSlot q) := .of_eq rfl (fun _ => id) rfl
  have he := hg.trans (endCoolWaitCore_out (p := q) (s := s.grantSlot q) hi)
  exact he.trans (h (by rw [State.bank, he.banks]; exact hi))

end Sys2Proof.Machine
end

section
/-! PROOFS. The isolation of a bank and the displacement of the positions that draw on it (R132). -/

namespace Sys2Proof.Machine

/-! ### Selection by what it reads -/

section
variable {s t : State} {p : Fin 4}

theorem selectedBank_congr (hb : t.base = s.base) (hk : t.banks = s.banks)
    (ha : t.compressor.activeBank = s.compressor.activeBank) (l : Option (Fin 6)) : t.selectedBank p l = s.selectedBank p l := by
  have hc : t.base.bankConfig = s.base.bankConfig := by rw [hb]
  exact selectedBank_of_eligible (s := s) (t := t) hc ha l (eligible_congr hb hk l)

/-- R129 (5): no bank is selected where none is eligible. -/
theorem selectedBank_none_iff (l : Option (Fin 6)) : s.selectedBank p l = none ↔ ∀ a, s.eligible p l a = false := by
  have h := selectedBank_answers s p l
  constructor
  · intro hn a
    rw [hn] at h
    exact Bool.eq_false_iff.2 fun he => h a ((eligible_iff s p l a).1 he)
  · intro hn
    cases hs : s.selectedBank p l with
    | none => rfl
    | some a =>
      rw [hs] at h
      exact absurd ((eligible_iff s p l a).2 h.1) (by rw [hn a]; exact Bool.false_ne_true)

end

/-! ### One position is displaced -/

section
variable {u : State} {p : Fin 4} {a : Fin 6}

/-- R132 (3): a position after it has left its bank for another: in FUELLING its counts start again. -/
def Position.movedTo (q : Position) (a : Fin 6) : Position :=
  if q.state = .fuelling then { q with drawBank := some a, ramp := { q.ramp with starved := 0, lagging := 0 } }
  else { q with drawBank := some a }

/-- R132 (3): a position that draws, in PULSE or in FUELLING. -/
def Position.drawing (q : Position) : Prop := q.state = .fuelling ∨ q.state = .starting .pulse

theorem displace_moves (hd : (u.pos p).drawing) (hs : (u.leaveBank p).selectedBank p none = some a) : u.displace p =
    { u with
      positions := setAt u.positions p ((u.pos p).movedTo a)
      compressor := ((u.leaveBank p).suspendForDraw a).compressor } := by
  have hp : (u.leaveBank p).pos p = { u.pos p with drawBank := none } := modPos_pos_self u p _
  have hj : (u.leaveBank p).joinBank p a = { u with
      positions := setAt u.positions p { u.pos p with drawBank := some a }
      compressor := ((u.leaveBank p).suspendForDraw a).compressor } := by
    rw [joinBank_congr (s := u.leaveBank p) ⟨rfl, fun _ => rfl, rfl, rfl⟩, hp]
    simp only [State.leaveBank, State.modPos, modAt, setAt_setAt]
  rcases hd with h | h
  · have hst : ((u.leaveBank p).pos p).state = .fuelling := by rw [hp]; exact h
    unfold State.displace
    dsimp only
    rw [hst]
    dsimp only
    rw [hs]
    dsimp only
    rw [State.switchTo, hj, Position.movedTo, if_pos h]
    simp only [State.modPos, modAt, setAt_setAt, get_setAt_self]
  · have hst : ((u.leaveBank p).pos p).state = .starting .pulse := by rw [hp]; exact h
    unfold State.displace
    dsimp only
    rw [hst]
    dsimp only
    rw [hs]
    dsimp only
    rw [hj, Position.movedTo, if_neg (by rw [h]; exact fun e => by cases e)]

theorem displace_settles (h : (u.pos p).state = .starting .pulse) (hs : (u.leaveBank p).selectedBank p none = none) :
    u.displace p = (u.leaveBank p).enterSettle p := by
  have hp : (u.leaveBank p).pos p = { u.pos p with drawBank := none } := modPos_pos_self u p _
  have hst : ((u.leaveBank p).pos p).state = .starting .pulse := by rw [hp]; exact h
  unfold State.displace
  dsimp only
  rw [hst]
  dsimp only
  rw [hs]

theorem displace_low (h : (u.pos p).state = .fuelling) (hs : (u.leaveBank p).selectedBank p none = none) :
    u.displace p = ((u.leaveBank p).bankLowCore p).makeGrants := by
  have hp : (u.leaveBank p).pos p = { u.pos p with drawBank := none } := modPos_pos_self u p _
  have hst : ((u.leaveBank p).pos p).state = .fuelling := by rw [hp]; exact h
  unfold State.displace
  dsimp only
  rw [hst]
  dsimp only
  rw [hs]

theorem displace_leaves (h : ¬(u.pos p).drawing) : u.displace p = u.leaveBank p := by
  have hp : (u.leaveBank p).pos p = { u.pos p with drawBank := none } := modPos_pos_self u p _
  unfold State.displace
  dsimp only
  rw [hp]
  dsimp only
  cases hs : (u.pos p).state with
  | fuelling => exact absurd (.inl hs) h
  | starting sub =>
    cases sub with
    | pulse => exact absurd (.inr hs) h
    | settle | leakCheck | coolWait => rfl
  | closed | idle | calling | held r | ending | ended => rfl

/-- R132 (3): the cases of a displacement. -/
theorem displace_cases (u : State) (p : Fin 4) :
    (¬(u.pos p).drawing ∧ u.displace p = u.leaveBank p) ∨
    (∃ a, (u.pos p).drawing ∧ (u.leaveBank p).selectedBank p none = some a ∧ u.displace p = { u with
      positions := setAt u.positions p ((u.pos p).movedTo a)
      compressor := ((u.leaveBank p).suspendForDraw a).compressor }) ∨
    ((u.pos p).state = .starting .pulse ∧ (u.leaveBank p).selectedBank p none = none ∧
      u.displace p = (u.leaveBank p).enterSettle p) ∨
    ((u.pos p).state = .fuelling ∧ (u.leaveBank p).selectedBank p none = none ∧
      u.displace p = ((u.leaveBank p).bankLowCore p).makeGrants) := by
  by_cases hd : (u.pos p).drawing
  · right
    cases hs : (u.leaveBank p).selectedBank p none with
    | some a => exact .inl ⟨a, hd, rfl, displace_moves hd hs⟩
    | none =>
      rcases hd with h | h
      · exact .inr (.inr ⟨h, rfl, displace_low h hs⟩)
      · exact .inr (.inl ⟨h, rfl, displace_settles h hs⟩)
  · exact .inl ⟨hd, displace_leaves hd⟩

theorem movedTo_fields (q : Position) (a : Fin 6) : (q.movedTo a).drawBank = some a ∧ (q.movedTo a).state = q.state ∧
    (q.movedTo a).active = q.active ∧ (q.movedTo a).staged = q.staged := by
  unfold Position.movedTo
  split <;> exact ⟨rfl, rfl, rfl, rfl⟩

/-- R132 (3), R162: a displacement moves its position, and with the grants those in COOL_WAIT. -/
theorem displace_fills (u : State) (p : Fin 4) :
    FillsOnly (fun q => q = p ∨ (u.pos q).state = .starting .coolWait) u (u.displace p) := by
  have hl := leaveBank_fill u p
  rcases displace_cases u p with ⟨-, e⟩ | ⟨a, -, -, e⟩ | ⟨-, -, e⟩ | ⟨hst, -, e⟩ <;> rw [e]
  · exact hl.mono fun _ => .inl
  · have hm := modPos_fill u p (fun q => q.movedTo a) ⟨(movedTo_fields _ a).2.2.1, (movedTo_fields _ a).2.2.2⟩
    exact FillsOnly.mono (fun _ => .inl) ⟨hm.base, hm.banks, hm.pos, hm.slots, hm.waiting, hm.fallback, hm.numbers, hm.tickets, hm.flags⟩
  · exact (hl.trans (enterSettle_fill _ p)).mono fun _ => .inl
  · have hb := hl.trans (bankLowCore_fill (u.leaveBank p) p)
    refine (hb.mono fun _ => .inl).trans ((makeGrants_fills _).mono fun q hq => ?_)
    by_cases hqp : q = p
    · exact .inl hqp
    · exact .inr (by rwa [hb.pos q hqp] at hq)

end

end Sys2Proof.Machine
end

section
/-! PROOFS. The isolation of a bank: every position of its draw set is displaced, each in its turn (R132). -/

namespace Sys2Proof.Machine

section
variable {s u : State} {p : Fin 4} {b : Fin 6}

theorem leaveBank_out (u : State) (p : Fin 4) : BankOut b u (u.leaveBank p) :=
  modPos_out u (fun q => { q with drawBank := none }) fun h => by cases h

theorem activateCore_out (u : State) (f : Factor) : BankOut b u (u.activateCore p f) := by
  rcases activateCore_cases u p f with e | ⟨-, ⟨sub, -, e⟩ | ⟨r, -, e⟩ | ⟨-, -, e⟩ | ⟨-, e⟩⟩ <;> rw [e]
  · exact .refl u
  · exact modPos_out u _ id
  · exact enterEndingCore_out u r
  · exact fillHolds_out (putFactor_enterHeld_eq u p f)
  · exact modPos_out u _ id

theorem bankLowCore_out (u : State) : BankOut b u (u.bankLowCore p) := by
  unfold State.bankLowCore
  dsimp only
  split
  · exact (activateCore_out u .bankLow).trans (.of_eq rfl (fun _ => id) rfl)
  · exact activateCore_out u .bankLow

/-- R132: a displacement from an isolated bank leaves the bank out. -/
theorem displace_out (hi : (u.bank b).isolated = true) : BankOut b u (u.displace p) := by
  have hl := leaveBank_out (b := b) u p
  rcases displace_cases u p with ⟨-, e⟩ | ⟨a, -, hs, e⟩ | ⟨-, -, e⟩ | ⟨-, -, e⟩ <;> rw [e]
  · exact hl
  · have hne : a ≠ b := selectedBank_ne (s := u.leaveBank p) hi hs
    refine (hl.trans (suspendForDraw_out _ a)).of_compressor rfl (fun q hq => ?_) rfl
    by_cases hqp : q = p
    · subst hqp
      have h := (congrArg Position.drawBank (get_setAt_self u.positions q ((u.pos q).movedTo a))).symm.trans hq
      rw [(movedTo_fields _ a).1] at h
      exact absurd (Option.some.inj h) hne
    · exact (congrArg Position.drawBank (get_setAt_ne u.positions _ hqp)).symm.trans hq
  · unfold State.enterSettle
    exact hl.trans (((modPos_out _ _ id).trans (releaseDraw_out _)).trans (modPos_out _ _ id))
  · have hb := hl.trans (bankLowCore_out (p := p) (u.leaveBank p))
    exact hb.trans (makeGrants_out (by rw [State.bank, hb.banks]; exact hi))

/-- R52, R132: a displaced position that did not wait in COOL_WAIT does not wait there afterwards. -/
theorem bankLowCore_notWaiting (h : (u.pos p).state = .fuelling) : ((u.bankLowCore p).pos p).state ≠ .starting .coolWait := by
  have hm : ((u.bankLowCore p).pos p) = ((u.activateCore p .bankLow).pos p) := by
    unfold State.bankLowCore
    dsimp only
    split <;> rfl
  rw [hm]
  rcases activateCore_cases u p .bankLow with e | ⟨-, ⟨sub, hst, -⟩ | ⟨r, hf, e⟩ | ⟨-, -, e⟩ | ⟨hst, -⟩⟩
  · rw [e, h]
    exact fun e => by cases e
  · rw [h] at hst
    cases hst
  · rw [e, enterEndingCore_eq hf, fillEnded_pos_self]
    exact fun e => by cases e
  · rw [e, fillHolds_pos (putFactor_enterHeld_eq u p .bankLow)]
    exact fun e => by cases e
  · rw [h] at hst
    cases hst

theorem leaveBank_state (u : State) (p : Fin 4) : ((u.leaveBank p).pos p).state = (u.pos p).state :=
  (congrArg Position.state (leaveBank_pos u p)).trans rfl

theorem displace_notWaiting (h : (u.pos p).state ≠ .starting .coolWait) : ((u.displace p).pos p).state ≠ .starting .coolWait := by
  rcases displace_cases u p with ⟨-, e⟩ | ⟨a, -, -, e⟩ | ⟨-, -, e⟩ | ⟨hst, -, e⟩ <;> rw [e]
  · rwa [leaveBank_state]
  · have e : (({ u with positions := setAt u.positions p ((u.pos p).movedTo a)
                        compressor := ((u.leaveBank p).suspendForDraw a).compressor } : State).pos p) = (u.pos p).movedTo a :=
      get_setAt_self _ _ _
    rwa [e, (movedTo_fields _ a).2.1]
  · rw [enterSettle_eq]
    exact fun e => by cases (congrArg Position.state (get_setAt_self (u.leaveBank p).positions p _)).symm.trans e
  · have hne := bankLowCore_notWaiting (u := u.leaveBank p) (p := p) (by rw [leaveBank_state]; exact hst)
    rwa [(makeGrants_fills _).pos p hne]

/-- R132: a displaced position draws on the bank no more. -/
theorem displace_undrawn (hi : (u.bank b).isolated = true) : ((u.displace p).pos p).drawBank ≠ some b := by
  have hl : ((u.leaveBank p).pos p).drawBank = none := congrArg Position.drawBank (leaveBank_pos u p)
  rcases displace_cases u p with ⟨-, e⟩ | ⟨a, -, hs, e⟩ | ⟨-, -, e⟩ | ⟨-, -, e⟩ <;> rw [e]
  · rw [hl]
    exact fun h => by cases h
  · have hne : a ≠ b := selectedBank_ne (s := u.leaveBank p) hi hs
    have e : (({ u with positions := setAt u.positions p ((u.pos p).movedTo a)
                        compressor := ((u.leaveBank p).suspendForDraw a).compressor } : State).pos p) = (u.pos p).movedTo a :=
      get_setAt_self _ _ _
    rw [e, (movedTo_fields _ a).1]
    exact fun h => hne (Option.some.inj h)
  · rw [enterSettle_eq]
    exact fun e => by cases (congrArg Position.drawBank (get_setAt_self (u.leaveBank p).positions p _)).symm.trans e
  · have hb := bankLowCore_out (b := b) (p := p) (u.leaveBank p)
    have hg := hb.trans (makeGrants_out (s := (u.leaveBank p).bankLowCore p) (by rw [State.bank, hb.banks]; exact hi))
    intro h
    rw [hg.draws p h] at hl
    cases hl

/-! ### The draw set, position by position -/

/-- R132 (3): the turn of one position. -/
def State.displaceTurn (b : Fin 6) (s : State) (p : Fin 4) : State := if s.inDrawSet b p then s.displace p else s

theorem displaceTurn_in (h : (s.pos p).drawBank = some b) : s.displaceTurn b p = s.displace p := if_pos (beq_iff_eq.2 h)

theorem displaceTurn_out (h : (s.pos p).drawBank ≠ some b) : s.displaceTurn b p = s := if_neg fun hx => h (beq_iff_eq.1 hx)

theorem displaceTurn_bankOut (hi : (s.bank b).isolated = true) (p : Fin 4) : BankOut b s (s.displaceTurn b p) := by
  unfold State.displaceTurn
  split
  · exact displace_out hi
  · exact .refl s

theorem displaceTurns_bankOut (l : List (Fin 4)) (hi : (s.bank b).isolated = true) :
    BankOut b s (l.foldl (State.displaceTurn b) s) := by
  induction l generalizing s with
  | nil => exact .refl s
  | cons a l ih =>
    have h := displaceTurn_bankOut hi a
    exact h.trans (ih (by rw [State.bank, h.banks]; exact hi))

/-- R132 (3), R162: the turns of the others leave a position alone that does not wait in COOL_WAIT. -/
theorem displaceTurns_others (l : List (Fin 4)) (hp : p ∉ l) (hw : (s.pos p).state ≠ .starting .coolWait) :
    FillsOnly (· ≠ p) s (l.foldl (State.displaceTurn b) s) := by
  induction l generalizing s with
  | nil => exact .refl _ s
  | cons a l ih =>
    have hpa : p ≠ a := fun e => hp (e ▸ List.mem_cons_self)
    have h : FillsOnly (· ≠ p) s (s.displaceTurn b a) := by
      unfold State.displaceTurn
      split
      · refine (displace_fills s a).mono fun q hq e => ?_
        rcases hq with hq | hq
        · exact hpa (e.symm.trans hq)
        · exact hw (e ▸ hq)
      · exact .refl _ s
    refine h.trans (ih (fun hm => hp (List.mem_cons_of_mem a hm)) ?_)
    rwa [h.pos p fun e => e rfl]

/-- R132 (3): the turn of one position within the turns of all. -/
theorem displaceAll_turn (hi : (s.bank b).isolated = true) (p : Fin 4) : ∃ u,
    BankOut b s u ∧ BankOut b (u.displaceTurn b p) (s.displaceAll b) ∧
    ((s.pos p).state ≠ .starting .coolWait →
      FillsOnly (· ≠ p) s u ∧ FillsOnly (· ≠ p) (u.displaceTurn b p) (s.displaceAll b)) := by
  obtain ⟨before, after, h⟩ := List.append_of_mem (List.mem_finRange p)
  have hn : (before ++ p :: after).Nodup := h ▸ List.nodup_finRange 4
  rw [List.nodup_append] at hn
  obtain ⟨-, ha, hne⟩ := hn
  have hb : p ∉ before := fun hm => hne p hm p List.mem_cons_self rfl
  have hc : p ∉ after := (List.nodup_cons.1 ha).1
  set u := before.foldl (State.displaceTurn b) s with hu
  have hout : BankOut b s u := displaceTurns_bankOut before hi
  have hiu : (u.bank b).isolated = true := by rw [State.bank, hout.banks]; exact hi
  have hturn := displaceTurn_bankOut hiu p
  have e : s.displaceAll b = after.foldl (State.displaceTurn b) (u.displaceTurn b p) := by
    have h' : allPositions = before ++ p :: after := h
    have hx : s.displaceAll b = allPositions.foldl (State.displaceTurn b) s := rfl
    rw [hx, h', List.foldl_append, List.foldl_cons]
  refine ⟨u, hout, ?_, fun hw => ?_⟩
  · rw [e]
    exact displaceTurns_bankOut after (by rw [State.bank, hturn.banks]; exact hiu)
  · have hbefore : FillsOnly (· ≠ p) s u := displaceTurns_others before hb hw
    have hup : u.pos p = s.pos p := hbefore.pos p fun e => e rfl
    refine ⟨hbefore, ?_⟩
    rw [e]
    refine displaceTurns_others after hc ?_
    unfold State.displaceTurn
    split
    · exact displace_notWaiting (by rw [hup]; exact hw)
    · rwa [hup]

theorem displaceAll_bankOut (hi : (s.bank b).isolated = true) : BankOut b s (s.displaceAll b) :=
  displaceTurns_bankOut allPositions hi

theorem displaceAll_undrawn (hi : (s.bank b).isolated = true) (p : Fin 4) : ((s.displaceAll b).pos p).drawBank ≠ some b := by
  obtain ⟨u, hb, ha, -⟩ := displaceAll_turn hi p
  intro h
  have hd := ha.draws p h
  by_cases hx : (u.pos p).drawBank = some b
  · rw [displaceTurn_in hx] at hd
    exact displace_undrawn (by rw [State.bank, hb.banks]; exact hi) hd
  · rw [displaceTurn_out hx] at hd
    exact hx hd

theorem displaceTurns_none (l : List (Fin 4)) (h : ∀ p ∈ l, (s.pos p).drawBank ≠ some b) : l.foldl (State.displaceTurn b) s = s := by
  induction l with
  | nil => rfl
  | cons a l ih =>
    rw [List.foldl_cons, displaceTurn_out (h a List.mem_cons_self)]
    exact ih fun p hp => h p (List.mem_cons_of_mem a hp)

theorem displaceAll_none (h : ∀ p, (s.pos p).drawBank ≠ some b) : s.displaceAll b = s :=
  displaceTurns_none allPositions fun p _ => h p

/-- R132 (3): the only position of a draw set. -/
theorem displaceAll_alone (hi : (s.bank b).isolated = true) (hd : (s.pos p).drawBank = some b)
    (ho : ∀ o, o ≠ p → (s.pos o).drawBank ≠ some b) : s.displaceAll b = s.displace p := by
  obtain ⟨before, after, h⟩ := List.append_of_mem (List.mem_finRange p)
  have hn : (before ++ p :: after).Nodup := h ▸ List.nodup_finRange 4
  rw [List.nodup_append] at hn
  obtain ⟨-, ha, hne⟩ := hn
  have h' : allPositions = before ++ p :: after := h
  have hx : s.displaceAll b = allPositions.foldl (State.displaceTurn b) s := rfl
  have hout := displace_out (p := p) hi
  rw [hx, h', List.foldl_append, displaceTurns_none before fun q hq => ho q (hne q hq p List.mem_cons_self), List.foldl_cons,
    displaceTurn_in hd]
  refine displaceTurns_none after fun q hq hdraw => ho q (fun e => (List.nodup_cons.1 ha).1 (e ▸ hq)) (hout.draws q hdraw)

end

end Sys2Proof.Machine
end

section
/-! PROOFS. What the isolation of a bank does, whole (R132, R140). -/

namespace Sys2Proof.Machine

section
variable {s u : State} {p : Fin 4} {b : Fin 6}

/-! ### The bank leaves the refill queue -/

theorem chooseNext_pendingFlags (s : State) (l : Option (Fin 6)) : (s.chooseNext l).pendingFlags = s.pendingFlags := by
  unfold State.chooseNext
  split <;> rfl

theorem removeBank_eq (s : State) (b : Fin 6) : s.removeBank b = { s with compressor := (s.removeBank b).compressor } := by
  unfold State.removeBank
  dsimp only
  split
  · have h := chooseNext_only ((s.modCmp fun c => { c with queue := c.queue.erase b }).modCmp fun c => { c with activeBank := none }) none
    unfold CompressorOnly at h
    rw [chooseNext_pendingFlags] at h
    exact h
  · rfl

theorem SamePlant.removeBank {s t : State} (h : SamePlant s t) (b : Fin 6) :
    (t.removeBank b).compressor = (s.removeBank b).compressor := by
  unfold State.removeBank
  dsimp only
  rw [h.1]
  split
  · exact (SamePlant.chooseNext (s := (s.modCmp _).modCmp _) (t := (t.modCmp _).modCmp _)
      ⟨by simp [h.1], h.2.1, h.2.2⟩ none).1
  · simp [h.1]

/-- R132: a READY bank is ISOLATED and out of the refill queue; its draw set stands yet. -/
def State.shutOff (s : State) (b : Fin 6) : State :=
  { s with
    banks := setAt s.banks b { s.bank b with isolated := true }
    compressor := (s.removeBank b).compressor }

theorem isolate_eq (h : (s.bank b).isolated = false) : s.isolate b = ((s.shutOff b).displaceAll b).raise .bankIsolated := by
  have e : (s.modBank b fun x => { x with isolated := true }).removeBank b = s.shutOff b := by
    have hp : SamePlant s (s.modBank b fun x => { x with isolated := true }) := ⟨rfl, fun _ => rfl, rfl, rfl⟩
    rw [removeBank_eq, hp.removeBank b]
    rfl
  rw [State.isolate, if_neg (by rw [h]; exact Bool.false_ne_true), e]

theorem isolate_again (h : (s.bank b).isolated = true) : s.isolate b = s := if_pos h

theorem shutOff_isolated (s : State) (b : Fin 6) : ((s.shutOff b).bank b).isolated = true :=
  congrArg Bank.isolated (get_setAt_self s.banks b _)

theorem removeBank_queue (s : State) (b : Fin 6) : (s.removeBank b).compressor.queue = s.compressor.queue.erase b := by
  obtain ⟨hother, hactive⟩ := removeBank_dequeued s b
  by_cases h : s.compressor.activeBank = some b
  · exact nextRefill_queue (hactive h)
  · rw [hother h]

theorem removeBank_active (hn : s.compressor.queue.Nodup) : (s.removeBank b).compressor.activeBank ≠ some b := by
  obtain ⟨hother, hactive⟩ := removeBank_dequeued s b
  by_cases h : s.compressor.activeBank = some b
  · exact nextRefill_notQueued (hactive h) hn.not_mem_erase
  · rw [hother h]
    exact h

/-- R132: the state in which a position that drew alone on the bank asks for another. -/
def State.leftAlone (s : State) (p : Fin 4) (b : Fin 6) : State :=
  { s with
    banks := setAt s.banks b { s.bank b with isolated := true }
    positions := setAt s.positions p { s.pos p with drawBank := none }
    compressor := { s.compressor with queue := s.compressor.queue.erase b } }

theorem shutOff_leaveBank (h : s.compressor.activeBank ≠ some b) : (s.shutOff b).leaveBank p = s.leftAlone p b := by
  have hc : (s.removeBank b).compressor = { s.compressor with queue := s.compressor.queue.erase b } := by
    rw [(removeBank_dequeued s b).1 h]
  rw [State.shutOff, hc]
  rfl

/-! ### BANK_LOW of a displaced position -/

/-- R131 (3), (4): a displaced position in FUELLING with no bank left ends its fill. -/
theorem leaveBank_low_ends (hst : (u.pos p).state = .fuelling) (hl : (u.pos p).factors.bankLow = false)
    (hd : (u.cfg p).bankLow = .endFill) : (u.leaveBank p).bankLowCore p = fillEnded (u.leaveBank p) p .bankLow := by
  have hp := leaveBank_pos u p
  exact bankLowCore_ends (by rw [hp]; exact hl) (.inl (by rw [hp]; exact hst)) (endingReason_bankLow_ends hd)

theorem leaveBank_low_holds (hst : (u.pos p).state = .fuelling) (hl : (u.pos p).factors.bankLow = false)
    (hd : (u.cfg p).bankLow = .holdFill) : ∃ v, fillHolds (u.leaveBank p) v p { (u.pos p).factors with bankLow := true } ∧
      (u.leaveBank p).bankLowCore p = v.setWaiting p true := by
  have hp := leaveBank_pos u p
  have h := bankLowCore_holds (s := u.leaveBank p) (p := p) (by rw [hp]; exact hl) (by rw [hp]; exact hst)
    (endingReason_bankLow_holds hd)
  rwa [hp] at h

/-- R52, R131, R132: what a displacement makes of a position and of its ticket when no bank is left. -/
theorem displace_low_ended (hst : (u.pos p).state = .fuelling) (hl : (u.pos p).factors.bankLow = false)
    (hs : (u.leaveBank p).selectedBank p none = none) (hd : (u.cfg p).bankLow = .endFill) :
    (u.displace p).pos p = endedPosition (u.pos p) (u.site.ventTime * 1000) ∧
      ticketBecomes u (u.displace p) p fun k => { k with endReason := some .bankLow } := by
  have hp := leaveBank_pos u p
  rw [displace_low hst hs, leaveBank_low_ends hst hl hd]
  obtain ⟨-, hpos, -, -, -, -, -, -, htick, -⟩ := fillEnded_ends (u.leaveBank p) p .bankLow
  refine ⟨?_, ?_⟩
  · rw [hpos, hp]
    rfl
  · intro n i k ha hi hk hn
    refine htick n i k (by rw [hp]; exact ha) hi hk fun q hq => ?_
    have e : (u.leaveBank p).pos q = u.pos q := modPos_pos_ne u _ hq
    rw [e]
    exact hn q hq

theorem displace_low_held (hst : (u.pos p).state = .fuelling) (hl : (u.pos p).factors.bankLow = false)
    (hs : (u.leaveBank p).selectedBank p none = none) (hd : (u.cfg p).bankLow = .holdFill) :
    (u.displace p).pos p = heldPosition (u.pos p) { (u.pos p).factors with bankLow := true } ∧
      (u.displace p).waiting.has p = true ∧ (u.displace p).flagPending (.held p) = true := by
  have hp := leaveBank_pos u p
  obtain ⟨v, hv, e⟩ := leaveBank_low_holds hst hl hd
  have hpos := fillHolds_pos hv
  have hg := makeGrants_fills (v.setWaiting p true)
  have hne : ((v.setWaiting p true).pos p).state ≠ .starting .coolWait := by
    change (v.pos p).state ≠ _
    rw [hpos]
    exact fun e => by cases e
  rw [displace_low hst hs, e]
  refine ⟨(hg.pos p hne).trans (hpos.trans ?_), (hg.waiting p hne).trans ((PosSet.has_put _ _ _ _).trans (if_pos rfl)),
    hg.flags _ (fillHolds_flag (t := v) hv)⟩
  rw [hp]
  rfl

theorem displace_settled (hst : (u.pos p).state = .starting .pulse) (hs : (u.leaveBank p).selectedBank p none = none) :
    (u.displace p).pos p = { u.pos p with state := .starting .settle, valve := 0, drawBank := none, substateTimer := some 2000 } := by
  rw [displace_settles hst hs, enterSettle_eq]
  refine (get_setAt_self _ _ _).trans ?_
  rw [leaveBank_pos]

/-- R130: a position that has no bank reports none. -/
theorem drawReported_none (h : (u.pos p).drawBank = none) : u.drawReported p = u.leaveBank p := by
  rw [State.drawReported, h]
  rfl

/-- R132 (3): with no bank left and nothing waiting for a slot, a displacement does not touch the compressor. -/
theorem displace_low_compressor (hd : (u.pos p).drawing) (hs : (u.leaveBank p).selectedBank p none = none)
    (hw : u.precool.waitQueue = []) : (u.displace p).compressor = u.compressor := by
  have hrep : ((u.leaveBank p).drawReported p).compressor = u.compressor := by
    rw [drawReported_none (by rw [leaveBank_pos])]
    rfl
  rcases hd with hst | hst
  · have hc : ((u.leaveBank p).bankLowCore p).compressor = u.compressor := by
      have ha : ((u.leaveBank p).activateCore p .bankLow).compressor = u.compressor := by
        rcases activateCore_cases (u.leaveBank p) p .bankLow with e | ⟨-, ⟨sub, -, e⟩ | ⟨r, hf, e⟩ | ⟨-, -, e⟩ | ⟨-, e⟩⟩ <;> rw [e]
        · rfl
        · rfl
        · rw [enterEndingCore_eq hf]
          exact hrep
        · have hh := putFactor_enterHeld_eq (u.leaveBank p) p .bankLow
          unfold fillHolds at hh
          rw [hh]
          exact hrep
        · rfl
      unfold State.bankLowCore
      dsimp only
      split
      · exact ha
      · exact ha
    have hq : ((u.leaveBank p).bankLowCore p).precool.waitQueue = [] := 
      List.sublist_nil.1 (hw ▸ (bankLowCore_slotMoves (u.leaveBank p) p).leaves)
    rw [displace_low hst hs, makeGrants_of_noGrantDue (.inr hq)]
    exact hc
  · rw [displace_settles hst hs, enterSettle_eq]
    exact hrep

/-- R52, R131, R132: a position of the draw set of a bank that is isolated. -/
theorem isolate_displaces (h : (s.bank b).isolated = false) (hd : (s.pos p).drawBank = some b) :
    positionDisplaced s (s.isolate b) p b := by
  have hi := shutOff_isolated s b
  obtain ⟨u, hout, -, hfills⟩ := displaceAll_turn hi p
  have halone (hc : s.compressor.activeBank ≠ some b) (ho : ∀ o, o ≠ p → (s.pos o).drawBank ≠ some b) :
      (s.shutOff b).displaceAll b = (s.shutOff b).displace p ∧ (s.shutOff b).leaveBank p = s.leftAlone p b :=
    ⟨displaceAll_alone hi hd ho, shutOff_leaveBank hc⟩
  rw [isolate_eq h]
  generalize ht : (s.shutOff b).displaceAll b = t at *
  unfold positionDisplaced
  intro q isolated drawing moved noneLeft alone left
  have hwait (hdr : drawing) : ((s.shutOff b).pos p).state ≠ .starting .coolWait := by
    change q.state ≠ _
    rcases hdr with hst | hst <;> rw [hst] <;> exact fun e => by cases e
  -- the turn of the position: it stands as in `s` before it, and what it has become stands afterwards
  have hturn (hdr : drawing) : FillsOnly (· ≠ p) (s.shutOff b) u ∧ FillsOnly (· ≠ p) (u.displace p) t ∧ u.pos p = q := by
    obtain ⟨hb, ha⟩ := hfills (hwait hdr)
    have hup : u.pos p = q := hb.pos p fun e => e rfl
    refine ⟨hb, ?_, hup⟩
    rwa [displaceTurn_in (by rw [hup]; exact hd)] at ha
  have hnone (hdr : drawing) (hn : noneLeft) : (u.leaveBank p).selectedBank p none = none := by
    obtain ⟨hb, -, -⟩ := hturn hdr
    refine (selectedBank_none_iff none).2 fun a => ?_
    rw [eligible_congr (s := isolated) (t := u.leaveBank p) hb.base hb.banks]
    exact hn a
  refine ⟨fun hdr hn => ?_, fun a hdr hal hs => ?_, fun hdr hal hn hw => ?_, fun hst hn => ?_, fun hst hl hn =>
    ⟨fun he => ⟨?_, ?_, fun hal => ?_⟩, fun he => ?_⟩⟩
  · obtain ⟨hb, ha, hup⟩ := hturn hdr
    cases hs : (u.leaveBank p).selectedBank p none with
    | none =>
      refine absurd (fun a => ?_) hn
      rw [← eligible_congr (s := isolated) (t := u.leaveBank p) hb.base hb.banks]
      exact (selectedBank_none_iff none).1 hs a
    | some a =>
      refine ⟨a, ?_, ?_⟩
      · rw [← eligible_congr (s := isolated) (t := u.leaveBank p) hb.base hb.banks]
        exact selectedBank_eligible hs
      · refine (ha.pos p fun e => e rfl).trans ?_
        rw [displace_moves (by rw [hup]; exact hdr) hs]
        refine (get_setAt_self _ _ _).trans ?_
        rw [hup]
        rfl
  · obtain ⟨hall, hleft⟩ := halone hal.1 hal.2
    have hs' : ((s.shutOff b).leaveBank p).selectedBank p none = some a := by
      rw [hleft]
      exact (selectedBank_congr (s := isolated) (t := s.leftAlone p b) rfl rfl rfl none).trans hs
    have hm := displace_moves (u := s.shutOff b) hdr hs'
    rw [hleft] at hm
    rw [hall, hm]
    exact ⟨get_setAt_self _ _ _, rfl⟩
  · obtain ⟨hall, hleft⟩ := halone hal.1 hal.2
    have hs' : ((s.shutOff b).leaveBank p).selectedBank p none = none := (selectedBank_none_iff none).2 hn
    rw [hall]
    refine (displace_low_compressor (u := s.shutOff b) hdr hs' hw).trans ?_
    have hc := congrArg State.compressor hleft
    exact hc
  · obtain ⟨-, ha, hup⟩ := hturn (.inr hst)
    refine (ha.pos p fun e => e rfl).trans ?_
    rw [displace_settled (by rw [hup]; exact hst) (hnone (.inr hst) hn), hup]
  · obtain ⟨hb, ha, hup⟩ := hturn (.inl hst)
    have he' : (u.cfg p).bankLow = .endFill := by rw [hb.cfg]; exact he
    have hlow := displace_low_ended (u := u) (by rw [hup]; exact hst) (by rw [hup]; exact hl) (hnone (.inl hst) hn) he'
    refine (ha.pos p fun e => e rfl).trans (hlow.1.trans ?_)
    rw [hup, hb.site]
    rfl
  · obtain ⟨hb, ha, hup⟩ := hturn (.inl hst)
    have he' : (u.cfg p).bankLow = .endFill := by rw [hb.cfg]; exact he
    have hlow := displace_low_ended (u := u) (by rw [hup]; exact hst) (by rw [hup]; exact hl) (hnone (.inl hst) hn) he'
    exact ticketBecomes.between (s := s.shutOff b) hb (ha.trans (raise_fills t _ .bankIsolated)) (fun _ => rfl) (fun o => ((displace_fills u p).slots o).1) hlow.2
  · obtain ⟨hall, hleft⟩ := halone hal.1 hal.2
    have hs' : ((s.shutOff b).leaveBank p).selectedBank p none = none := (selectedBank_none_iff none).2 hn
    have hm : (s.shutOff b).displace p = (fillEnded left p .bankLow).makeGrants := by
      rw [displace_low (u := s.shutOff b) hst hs', leaveBank_low_ends (u := s.shutOff b) hst hl he, hleft]
      rfl
    refine ⟨_, fillEnded_ends left p .bankLow, ?_⟩
    rw [hall, hm]
    rfl
  · obtain ⟨hb, ha, hup⟩ := hturn (.inl hst)
    have he' : (u.cfg p).bankLow = .holdFill := by rw [hb.cfg]; exact he
    obtain ⟨hpos, hwt, hflag⟩ := displace_low_held (u := u) (by rw [hup]; exact hst) (by rw [hup]; exact hl) (hnone (.inl hst) hn) he'
    refine ⟨(ha.pos p fun e => e rfl).trans (hpos.trans ?_), (ha.waiting p fun e => e rfl).trans hwt,
      flagPending_raise_of _ _ _ (ha.flags _ hflag)⟩
    rw [hup]

/-- R132, R140 (2): the isolation of a READY bank, whole. -/
theorem isolate_isolates (h : (s.bank b).isolated = false) : bankIsolates s (s.isolate b) b := by
  have hi := shutOff_isolated s b
  have hall := displaceAll_bankOut hi
  have hundrawn := displaceAll_undrawn hi
  have hturns := displaceAll_turn hi
  have hnone (hd : ∀ p, (s.pos p).drawBank ≠ some b) := displaceAll_none (s := s.shutOff b) hd
  have hdisp (p : Fin 4) (hd : (s.pos p).drawBank = some b) := isolate_displaces h hd
  rw [isolate_eq h] at hdisp ⊢
  generalize (s.shutOff b).displaceAll b = t at *
  have hqueue : t.compressor.queue = s.compressor.queue.erase b := hall.queue.trans (removeBank_queue s b)
  have hisol : (t.bank b).isolated = true := by rw [State.bank, hall.banks]; exact hi
  have hflag : (t.raise .bankIsolated).flagPending .bankIsolated = true := by
    rw [flagPending_raise, decide_eq_true rfl, Bool.or_true]
  refine ⟨hisol, hflag, fun hn => ⟨?_, ?_⟩, hqueue, fun hd => ⟨s.removeBank b, removeBank_dequeued s b, ?_⟩, hundrawn, hdisp,
    fun p hd hw => ?_⟩
  · change b ∉ t.compressor.queue
    rw [hqueue]
    exact hn.not_mem_erase
  · refine hall.active ?_ (removeBank_active hn)
    change b ∉ (s.removeBank b).compressor.queue
    rw [removeBank_queue]
    exact hn.not_mem_erase
  · rw [hnone hd, removeBank_eq]
    rfl
  · obtain ⟨u, -, -, hfills⟩ := hturns p
    obtain ⟨hb, ha⟩ := hfills hw
    have hup : u.pos p = s.pos p := hb.pos p fun e => e rfl
    rw [displaceTurn_out (by rw [hup]; exact hd)] at ha
    exact (ha.pos p fun e => e rfl).trans hup

end

end Sys2Proof.Machine
end

section
/-! PROOFS. The isolation of a bank with a reply, and the reports to the waiting positions (R133, R135). -/

namespace Sys2Proof.Machine

/-! ### The reply is not read -/

section
variable (s : State) (p : Fin 4) (r : Option Reply) (b : Fin 6)

/-- R179: an operation of the compressor that reads no reply keeps the one that is there. -/
theorem replied_of_only {f : State → State} (h : CompressorOnly s (f s)) (k : CompressorOnly (s.replied r) (f (s.replied r)))
    (hp : PlantAgrees (f s) (f (s.replied r))) : f (s.replied r) = (f s).replied r := by
  unfold CompressorOnly at h k
  rw [k, hp.1, hp.2, h]
  rfl

theorem suspendForDraw_replied : (s.replied r).suspendForDraw b = (s.suspendForDraw b).replied r :=
  replied_of_only s r (f := fun s => s.suspendForDraw b) (suspendForDraw_only s b) (suspendForDraw_only _ b)
    ((replied_samePlant s r).suspendForDraw b)

theorem queueEntryTest_replied : (s.replied r).queueEntryTest b = (s.queueEntryTest b).replied r := by
  have hw : (s.replied r).wantsRefill b = s.wantsRefill b := rfl
  have he : (s.replied r).enqueueBank b = (s.enqueueBank b).replied r := rfl
  rw [State.queueEntryTest, hw, State.queueEntryTest]
  split
  · rw [State.addBank, he, State.addBank]
    exact replied_of_only (s.enqueueBank b) r (f := State.bankMayBeChosen) (bankMayBeChosen_only _) (bankMayBeChosen_only _)
      (replied_samePlant (s.enqueueBank b) r).bankMayBeChosen
  · rfl

theorem activateCore_replied (f : Factor) : (s.replied r).activateCore p f = (s.activateCore p f).replied r := by
  have hput : (s.replied r).putFactor p f true = (s.putFactor p f true).replied r := rfl
  cases hf : (s.pos p).factors.has f with
  | true => rw [activateCore_active hf, activateCore_active (s := s.replied r) hf]
  | false =>
    by_cases hst : (s.pos p).state = .fuelling ∨ (s.pos p).state.isHeld = true
    · cases hr : endingReason (s.cfg p) f with
      | some e => rw [activateCore_ends hf hst hr, activateCore_ends (s := s.replied r) hf hst hr, enterEndingCore_replied]
      | none =>
        rcases hst with hst | hst
        · rw [activateCore_holds hf hst hr, activateCore_holds (s := s.replied r) hf hst hr, hput, enterHeld_replied]
        · rw [activateCore_held hf hst hr, activateCore_held (s := s.replied r) hf hst hr]
          rfl
    · rw [not_or, Bool.not_eq_true] at hst
      cases hs : (s.pos p).state with
      | fuelling => exact absurd hs hst.1
      | held x => rw [hs] at hst; cases hst.2
      | starting sub => rw [activateCore_starting hf hs, activateCore_starting (s := s.replied r) hf hs, hput]
      | closed | idle | calling | ending | ended =>
        have ho : (s.pos p).state.filling = false := by rw [hs]; rfl
        rw [activateCore_outside ho, activateCore_outside (s := s.replied r) ho]

theorem bankLowCore_replied : (s.replied r).bankLowCore p = (s.bankLowCore p).replied r := by
  unfold State.bankLowCore
  dsimp only
  rw [activateCore_replied]
  have hp : ((s.activateCore p .bankLow).replied r).pos p = (s.activateCore p .bankLow).pos p := rfl
  rw [hp]
  split <;> rfl

theorem enterSettle_replied : (s.replied r).enterSettle p = (s.enterSettle p).replied r := by
  obtain ⟨hc, hf⟩ := drawReported_replied s p r
  rw [enterSettle_eq, enterSettle_eq, hc, hf]
  rfl

theorem displace_replied : (s.replied r).displace p = (s.displace p).replied r := by
  have hl : (s.replied r).leaveBank p = (s.leaveBank p).replied r := rfl
  rcases displace_cases s p with ⟨hd, e⟩ | ⟨a, hd, hs, e⟩ | ⟨hst, hs, e⟩ | ⟨hst, hs, e⟩ <;> rw [e]
  · rw [displace_leaves (u := s.replied r) hd]
    rfl
  · rw [displace_moves (u := s.replied r) hd (a := a) hs, hl, suspendForDraw_replied]
    rfl
  · rw [displace_settles (u := s.replied r) hst hs, hl, enterSettle_replied]
  · rw [displace_low (u := s.replied r) hst hs, hl, bankLowCore_replied, makeGrants_replied]

theorem displaceAll_replied : (s.replied r).displaceAll b = (s.displaceAll b).replied r := by
  have h (l : List (Fin 4)) (s : State) : l.foldl (State.displaceTurn b) (s.replied r) = (l.foldl (State.displaceTurn b) s).replied r := by
    induction l generalizing s with
    | nil => rfl
    | cons a l ih =>
      have ha : (s.replied r).displaceTurn b a = (s.displaceTurn b a).replied r := by
        have hi : (s.replied r).inDrawSet b a = s.inDrawSet b a := rfl
        rw [State.displaceTurn, hi, State.displaceTurn, displace_replied]
        split <;> rfl
      rw [List.foldl_cons, ha, ih, List.foldl_cons]
  exact h allPositions s

theorem isolate_replied : (s.replied r).isolate b = (s.isolate b).replied r := by
  cases h : (s.bank b).isolated with
  | true => rw [isolate_again h, isolate_again (s := s.replied r) h]
  | false =>
    have hs : (s.replied r).shutOff b = (s.shutOff b).replied r := by
      rw [State.shutOff, (replied_samePlant s r).removeBank b]
      rfl
    rw [isolate_eq h, isolate_eq (s := s.replied r) h, hs, displaceAll_replied]
    rfl

end

/-! ### The reports to the waiting positions -/

/-- R135 (2): a fold over the positions in which each changes itself alone: the turn of one of them. -/
theorem foldl_turn {f : State → Fin 4 → State} (hf : ∀ s q, FillOnly q s (f s q)) (s : State) (p : Fin 4) :
    ∃ u, FillsOnly (· ≠ p) s u ∧ FillsOnly (· ≠ p) (f u p) (allPositions.foldl f s) := by
  have hl (l : List (Fin 4)) (hp : p ∉ l) (s : State) : FillsOnly (· ≠ p) s (l.foldl f s) := by
    induction l generalizing s with
    | nil => exact .refl _ s
    | cons a l ih =>
      exact ((hf s a).mono fun q (hq : q = a) (e : q = p) => hp (by rw [← e, hq]; exact List.mem_cons_self)).trans
        (ih (fun hm => hp (List.mem_cons_of_mem a hm)) _)
  obtain ⟨before, after, h⟩ := List.append_of_mem (List.mem_finRange p)
  have hn : (before ++ p :: after).Nodup := h ▸ List.nodup_finRange 4
  rw [List.nodup_append] at hn
  obtain ⟨-, ha, hne⟩ := hn
  have h' : allPositions = before ++ p :: after := h
  refine ⟨before.foldl f s, hl before (fun hm => hne p hm p List.mem_cons_self rfl) s, ?_⟩
  rw [h', List.foldl_append, List.foldl_cons]
  exact hl after (List.nodup_cons.1 ha).1 _

section
variable {s t u : State} {p : Fin 4}

/-- R135 (2): a position is reported to: it waits for a bank, and one is eligible for it. -/
def reportedTo (s : State) (p : Fin 4) : Prop := s.waiting.has p = true ∧ ∃ a, s.eligible p none a = true

theorem reportedTo_iff : (s.waiting.has p && allBanks.any (s.eligible p none)) = true ↔ reportedTo s p := by
  rw [Bool.and_eq_true, List.any_eq_true]
  exact and_congr_right fun _ => exists_congr fun a => and_iff_right (List.mem_finRange a)

theorem reportBank_reports (h : reportedTo s p) : s.reportBank p = { s with
    waiting := s.waiting.put p false
    positions := setAt s.positions p (clearedPosition (s.cfg p) (s.pos p) .bankLow) } := by
  rw [State.reportBank, if_pos (reportedTo_iff.2 h), clearFactor_eq]
  rfl

theorem reportBank_stands (h : ¬reportedTo s p) : s.reportBank p = s := if_neg (mt reportedTo_iff.1 h)

theorem reportBank_fill (s : State) (p : Fin 4) : FillOnly p s (s.reportBank p) := by
  by_cases h : reportedTo s p
  · rw [State.reportBank, if_pos (reportedTo_iff.2 h)]
    exact (setWaiting_fill s p false).trans (clearFactor_fill _ p _)
  · rw [reportBank_stands h]
    exact .refl _ s

/-- R135 (2), (3): every waiting position for which a bank is eligible leaves the waiting set and clears BANK_LOW. -/
theorem reportWaiting_reports (s : State) : waitingReported s s.reportWaiting := by
  intro p
  obtain ⟨u, hb, ha⟩ := foldl_turn reportBank_fill s p
  have hpp : ¬p ≠ p := fun h => h rfl
  have hup := hb.pos p hpp
  have huw := hb.waiting p hpp
  have hx : s.reportWaiting = allPositions.foldl State.reportBank s := rfl
  rw [← hx] at ha
  have hrep : reportedTo u p ↔ reportedTo s p := by
    unfold reportedTo
    rw [huw]
    exact and_congr_right fun _ => exists_congr fun a => by rw [eligible_congr hb.base hb.banks]
  refine ⟨fun h => ?_, fun h => ?_⟩
  · rw [reportBank_reports (hrep.2 h)] at ha
    refine ⟨(ha.waiting p hpp).trans ((PosSet.has_put _ _ _ _).trans (if_pos rfl)), (ha.pos p hpp).trans ?_⟩
    refine (get_setAt_self _ _ _).trans ?_
    rw [hb.cfg, hup]
  · rw [reportBank_stands (mt hrep.1 h)] at ha
    exact ⟨(ha.waiting p hpp).trans huw, (ha.pos p hpp).trans hup⟩

/-- R135: the reports move positions and the waiting set alone. -/
theorem reportWaiting_eq (s : State) : s.reportWaiting = { s with
    positions := s.reportWaiting.positions
    waiting := s.reportWaiting.waiting } := by
  have h (l : List (Fin 4)) (s : State) : l.foldl State.reportBank s = { s with
      positions := (l.foldl State.reportBank s).positions
      waiting := (l.foldl State.reportBank s).waiting } := by
    induction l generalizing s with
    | nil => rfl
    | cons a l ih =>
      rw [List.foldl_cons, ih]
      by_cases hr : reportedTo s a
      · rw [reportBank_reports hr]
      · rw [reportBank_stands hr]
  exact h allPositions s

/-- R135: what the reports of one state say of another that shows the positions, the waiting set and the banks alike. -/
theorem waitingReported.congr (h : waitingReported s t) (hw : u.waiting = s.waiting) (hp : ∀ p, u.pos p = s.pos p)
    (he : ∀ p a, u.eligible p none a = s.eligible p none a) (hc : ∀ p, u.cfg p = s.cfg p) : waitingReported u t := by
  intro p
  have hp' := h p
  simp only [hw, hp, he, hc]
  exact hp'

end

end Sys2Proof.Machine
end

section
/-! PROOFS. ISOLATE_BANK and RETURN_BANK (R132 to R135). -/

namespace Sys2Proof.Machine

section
variable {h : Header} {x : Byte} {s t u : State} {b : Fin 6} {k : Fin 6 → Answer}

theorem atBank_at (hs : h.sender = 0) (hb : b.val = x.toNat) : atBank h x s k = k b := by
  rw [atBank, stationOnly_station hs, bankOf_eq_some.2 hb, spelled_some]

theorem atBank_bad (hs : h.sender = 0) (hx : 6 ≤ x.toNat) : atBank h x s k = refuse s .badValue := by
  rw [atBank, stationOnly_station hs, bankOf_eq_none.2 hx, spelled_none]

/-- R133: the readings that let an isolated bank return. -/
theorem bankReadingsGood_iff : s.bankReadingsGood b = true ↔
    (∃ i, (s.bankCfg b).pChannel = some i ∧ (s.chan i).state = .ok) ∧
    (∃ i, (s.bankCfg b).tChannel = some i ∧ (s.chan i).state = .ok) ∧
    (s.bank b).p ≤ (s.bankCfg b).rated ∧ (s.bank b).t ≤ 3580 := by
  have hn (c : Option (Fin 32)) : (s.namedState c == some .ok) = true ↔ ∃ i, c = some i ∧ (s.chan i).state = .ok := by
    cases c with
    | none => simp [State.namedState]
    | some i => simp [State.namedState]
  simp only [State.bankReadingsGood, Bool.and_eq_true, hn, decide_eq_true_iff, and_assoc]
  exact Iff.rfl

theorem bankMayBeTaken_queue (h : bankMayBeTaken u t) : t.compressor.queue = u.compressor.queue := by
  obtain ⟨hstop, hunl, helse⟩ := h
  by_cases hs : u.compressor.state = .stopped
  · rw [hstop hs]
    exact (compressorStartTest_out (b := 0) u).queue
  by_cases hu : u.compressor.state = .unloaded
  · cases hc : u.choosable none with
    | none => rw [(hunl hu).2 (choosable_eq_none.1 hc)]
    | some a => rw [(hunl hu).1 a (choosable_eq_some.1 hc)]; rfl
  · rw [helse hs hu]

/-- R134, R139: the refill queue after the queue entry test of a bank that is not being refilled. -/
theorem queueEntryTest_queued (hq : queueEntryMade u t b) (ha : u.compressor.activeBank ≠ some b)
    (hi : (u.bank b).isolated = false) : b ∈ t.compressor.queue ↔ b ∈ u.compressor.queue ∨
      u.commissioned = true ∧ (u.bankCfg b).inService = true ∧ pressureKnown u b ∧ (u.bank b).p < (u.bankCfg b).refillStart := by
  obtain ⟨hasks, hstands⟩ := hq
  by_cases h : asksForRefill u b
  · obtain ⟨before, after, -, -, -, htaken⟩ := hasks h
    obtain ⟨hcom, hserv, -, hknown, hlow, -, -⟩ := h
    have hqueue : t.compressor.queue = before ++ b :: after := bankMayBeTaken_queue htaken
    refine iff_of_true ?_ (.inr ⟨hcom, hserv, hknown, hlow⟩)
    rw [hqueue]
    exact List.mem_append_right _ List.mem_cons_self
  · rw [hstands h]
    refine ⟨.inl, fun hor => by_contra fun hn => ?_⟩
    obtain ⟨hcom, hserv, hknown, hlow⟩ := hor.resolve_left hn
    obtain hactive | hmem : u.compressor.activeBank = some b ∨ b ∈ u.compressor.queue := by
      by_contra hno
      rw [not_or] at hno
      exact h ⟨hcom, hserv, hi, hknown, hlow, hno.1, hno.2⟩
    · exact ha hactive
    · exact hn hmem

theorem isolate_undrawn (hi : (s.bank b).isolated = false) (hd : ∀ p, (s.pos p).drawBank ≠ some b) :
    s.isolate b = (s.shutOff b).raise .bankIsolated := by
  rw [isolate_eq hi, displaceAll_none (s := s.shutOff b) hd]

theorem isolate_banks (hi : (s.bank b).isolated = false) :
    (s.isolate b).banks = setAt s.banks b { s.bank b with isolated := true } := by
  rw [isolate_eq hi]
  have h := (displaceAll_bankOut (shutOff_isolated s b)).banks
  generalize (s.shutOff b).displaceAll b = t at *
  exact h

end

/-- R179: taking the frame of a request shows the plant unchanged. -/
theorem takeFrame_plant (s : State) (c : Instr) (b : Fin 6) : (s.takeFrame c).compressor = s.compressor ∧
    (s.takeFrame c).commissioned = s.commissioned ∧ (s.takeFrame c).bankCfg b = s.bankCfg b ∧
    (pressureKnown (s.takeFrame c) b ↔ pressureKnown s b) ∧ ((s.takeFrame c).bankReadingsGood b = s.bankReadingsGood b) ∧
    (s.takeFrame c).waiting = s.waiting := by
  rw [takeFrame_eq]
  exact ⟨rfl, rfl, rfl, Iff.rfl, rfl, rfl⟩

/-- R133: a bank READY again, before the queue entry test. -/
def State.readied (s : State) (b : Fin 6) : State := s.modBank b fun x => { x with isolated := false }

/-- R133 to R135: the return of a bank to READY. -/
theorem returnToReady_returns (s : State) (c : Instr) (b : Fin 6) (r : Option Reply) :
    let v : State := { ({ s.takeFrame c with reply := r } : State) with
      banks := setAt s.banks b { s.bank b with isolated := false } }
    let t := ((s.takeFrame c).returnToReady b).replied r
    (t.base = v.base ∧ t.banks = v.banks ∧ t.tickets = v.tickets ∧ t.precool = v.precool) ∧
    (∃ m, queueEntryMade v m b ∧ t = { m with positions := t.positions, waiting := t.waiting }) ∧
    waitingReported { s with banks := setAt s.banks b { s.bank b with isolated := false } } t := by
  intro v t
  have hv : ((s.takeFrame c).readied b).replied r = v := by
    show ({ s.takeFrame c with reply := r, banks := setAt (s.takeFrame c).banks b _ } : State) = _
    rw [takeFrame_banks]
    rfl
  set m := ((s.takeFrame c).readied b).queueEntryTest b with hm
  have ht : t = m.reportWaiting.replied r := rfl
  have honly : CompressorOnly ((s.takeFrame c).readied b) m := queueEntryTest_only _ b
  have hr := reportWaiting_eq m
  have hx : t.base = (m.replied r).base ∧ t.banks = m.banks ∧ t.tickets = m.tickets ∧ t.precool = m.precool := by
    rw [ht, hr]
    exact ⟨rfl, rfl, rfl, rfl⟩
  have hmv : (m.replied r).base = v.base ∧ m.banks = v.banks ∧ m.tickets = v.tickets ∧ m.precool = v.precool := by
    unfold CompressorOnly at honly
    rw [honly, ← hv]
    exact ⟨rfl, rfl, rfl, rfl⟩
  refine ⟨⟨hx.1.trans hmv.1, hx.2.1.trans hmv.2.1, hx.2.2.1.trans hmv.2.2.1, hx.2.2.2.trans hmv.2.2.2⟩, ⟨m.replied r, ?_, ?_⟩, ?_⟩
  · rw [← hv, hm, ← queueEntryTest_replied]
    exact queueEntryTest_made _ b
  · rw [ht, reportWaiting_eq]
    rfl
  · refine waitingReported.congr (s := m) (reportWaiting_reports m) ?_ (fun p => ?_) (fun p a => ?_) fun p => ?_
    all_goals unfold CompressorOnly at honly; rw [honly]
    · exact (takeFrame_plant s c b).2.2.2.2.2.symm
    · exact (takeFrame_pos s c p).symm
    · rw [State.readied, takeFrame_eq]
      rfl
    · exact (takeFrame_cfg s c p).symm

/-- Settles O37: `isolate_isolates` and `returnToReady_returns`. -/
theorem banksAreIsolatedAndReturned : Obligations.BanksAreIsolatedAndReturned := by
  unfold Obligations.BanksAreIsolatedAndReturned
  refine ⟨⟨suspendForDraw_suspends, drawReported_leaves⟩, fun h x s hs => ?_, fun h x s hs => ?_⟩
  · intro c
    have hc : exec c s = execIsolateBank h x s := rfl
    rw [hc, execIsolateBank]
    refine ⟨fun hx => answer_refuse (atBank_bad hs hx), fun b hb => ⟨fun hi => ?_, fun hi hn => ?_⟩⟩
    · have hi' : ((s.takeFrame c).bank b).isolated = true := by rw [takeFrame_bank]; exact hi
      refine answer_acceptWith (payload := []) ((atBank_at hs hb).trans ?_)
      rw [isolate_again hi']
      rfl
    · set u := s.takeFrame c with hu
      have hi' : (u.bank b).isolated = false := by rw [hu, takeFrame_bank]; exact hi
      have hcmp : u.compressor = s.compressor := (takeFrame_plant s c b).1
      have hpos (p : Fin 4) : u.pos p = s.pos p := takeFrame_pos s c p
      have hrep := isolate_replied u (some ⟨h.sender, h.tag, 0x45, .ok, []⟩) b
      have hiso := isolate_isolates (s := u.replied (some ⟨h.sender, h.tag, 0x45, .ok, []⟩)) hi'
      rw [hrep] at hiso
      obtain ⟨-, -, hout, -⟩ := id hiso
      obtain ⟨hqueue, hactive⟩ := hout (by change u.compressor.queue.Nodup; rw [hcmp]; exact hn)
      refine ⟨_, answer_accept (atBank_at hs hb), congrArg (State.replied · _) (isolate_base u b), ?_, hqueue, hactive, hiso,
        fun hd => ?_⟩
      · refine (isolate_banks hi').trans ?_
        rw [hu, takeFrame_banks, takeFrame_bank]
      · change (u.isolate b).positions = _ ∧ (u.isolate b).tickets = _ ∧ (u.isolate b).precool = _ ∧ (u.isolate b).waiting = _
        rw [isolate_undrawn hi' fun p => by rw [hpos]; exact hd p, hu, takeFrame_eq]
        exact ⟨rfl, rfl, rfl, rfl⟩
  · intro c
    have hc : exec c s = execReturnBank h x s := rfl
    rw [hc, execReturnBank]
    refine ⟨fun hx => answer_refuse (atBank_bad hs hx), fun b hb => ?_⟩
    intro good
    obtain ⟨hcmp, hcom, hcfg, hknown, hread, hwait⟩ := takeFrame_plant s c b
    have hgood : ((s.takeFrame c).bank b).isolated = true ∧ (s.takeFrame c).bankReadingsGood b = true ↔ good := by
      rw [takeFrame_bank, hread, bankReadingsGood_iff]
    refine ⟨fun hn => answer_refuse ((atBank_at hs hb).trans ?_), fun hg => ?_⟩
    · rw [Bool.eq_false_iff.2 fun hx => hn (hgood.1 (Bool.and_eq_true_iff.1 hx)), require_false]
    · have hbody : (fun s => atBank h x s fun b =>
          require ((s.bank b).isolated && s.bankReadingsGood b) .refusedState s <| accept (s.returnToReady b)) (s.takeFrame c) =
          accept ((s.takeFrame c).returnToReady b) := by
        refine (atBank_at hs hb).trans ?_
        rw [Bool.and_eq_true_iff.2 (hgood.2 hg), require_true]
      obtain ⟨⟨hbase, hbanks, hticks, hpcl⟩, ⟨m, hm, ht⟩, hw⟩ :=
        returnToReady_returns s c b (some ⟨h.sender, h.tag, 0x46, .ok, []⟩)
      refine ⟨_, answer_accept hbody, hbase, hbanks, hticks.trans (takeFrame_tickets s c), hpcl.trans (takeFrame_precool s c),
        fun ha => ?_, ⟨m, hm, ht⟩, hw⟩
      have hq := queueEntryTest_queued hm (by change (s.takeFrame c).compressor.activeBank ≠ _; rw [hcmp]; exact ha)
        (congrArg Bank.isolated (get_setAt_self s.banks b _))
      have hmq : m.compressor.queue = (((s.takeFrame c).returnToReady b).replied
          (some ⟨h.sender, h.tag, 0x46, .ok, []⟩)).compressor.queue := by rw [ht]
      rw [hmq] at hq
      refine hq.trans (or_congr ?_ (and_congr ?_ (and_congr ?_ (and_congr hknown ?_))))
      · change b ∈ (s.takeFrame c).compressor.queue ↔ _
        rw [hcmp]
      · change (s.takeFrame c).commissioned = true ↔ _
        rw [hcom]
      · change ((s.takeFrame c).bankCfg b).inService = true ↔ _
        rw [hcfg]
      · change ((setAt s.banks b { s.bank b with isolated := false }).get b).p < ((s.takeFrame c).bankCfg b).refillStart ↔ _
        rw [get_setAt_self, hcfg]

end Sys2Proof.Machine
end

section
/-! PROOFS. What a value, a doubt and a failure of a channel do to a position, to the compressor and to the chiller (R109, R110,
R148, R150, R155, R156, R165). -/

namespace Sys2Proof.Machine

/-! ### Positions -/

section
variable {s : State} {p : Fin 4}

theorem sensorDoubt_iff : s.sensorDoubt p = true ↔
    (∃ i, (s.cfg p).pDisp = some i ∧ (s.chan i).state = .held) ∨ ∃ i, (s.cfg p).tGas = some i ∧ (s.chan i).state = .failed := by
  rw [sensorDoubt_eq, Bool.or_eq_true]
  simp only [Option.any_eq_true, decide_eq_true_iff]

/-- R110 (1): SENSOR follows the channels of a position. -/
theorem senseDoubt_follows (hn : noGrantDue s) : sensorFollows s (s.senseDoubt p) p := by
  refine ⟨fun hd => ?_, fun hd => ?_⟩
  · rw [State.senseDoubt, if_pos (sensorDoubt_iff.2 hd)]
    exact activate_activates hn
  · rw [State.senseDoubt, if_neg (mt sensorDoubt_iff.1 hd)]
    exact clearFactor_clears s p .sensor

/-- R165 (1), (2): the fallback timer of a position after a T_gas value. -/
def State.supervisedTimer (s : State) (p : Fin 4) (v : Nat) : Option Nat :=
  match s.outletLimit p with
  | some l =>
    if (s.pos p).state = .fuelling then
      if l < v then some ((s.precool.fallback.get p).getD (s.site.fallbackWindow * 1000)) else none
    else s.precool.fallback.get p
  | none => s.precool.fallback.get p

theorem superviseTGas_eq (v : Nat) : s.superviseTGas p v =
    { s with precool := { s.precool with fallback := setAt s.precool.fallback p (s.supervisedTimer p v) } } := by
  have hself : setAt s.precool.fallback p (s.precool.fallback.get p) = s.precool.fallback := setAt_get_self _ _
  have hsame : s = { s with precool := { s.precool with fallback := setAt s.precool.fallback p (s.precool.fallback.get p) } } := by
    rw [hself]
  unfold State.superviseTGas State.supervisedTimer
  cases hl : s.outletLimit p with
  | none =>
    cases (s.pos p).state <;> exact hsame
  | some l =>
    by_cases hst : (s.pos p).state = .fuelling
    · rw [hst]
      dsimp only
      rw [if_pos rfl]
      by_cases hv : l < v
      · rw [if_pos hv, if_pos hv]
        cases hf : s.precool.fallback.get p with
        | none => rfl
        | some x =>
          rw [hf] at hsame
          exact hsame
      · rw [if_neg hv, if_neg hv]
        rfl
    · dsimp only
      rw [if_neg hst]
      cases h : (s.pos p).state with
      | fuelling => exact absurd h hst
      | closed | idle | calling | starting sub | held r | ending | ended => exact hsame

/-- R11: the ticket of a position after a T_gas value. -/
def State.peaked (s : State) (p : Fin 4) (v : Nat) : State :=
  if (s.pos p).state.busy then s.modActive p fun t => t.withTGas v else s

theorem peaked_pos (v : Nat) (q : Fin 4) : (s.peaked p v).pos q = s.pos q := by
  unfold State.peaked
  split
  · simp
  · rfl

theorem peaked_rest (v : Nat) : (s.peaked p v).precool = s.precool ∧ (s.peaked p v).site = s.site ∧
    (s.peaked p v).positions = s.positions := by
  unfold State.peaked
  split
  · simp
  · exact ⟨rfl, rfl, rfl⟩

/-- R11, R109 (1), R165: a T_gas value, whole. -/
theorem tGasTaken_moves (s : State) (p : Fin 4) (v : Nat) : gasTemperatureActs s (s.tGasTaken p v) p v := by
  unfold gasTemperatureActs
  intro limit peaked running timer supervised
  obtain ⟨hpcl, hsite, -⟩ := peaked_rest (s := s) (p := p) v
  have hlimit : (s.peaked p v).outletLimit p = limit := by
    rw [State.outletLimit, State.grade, hpcl, hsite]
    cases h : s.grade p with
    | none => exact (congrArg (Option.bind · _) h).trans (by rw [show limit = none by simp only [limit, h]]; rfl)
    | some g => exact (congrArg (Option.bind · _) h).trans (by cases g <;> simp only [limit, h] <;> rfl)
  have htimer : (s.peaked p v).supervisedTimer p v = timer := by
    rw [State.supervisedTimer, hlimit, peaked_pos, hpcl, hsite] <;> rfl
  have hsup : (s.peaked p v).superviseTGas p v = supervised := by
    rw [superviseTGas_eq, htimer, hpcl] <;> rfl
  have hlim' : supervised.outletLimit p = limit := by rw [← hsup, superviseTGas_eq]; exact hlimit
  have he : s.tGasTaken p v =
      if (supervised.outletLimit p).any fun l => decide (v ≤ l) then supervised.clearFactor p .precool else supervised := by
    rw [← hsup] <;> rfl
  rw [he, hlim']
  refine ⟨fun l hl hv => ?_, fun h => ?_⟩
  · rw [hl, if_pos (by rw [Option.any_some]; exact decide_eq_true hv)]
    exact clearFactor_clears _ p _
  · refine if_neg fun hx => ?_
    obtain ⟨l, hl, hv⟩ := (Option.any_eq_true _ _).1 hx
    exact absurd (of_decide_eq_true hv) (Nat.not_le.2 (h l hl))

end

/-! ### The supply -/

section
variable (u : State) (v : Nat)

theorem supplyAfter_eq (c : SupplyCause) (low hyst : Nat) : supplyAfter c v low hyst =
    if v < low then .below else if c = .below ∧ v < low + hyst then .below else .clear := by
  unfold supplyAfter
  split
  · rfl
  · cases c <;> simp

theorem compressorStartTest_supply : u.compressorStartTest.compressor.supply = u.compressor.supply := by
  unfold State.compressorStartTest State.waitForCredit
  repeat' split
  all_goals rfl

theorem stopMotor_motor : u.stopMotor.compressor.supply = u.compressor.supply ∧ u.stopMotor.compressor.state.motorOn = false ∧
    u.stopMotor.pendingFlags = u.pendingFlags := by
  unfold State.stopMotor
  cases h : u.compressor.state.motorOn with
  | true => exact ⟨rfl, rfl, rfl⟩
  | false => exact ⟨rfl, h, rfl⟩

theorem supplyTaken_supply : (u.supplyTaken v).compressor.supply =
    if v < u.site.supplyMin then .below
    else if u.compressor.supply = .below ∧ v < u.site.supplyMin + u.site.supplyHyst then .below else .clear := by
  rw [← supplyAfter_eq]
  unfold State.supplyTaken
  dsimp only
  split
  · next h => exact h.symm
  · split
    · exact compressorStartTest_supply _
    · exact (stopMotor_motor _).1

variable {u v}

theorem supplyTaken_same (h : (u.supplyTaken v).compressor.supply = u.compressor.supply) : u.supplyTaken v = u := by
  rw [supplyTaken_supply, ← supplyAfter_eq] at h
  exact if_pos h

theorem supplyTaken_cleared (h : u.compressor.supply ≠ .clear) (hc : (u.supplyTaken v).compressor.supply = .clear) :
    u.supplyTaken v = ({ u with compressor := { u.compressor with supply := .clear } } : State).compressorStartTest := by
  rw [supplyTaken_supply, ← supplyAfter_eq] at hc
  unfold State.supplyTaken
  dsimp only
  rw [hc, if_neg fun e => h e.symm, if_pos rfl]
  rfl

theorem raise_flag (s : State) (e : EventFlag) : (s.raise e).flagPending e = true := by
  rw [flagPending_raise, decide_eq_true rfl, Bool.or_true]

theorem stopMotor_flag (s : State) (e : EventFlag) : (s.stopMotor).flagPending e = s.flagPending e := by
  rw [State.flagPending, (stopMotor_motor s).2.2, State.flagPending]

theorem supplyTaken_below (hv : v < u.site.supplyMin) (h : u.compressor.supply ≠ .below) :
    (u.supplyTaken v).compressor.supply = .below ∧ (u.supplyTaken v).compressor.state.motorOn = false ∧
      (u.supplyTaken v).flagPending .supplyLow = true := by
  have hc : supplyAfter u.compressor.supply v u.site.supplyMin u.site.supplyHyst = .below := by rw [supplyAfter_eq, if_pos hv]
  unfold State.supplyTaken
  dsimp only
  rw [hc, if_neg fun e => h e.symm, if_neg (fun e => by cases e)]
  exact ⟨(stopMotor_motor _).1, (stopMotor_motor _).2.1, (stopMotor_flag _ _).trans (raise_flag _ _)⟩

theorem supplyFailed_fails : (u.supplyFailed).compressor.supply = .noValue ∧
    (u.compressor.supply = .noValue → u.supplyFailed = u) ∧
    (u.compressor.supply ≠ .noValue →
      u.supplyFailed.compressor.state.motorOn = false ∧ u.supplyFailed.flagPending .supplyLow = true) := by
  unfold State.supplyFailed
  by_cases h : u.compressor.supply = .noValue
  · rw [if_pos h]
    exact ⟨h, fun _ => rfl, fun hn => absurd h hn⟩
  · rw [if_neg h]
    exact ⟨(stopMotor_motor _).1, fun hn => absurd hn h, fun _ => ⟨(stopMotor_motor _).2.1,
      (stopMotor_flag _ _).trans (raise_flag _ _)⟩⟩

theorem supplyFailed_flags (e : EventFlag) (h : u.flagPending e = true) : u.supplyFailed.flagPending e = true := by
  unfold State.supplyFailed
  split
  · exact h
  · exact (stopMotor_flag _ _).trans (flagPending_raise_of (u.modCmp _) _ _ h)

/-! ### The discharge -/

theorem dischargeTaken_locks (hv : u.site.dischargeLimit < v) (hs : u.compressor.state ≠ .suspended)
    (hl : u.compressor.state ≠ .lockout) : u.dischargeTaken v = u.enterLockout := by
  unfold State.dischargeTaken
  rw [if_pos hv]
  cases h : u.compressor.state with
  | suspended => exact absurd h hs
  | lockout => exact absurd h hl
  | _ => rfl

theorem dischargeTaken_restarts (hv : u.site.dischargeLimit < v) (hl : u.compressor.state = .lockout) :
    u.dischargeTaken v = { u with compressor := { u.compressor with timer := some 300000 } } := by
  unfold State.dischargeTaken
  rw [if_pos hv, hl]
  rfl

theorem dischargeTaken_stands (h : v ≤ u.site.dischargeLimit ∨ u.compressor.state = .suspended) : u.dischargeTaken v = u := by
  unfold State.dischargeTaken
  split
  · next hv =>
    rw [h.resolve_left (Nat.not_le.2 hv)]
  · rfl

theorem dischargeFailed_stands (h : u.compressor.state = .suspended ∨ u.compressor.state = .lockout) : u.dischargeFailed = u := by
  unfold State.dischargeFailed
  rcases h with h | h <;> rw [h]

theorem dischargeFailed_locks (hs : u.compressor.state ≠ .suspended) (hl : u.compressor.state ≠ .lockout) :
    u.dischargeFailed = u.enterLockout := by
  unfold State.dischargeFailed
  cases h : u.compressor.state with
  | suspended => exact absurd h hs
  | lockout => exact absurd h hl
  | _ => rfl

/-! ### The coolant -/

/-- R155 (2): the coolant channel fails. -/
theorem coolantFailed_stands (h : u.precool.coolantCause = true ∨ u.precool.chiller = .fault) :
    u.coolantFailed = { u with precool := { u.precool with coolantCause := true } } := by
  unfold State.coolantFailed
  dsimp only
  by_cases hc : u.precool.coolantCause = true
  · rw [if_pos hc]
    rfl
  · have hf : (u.modPcl fun c => { c with coolantCause := true }).precool.chiller = .fault := h.resolve_left hc
    rw [if_neg hc, State.faultArises, if_pos hf]
    rfl

theorem coolantFailed_faults (hc : u.precool.coolantCause = false) (hf : u.precool.chiller ≠ .fault) :
    chillerFaults { u with precool := { u.precool with coolantCause := true } } u.coolantFailed := by
  have hf' : (u.modPcl fun c => { c with coolantCause := true }).precool.chiller ≠ .fault := hf
  unfold State.coolantFailed
  dsimp only
  rw [hc, if_neg Bool.false_ne_true, State.faultArises, if_neg hf']
  exact enterFault_faults (u.modPcl fun c => { c with coolantCause := true })

theorem coolantTaken_out (h : u.precool.chiller = .off ∨ u.precool.chiller = .fault) :
    u.coolantTaken v = { u with precool := { u.precool with coolantSeen := true } } := by
  have hc : (u.modPcl fun c => { c with coolantSeen := true }).precool.chiller = u.precool.chiller := rfl
  unfold State.coolantTaken
  dsimp only
  rw [hc]
  split
  · next e => simp [e] at h
  · next e => simp [e] at h
  · rfl
  · rfl

/-- R156: a value that is cold enough makes the chiller READY, with its grants at the entry. -/
theorem coolantTaken_enters (h : u.precool.chiller = .pulldown) (hv : v ≤ u.site.limitG3 - u.site.approach) :
    u.coolantTaken v = State.makeGrants { u with
      precool := { u.precool with coolantSeen := true, chiller := .ready, offered := u.site.gradeFor v } } := by
  have hc : (u.modPcl fun c => { c with coolantSeen := true }).precool.chiller = .pulldown := h
  have hv' : v ≤ (u.modPcl fun c => { c with coolantSeen := true }).site.readyThreshold := hv
  unfold State.coolantTaken
  dsimp only
  rw [hc]
  dsimp only
  rw [if_pos hv']
  rfl

theorem coolantTaken_stays (h : u.precool.chiller = .ready) (hv : v ≤ u.site.limitG3 - u.site.approach) :
    u.coolantTaken v = { u with
      precool := { u.precool with coolantSeen := true, chiller := .ready, offered := u.site.gradeFor v } } := by
  have hc : (u.modPcl fun c => { c with coolantSeen := true }).precool.chiller = .ready := h
  have hv' : ¬(u.modPcl fun c => { c with coolantSeen := true }).site.readyThreshold < v := Nat.not_lt.2 hv
  unfold State.coolantTaken
  dsimp only
  rw [hc]
  dsimp only
  rw [if_neg hv']
  rfl

theorem coolantTaken_warm (h : u.precool.chiller = .pulldown ∨ u.precool.chiller = .ready)
    (hv : u.site.limitG3 - u.site.approach < v) :
    u.coolantTaken v = { u with precool := { u.precool with coolantSeen := true, chiller := .pulldown, offered := .g0 } } := by
  have hv' : (u.modPcl fun c => { c with coolantSeen := true }).site.readyThreshold < v := hv
  unfold State.coolantTaken
  dsimp only
  rcases h with h | h
  · have hc : (u.modPcl fun c => { c with coolantSeen := true }).precool.chiller = .pulldown := h
    rw [hc]
    dsimp only
    rw [if_neg (Nat.not_le.2 hv')]
    rfl
  · have hc : (u.modPcl fun c => { c with coolantSeen := true }).precool.chiller = .ready := h
    rw [hc]
    dsimp only
    rw [if_pos hv']
    rfl

end

end Sys2Proof.Machine
end

section
/-! PROOFS. A value taken on a channel of a bank: the readings and the inventory, the isolation, and the refill (R125, R126, R132,
R134, R135, R140). -/

namespace Sys2Proof.Machine

/-! ### Readings -/

section
variable {s t : State} {b : Fin 6} {x : Bank}

theorem inventoryAt_eq (s : State) (b : Fin 6) (p t : Nat) : s.inventoryAt b p t = inventoryAt s b p t := by
  have hn (c : Option (Fin 32)) : s.namedTaken c = (c.map s.chan).any Channel.taken := by cases c <;> rfl
  unfold State.inventoryAt inventoryAt State.bankMeasured
  rw [hn, hn]
  simp only [Bool.and_eq_true]
  rfl

/-- R125: a state with other readings of one bank. -/
def State.bankRead (s : State) (b : Fin 6) (x : Bank) : State := { s with banks := setAt s.banks b x }

theorem bankRead_bank : (s.bankRead b x).bank b = x := get_setAt_self _ _ _

theorem bankRead_bank_ne {a : Fin 6} (h : a ≠ b) : (s.bankRead b x).bank a = s.bank a := get_setAt_ne _ _ h

/-- R128: the readings of an isolated bank make no difference to what is eligible. -/
theorem eligible_isolated {B : Vector Bank 6} (hne : ∀ a, a ≠ b → B.get a = s.bank a) (hB : (B.get b).isolated = true)
    (hi : (s.bank b).isolated = true) (p : Fin 4) (l : Option (Fin 6)) (a : Fin 6) :
    ({ s with banks := B } : State).eligible p l a = s.eligible p l a := by
  have e (B : Vector Bank 6) : ({ s with banks := B } : State).eligible p l a = ((s.bankCfg a).inService &&
      !(B.get a).isolated && (s.bankCfg a).serves (s.cfg p).nozzleClass && s.bankPressureKnown a &&
      decide (s.pDisp p + s.site.openDiff ≤ (B.get a).p) && l != some a) := rfl
  have e' : s.eligible p l a = ((s.bankCfg a).inService &&
      !(s.bank a).isolated && (s.bankCfg a).serves (s.cfg p).nozzleClass && s.bankPressureKnown a &&
      decide (s.pDisp p + s.site.openDiff ≤ (s.bank a).p) && l != some a) := rfl
  rw [e, e']
  by_cases h : a = b
  · subst h
    simp only [hB, hi, Bool.not_true, Bool.and_false, Bool.false_and]
  · rw [hne a h]

/-! ### The isolation of a bank with new readings -/

theorem bankDequeued.of_read {m : State} (h : bankDequeued (s.bankRead b x) m b) :
    bankDequeued s { m with banks := s.banks } b := by
  obtain ⟨hother, hactive⟩ := h
  refine ⟨fun ha => ?_, fun ha => ⟨fun a hc => ?_, fun hc => ?_⟩⟩
  · rw [hother ha]
    rfl
  · rw [(hactive ha).1 a hc]
    rfl
  · rw [(hactive ha).2 hc]
    rfl

/-- R132: the state with a bank isolated. -/
def State.isolated (s : State) (b : Fin 6) : State := { s with banks := setAt s.banks b { s.bank b with isolated := true } }

theorem isolated_read (s : State) (b : Fin 6) (x : Bank) : (s.bankRead b x).isolated b =
    { s.isolated b with banks := setAt s.banks b { x with isolated := true } } := by
  rw [State.isolated, bankRead_bank]
  exact congrArg (fun B : Vector Bank 6 => ({ s with banks := B } : State)) (setAt_setAt _ _ _ _)

theorem isolated_read_eligible (s : State) (b : Fin 6) (x : Bank) (p : Fin 4) (l : Option (Fin 6)) (a : Fin 6) :
    ((s.bankRead b x).isolated b).eligible p l a = (s.isolated b).eligible p l a := by
  rw [isolated_read]
  refine eligible_isolated (s := s.isolated b) (b := b) (fun c hc => ?_) (congrArg Bank.isolated (get_setAt_self _ _ _))
    (congrArg Bank.isolated (get_setAt_self s.banks b _)) p l a
  exact (get_setAt_ne _ _ hc).trans (get_setAt_ne s.banks _ hc).symm

theorem isolated_read_selectedBank (s : State) (b : Fin 6) (x : Bank) (p : Fin 4) (l : Option (Fin 6)) :
    ((s.bankRead b x).isolated b).selectedBank p l = (s.isolated b).selectedBank p l :=
  selectedBank_of_eligible (s := s.isolated b) (t := (s.bankRead b x).isolated b) rfl rfl l (isolated_read_eligible s b x p l)

theorem leftAlone_read (s : State) (p : Fin 4) (b : Fin 6) (x : Bank) : (s.bankRead b x).leftAlone p b =
    (s.leftAlone p b).dressed id fun _ => setAt s.banks b { x with isolated := true } := by
  rw [State.leftAlone, bankRead_bank]
  exact congrArg (fun B : Vector Bank 6 => ({ s.leftAlone p b with banks := B } : State)) (setAt_setAt _ _ _ _)

/-- R162: the grants after a fill that drew alone on the bank has ended, whatever the bank's readings. -/
theorem leftAlone_read_grants (s : State) (p : Fin 4) (b : Fin 6) (x : Bank) (r : EndReason) :
    (fillEnded ((s.bankRead b x).leftAlone p b) p r).makeGrants =
      ((fillEnded (s.leftAlone p b) p r).makeGrants).dressed id fun _ => setAt s.banks b { x with isolated := true } := by
  rw [leftAlone_read, fillEnded_dressed]
  refine makeGrants_dressed fun q a => ?_
  have h := isolated_read_eligible s b x q none a
  rw [isolated_read] at h
  exact h

theorem positionDisplaced.of_read {p : Fin 4} (h : positionDisplaced (s.bankRead b x) t p b) : positionDisplaced s t p b := by
  obtain ⟨hmoves, halone, hlow, hsettles, hends⟩ := h
  have hel (a : Fin 6) := isolated_read_eligible s b x p none a
  have hsel := isolated_read_selectedBank s b x p none
  have hnone : (∀ a, ((s.bankRead b x).isolated b).eligible p none a = false) ↔ ∀ a, (s.isolated b).eligible p none a = false :=
    forall_congr' fun a => by rw [hel]
  refine ⟨fun hdr hn => ?_, fun a hdr hal hs => ?_, fun hdr hal hn hw => hlow hdr hal (hnone.2 hn) hw,
    fun hst hn => hsettles hst (hnone.2 hn), fun hst hl hn => ?_⟩
  · obtain ⟨a, ha, hp⟩ := hmoves hdr fun hx => hn (hnone.1 hx)
    exact ⟨a, (hel a).symm.trans ha, hp⟩
  · obtain ⟨hp, hc⟩ := halone a hdr hal (hsel.trans hs)
    refine ⟨hp, hc.trans ?_⟩
    change (((s.bankRead b x).leftAlone p b).suspendForDraw a).compressor = ((s.leftAlone p b).suspendForDraw a).compressor
    rw [leftAlone_read]
    exact ((dressed_samePlant (s.leftAlone p b) _ _).suspendForDraw a).1
  · obtain ⟨hend, hhold⟩ := hends hst hl (hnone.2 hn)
    refine ⟨fun he => ?_, hhold⟩
    obtain ⟨hp, htick, hm⟩ := hend he
    refine ⟨hp, htick, fun hal => ⟨_, fillEnded_ends (s.leftAlone p b) p .bankLow, ?_⟩⟩
    obtain ⟨m, ⟨hm, -⟩, ht⟩ := hm hal
    have hm' : m = _ := hm.trans (leftAlone_read_grants s p b x .bankLow)
    rw [ht, hm']
    rfl

theorem bankIsolates.of_read (h : bankIsolates (s.bankRead b x) t b) : bankIsolates s t b := by
  obtain ⟨hisol, hflag, hout, hqueue, hnone, hundrawn, hdisp, helse⟩ := h
  refine ⟨hisol, hflag, hout, hqueue, fun hd => ?_, hundrawn, fun p hp => (hdisp p hp).of_read, helse⟩
  obtain ⟨m, hm, ht⟩ := hnone hd
  refine ⟨_, hm.of_read, ?_⟩
  rw [ht]
  rfl

end

/-! ### A P value -/

section
variable {s : State} {b : Fin 6} {v : Nat}

/-- R125, R126: the state with a P value taken for a bank. -/
def State.pressureRead (s : State) (b : Fin 6) (v : Nat) : State :=
  s.bankRead b { s.bank b with p := v, inventory := s.inventoryAt b v (s.bank b).t }

theorem pressureRead_eq (s : State) (b : Fin 6) (v : Nat) :
    (s.modBank b fun x => { x with p := v }).recomputeInventory b = s.pressureRead b v := by
  simp only [State.recomputeInventory, State.modBank, modAt, get_setAt_self, setAt_setAt]
  rfl

/-- R140 (1): the state after a P value at or above the target has ended the refill of the bank. -/
def State.progressed (s : State) (b : Fin 6) (v : Nat) : State := (s.pressureRead b v).refillProgress b v

/-- R134, R140: the state after the queue entry test of a P value. -/
def State.requeued (s : State) (b : Fin 6) (v : Nat) : State :=
  if v < (s.bankCfg b).refillStart then (s.progressed b v).queueEntryTest b else s.progressed b v

theorem progressed_only (s : State) (b : Fin 6) (v : Nat) : CompressorOnly (s.pressureRead b v) (s.progressed b v) :=
  refillProgress_only _ b v

theorem requeued_only (s : State) (b : Fin 6) (v : Nat) : CompressorOnly (s.pressureRead b v) (s.requeued b v) := by
  unfold State.requeued
  split
  · exact (progressed_only s b v).trans (queueEntryTest_only _ b)
  · exact progressed_only s b v

theorem bankPressureTaken_isolates (h : (s.bankCfg b).rated < v) : s.bankPressureTaken b v = (s.pressureRead b v).isolate b := by
  unfold State.bankPressureTaken
  dsimp only
  rw [pressureRead_eq]
  exact if_pos h

theorem bankPressureTaken_reports (h : v ≤ (s.bankCfg b).rated) : s.bankPressureTaken b v = (s.requeued b v).reportWaiting := by
  have hc : (s.progressed b v).bankCfg b = s.bankCfg b := by
    have ho := progressed_only s b v
    unfold CompressorOnly at ho
    rw [ho]
    rfl
  unfold State.bankPressureTaken
  dsimp only
  rw [pressureRead_eq]
  refine (if_neg (Nat.not_lt.2 h)).trans ?_
  change (if v < ((s.progressed b v).bankCfg b).refillStart then _ else _ : State).reportWaiting = _
  rw [hc]
  rfl

/-- R140 (1): the end of a refill by a P value. -/
theorem progressed_dequeues :
    (b ∈ s.compressor.queue → (s.bankCfg b).refillTarget ≤ v → bankDequeued (s.pressureRead b v) (s.progressed b v) b) ∧
    ((b ∉ s.compressor.queue ∨ v < (s.bankCfg b).refillTarget) → s.progressed b v = s.pressureRead b v) := by
  refine ⟨fun hq hv => ?_, fun h => ?_⟩
  · have e : s.progressed b v = (s.pressureRead b v).removeBank b := if_pos ⟨hq, hv⟩
    rw [e]
    exact removeBank_dequeued _ b
  · refine if_neg fun hx => ?_
    rcases h with h | h
    · exact h hx.1
    · exact absurd hx.2 (Nat.not_le.2 h)

/-- R134: the queue entry test of a P value; one at or above the refill start does not ask. -/
theorem requeued_made : queueEntryMade (s.progressed b v) (s.requeued b v) b := by
  have ho := progressed_only s b v
  unfold State.requeued
  split
  · exact queueEntryTest_made _ b
  · next h =>
    refine ⟨fun hasks => ?_, fun _ => rfl⟩
    obtain ⟨-, -, -, -, hlow, -⟩ := hasks
    unfold CompressorOnly at ho
    rw [ho] at hlow
    have hp : ((s.pressureRead b v).bank b).p = v := congrArg Bank.p (get_setAt_self _ _ _)
    exact absurd (hp ▸ hlow) h

/-- R134, R139: a P value below the refill start queues a bank that is in service and READY. -/
theorem requeued_queued {c : Fin 32} (hcom : s.commissioned = true) (hserv : (s.bankCfg b).inService = true)
    (hi : (s.bank b).isolated = false) (hp : (s.bankCfg b).pChannel = some c) (hc : s.chan c = ⟨.ok, v, true, (s.chan c).grace⟩)
    (hstart : v < (s.bankCfg b).refillStart) (htarget : v < (s.bankCfg b).refillTarget)
    (ha : s.compressor.activeBank ≠ some b) : b ∈ (s.requeued b v).compressor.queue := by
  have hprog := (progressed_dequeues (s := s) (b := b) (v := v)).2 (.inr htarget)
  have hm := requeued_made (s := s) (b := b) (v := v)
  rw [hprog] at hm
  have hisol : ((s.pressureRead b v).bank b).isolated = (s.bank b).isolated := by
    rw [State.pressureRead, bankRead_bank]
  have hread : ((s.pressureRead b v).bank b).p = v := congrArg Bank.p (get_setAt_self _ _ _)
  refine (queueEntryTest_queued hm ha ?_).2 (.inr ⟨hcom, hserv, ⟨c, hp, ?_, ?_⟩, ?_⟩)
  · exact hisol.trans hi
  · exact congrArg Channel.taken hc
  · exact fun h => by cases (congrArg Channel.state hc).symm.trans h
  · exact hread.symm ▸ hstart

/-- R140: a P value at the target takes the bank out of the refill. -/
theorem requeued_dequeued (hq : b ∈ s.compressor.queue) (hn : s.compressor.queue.Nodup) (hv : (s.bankCfg b).refillTarget ≤ v)
    (hs : (s.bankCfg b).refillStart ≤ v) :
    b ∉ (s.requeued b v).compressor.queue ∧ (s.requeued b v).compressor.activeBank ≠ some b := by
  have e : s.requeued b v = (s.pressureRead b v).removeBank b :=
    (if_neg (Nat.not_lt.2 hs)).trans (if_pos (c := b ∈ (s.pressureRead b v).compressor.queue ∧ _) ⟨hq, hv⟩)
  have hn' : (s.pressureRead b v).compressor.queue.Nodup := hn
  rw [e, removeBank_queue]
  exact ⟨hn'.not_mem_erase, removeBank_active hn'⟩

/-! ### A T value -/

/-- R125, R126: the state with a T value taken for a bank. -/
def State.temperatureRead (s : State) (b : Fin 6) (v : Nat) : State :=
  s.bankRead b { s.bank b with t := v, inventory := s.inventoryAt b (s.bank b).p v }

theorem bankTemperatureTaken_eq : s.bankTemperatureTaken b v =
    if 3580 < v then (s.temperatureRead b v).isolate b else s.temperatureRead b v := by
  have e : (s.modBank b fun x => { x with t := v }).recomputeInventory b = s.temperatureRead b v := by
    simp only [State.recomputeInventory, State.modBank, modAt, get_setAt_self, setAt_setAt]
    rfl
  unfold State.bankTemperatureTaken
  dsimp only
  rw [e]
  rfl

/-- R132: the readings of the banks after an isolation. -/
theorem isolate_reads (s : State) (b a : Fin 6) : ((s.isolate b).bank a).p = (s.bank a).p ∧
    ((s.isolate b).bank a).t = (s.bank a).t ∧ ((s.isolate b).bank a).inventory = (s.bank a).inventory ∧
    (a ≠ b → (s.isolate b).bank a = s.bank a) := by
  cases hi : (s.bank b).isolated with
  | true =>
    rw [isolate_again hi]
    exact ⟨rfl, rfl, rfl, fun _ => rfl⟩
  | false =>
    rw [State.bank, isolate_banks hi]
    by_cases h : a = b
    · subst h
      rw [get_setAt_self]
      exact ⟨rfl, rfl, rfl, fun hne => absurd rfl hne⟩
    · rw [get_setAt_ne _ _ h]
      exact ⟨rfl, rfl, rfl, fun _ => rfl⟩

end

end Sys2Proof.Machine
end

section
/-! PROOFS. Samples, doubts and failures of a channel: the channel itself, what its user does with a bank and the coolant, and the
flags that stay (R125, R135, R156, R170 to R172). -/

namespace Sys2Proof.Machine

/-! ### The channel -/

section
variable {s : State} {x : Byte} {w : Word16} {c : Fin 32} {r : Role}

/-- R170 (1): no channel reads the source. -/
theorem sample_none (h : ∀ c, (s.chanCfg c).user.isSome = true → (s.chanCfg c).source ≠ x.toNat) :
    exec (.sampleArrival x w) s = .next { s with rejectedSamples := min 65535 (s.rejectedSamples + 1) } := by
  have hn : s.sourceChannel x.toNat = none := List.find?_eq_none.2 fun c _ => by
    rw [Bool.and_eq_true, beq_iff_eq]
    exact fun hc => h c hc.1 hc.2
  have hx : exec (.sampleArrival x w) s = .next (s.sample x.toNat w.toNat) := rfl
  rw [hx, State.sample, hn]
  rfl

/-- R170: the channel that reads the source, the first in index order. -/
theorem sample_at (hu : (s.chanCfg c).user = some r) (hs : (s.chanCfg c).source = x.toNat)
    (hf : ∀ d, d < c → ¬((s.chanCfg d).user.isSome = true ∧ (s.chanCfg d).source = x.toNat)) :
    exec (.sampleArrival x w) s = .next (s.channelSample c ((s.chanCfg c).kind.clamp w.toNat)) := by
  have hc : s.sourceChannel x.toNat = some c := find?_finRange_eq_some.2 ⟨by rw [hu, hs, Option.isSome_some, beq_self_eq_true]; rfl,
    fun d hd => by
      rw [Bool.eq_false_iff, ne_eq, Bool.and_eq_true, beq_iff_eq]
      exact hf d hd⟩
  have hx : exec (.sampleArrival x w) s = .next (s.sample x.toNat w.toNat) := rfl
  rw [hx, State.sample, hc]

theorem inWindow_iff {g : ChannelConfig} {v : Nat} : g.inWindow v = true ↔ g.windowMin ≤ v ∧ v ≤ g.windowMax := by
  rw [ChannelConfig.inWindow, Bool.and_eq_true, decide_eq_true_iff, decide_eq_true_iff]

theorem notify_some (hu : (s.chanCfg c).user = some r) (tell : State → Role → State) : s.notify c tell = tell s r := by
  rw [State.notify, hu]

variable {v : Nat}

/-- R170 (4): a value in window is taken. -/
theorem channelSample_taken (hu : (s.chanCfg c).user = some r) (hw : (s.chanCfg c).windowMin ≤ v ∧ v ≤ (s.chanCfg c).windowMax) :
    s.channelSample c v = (s.setChan c ⟨.ok, v, true, some (s.chanCfg c).grace⟩).notifyTaken r v ((s.chan c).state != .ok) := by
  unfold State.channelSample
  dsimp only
  rw [if_pos (inWindow_iff.2 hw)]
  exact notify_some (s := s.setChan c _) hu _

/-- R170 (5): a value out of window makes an OK channel HELD. -/
theorem channelSample_held (hu : (s.chanCfg c).user = some r) (hw : ¬((s.chanCfg c).windowMin ≤ v ∧ v ≤ (s.chanCfg c).windowMax))
    (hok : (s.chan c).state = .ok) : s.channelSample c v = (s.setChan c { s.chan c with state := .held }).notifyHeld r := by
  unfold State.channelSample
  dsimp only
  rw [if_neg (mt inWindow_iff.1 hw), if_pos hok]
  exact notify_some (s := s.setChan c _) hu _

theorem channelSample_stands (hw : ¬((s.chanCfg c).windowMin ≤ v ∧ v ≤ (s.chanCfg c).windowMax)) (hok : (s.chan c).state ≠ .ok) :
    s.channelSample c v = s := by
  unfold State.channelSample
  dsimp only
  rw [if_neg (mt inWindow_iff.1 hw), if_neg hok]

end

/-! ### A bank -/

section
variable {u : State} {b : Fin 6} {v : Nat}

theorem reportWaiting_banks (s : State) : s.reportWaiting.banks = s.banks := by rw [reportWaiting_eq]

theorem reportWaiting_compressor (s : State) : s.reportWaiting.compressor = s.compressor := by rw [reportWaiting_eq]

/-- R125: a P value within the rating changes the readings alone at the banks. -/
theorem bankPressureTaken_within (h : v ≤ (u.bankCfg b).rated) :
    u.pressureRead b v = { u with banks := (u.bankPressureTaken b v).banks } := by
  have hb : (u.requeued b v).banks = (u.pressureRead b v).banks := by
    have ho := requeued_only u b v
    unfold CompressorOnly at ho
    rw [ho]
  rw [bankPressureTaken_reports h, reportWaiting_banks, hb]
  rfl

/-- R125, R126: the readings of the banks after a P value. -/
theorem bankPressureTaken_reads (u : State) (b : Fin 6) (v : Nat) : ((u.bankPressureTaken b v).bank b).p = v ∧
    ((u.bankPressureTaken b v).bank b).t = (u.bank b).t ∧ (∀ a, a ≠ b → (u.bankPressureTaken b v).bank a = u.bank a) ∧
    ((u.bankPressureTaken b v).bank b).inventory = inventoryAt u b v (u.bank b).t := by
  have hself : (u.pressureRead b v).bank b = { u.bank b with p := v, inventory := u.inventoryAt b v (u.bank b).t } := bankRead_bank
  have hne (a : Fin 6) (ha : a ≠ b) : (u.pressureRead b v).bank a = u.bank a := bankRead_bank_ne ha
  rw [← inventoryAt_eq]
  by_cases h : (u.bankCfg b).rated < v
  · have hr (a : Fin 6) := isolate_reads (u.pressureRead b v) b a
    rw [bankPressureTaken_isolates h]
    obtain ⟨hp, ht, hi, -⟩ := hr b
    rw [hself] at hp ht hi
    exact ⟨hp, ht, fun a ha => ((hr a).2.2.2 ha).trans (hne a ha), hi⟩
  · have hb (a : Fin 6) : (u.bankPressureTaken b v).bank a = (u.pressureRead b v).bank a := by
      rw [bankPressureTaken_within (Nat.not_lt.1 h)]
      rfl
    rw [hb, hself]
    exact ⟨rfl, rfl, fun a ha => (hb a).trans (hne a ha), rfl⟩

/-- R132 (1): a P value above the rating. -/
theorem bankPressureTaken_over (h : (u.bankCfg b).rated < v) :
    ((u.bank b).isolated = false → bankIsolates u (u.bankPressureTaken b v) b) ∧
    ((u.bank b).isolated = true →
      (u.bankPressureTaken b v).positions = u.positions ∧ ((u.bankPressureTaken b v).bank b).isolated = true) := by
  have hi : ((u.pressureRead b v).bank b).isolated = (u.bank b).isolated := by rw [State.pressureRead, bankRead_bank]
  rw [bankPressureTaken_isolates h]
  refine ⟨fun hb => (isolate_isolates (hi.trans hb)).of_read, fun hb => ?_⟩
  rw [isolate_again (hi.trans hb)]
  exact ⟨rfl, hi.trans hb⟩

/-- R134, R135, R140: a P value within the rating; what it does to the refill, and to the waiting positions. -/
theorem bankPressureTaken_moves (h : v ≤ (u.bankCfg b).rated) :
    let t := u.bankPressureTaken b v
    (t.bank b).isolated = (u.bank b).isolated ∧ t.tickets = u.tickets ∧ t.precool = u.precool ∧
    waitingReported { u with banks := t.banks } t ∧
    ∃ m n : State,
      (b ∈ u.compressor.queue → (u.bankCfg b).refillTarget ≤ v → bankDequeued { u with banks := t.banks } m b) ∧
      ((b ∉ u.compressor.queue ∨ v < (u.bankCfg b).refillTarget) → m = { u with banks := t.banks }) ∧
      queueEntryMade m n b ∧ t = { n with positions := t.positions, waiting := t.waiting } := by
  intro t
  have hread : { u with banks := t.banks } = u.pressureRead b v := (bankPressureTaken_within h).symm
  have ht : t = (u.requeued b v).reportWaiting := bankPressureTaken_reports h
  have ho := requeued_only u b v
  unfold CompressorOnly at ho
  have hreports := reportWaiting_reports (u.requeued b v)
  have heq := reportWaiting_eq (u.requeued b v)
  rw [hread]
  rw [← ht] at hreports heq
  refine ⟨?_, ?_, ?_, hreports.congr (congrArg State.waiting ho).symm (fun p => (congrArg (State.pos · p) ho).symm)
      (fun p a => (congrArg (State.eligible · p none a) ho).symm) (fun p => (congrArg (State.cfg · p) ho).symm), u.progressed b v, u.requeued b v,
    (progressed_dequeues).1, (progressed_dequeues).2, requeued_made, heq⟩
  · have hb : t.bank b = (u.pressureRead b v).bank b := by rw [← hread]; rfl
    rw [hb, State.pressureRead, bankRead_bank]
  · rw [heq, ho]; rfl
  · rw [heq, ho]; rfl

/-- R140: a P value at the target takes the bank out of the refill. -/
theorem bankPressureTaken_dequeued (h : v ≤ (u.bankCfg b).rated) (hq : b ∈ u.compressor.queue) (hn : u.compressor.queue.Nodup)
    (hv : (u.bankCfg b).refillTarget ≤ v) (hs : (u.bankCfg b).refillStart ≤ v) :
    b ∉ (u.bankPressureTaken b v).compressor.queue ∧ (u.bankPressureTaken b v).compressor.activeBank ≠ some b := by
  rw [bankPressureTaken_reports h, reportWaiting_compressor]
  exact requeued_dequeued hq hn hv hs

/-- R134, R139: a P value below the refill start queues a bank that is in service and READY. -/
theorem bankPressureTaken_queued {c : Fin 32} (h : v ≤ (u.bankCfg b).rated) (hcom : u.commissioned = true)
    (hserv : (u.bankCfg b).inService = true) (hi : (u.bank b).isolated = false) (hp : (u.bankCfg b).pChannel = some c)
    (hc : u.chan c = ⟨.ok, v, true, (u.chan c).grace⟩) (hstart : v < (u.bankCfg b).refillStart)
    (htarget : v < (u.bankCfg b).refillTarget) (ha : u.compressor.activeBank ≠ some b) :
    b ∈ (u.bankPressureTaken b v).compressor.queue := by
  rw [bankPressureTaken_reports h, reportWaiting_compressor]
  exact requeued_queued hcom hserv hi hp hc hstart htarget ha

/-- R125, R126, R132 (2): a T value. -/
theorem bankTemperatureTaken_moves (u : State) (b : Fin 6) (v : Nat) :
    let t := u.bankTemperatureTaken b v
    (t.bank b).t = v ∧ (t.bank b).p = (u.bank b).p ∧ (∀ a, a ≠ b → t.bank a = u.bank a) ∧
    (t.bank b).inventory = inventoryAt u b (u.bank b).p v ∧
    (3580 < v → (u.bank b).isolated = false → bankIsolates u t b) ∧
    ((v ≤ 3580 ∨ (u.bank b).isolated = true) →
      t = { u with banks := t.banks } ∧ (t.bank b).isolated = (u.bank b).isolated) := by
  intro t
  have hself : (u.temperatureRead b v).bank b = { u.bank b with t := v, inventory := u.inventoryAt b (u.bank b).p v } := bankRead_bank
  have hne (a : Fin 6) (ha : a ≠ b) : (u.temperatureRead b v).bank a = u.bank a := bankRead_bank_ne ha
  have hi : ((u.temperatureRead b v).bank b).isolated = (u.bank b).isolated := by rw [hself]
  have ht : t = if 3580 < v then (u.temperatureRead b v).isolate b else u.temperatureRead b v := bankTemperatureTaken_eq
  have hr (a : Fin 6) : (t.bank a).p = ((u.temperatureRead b v).bank a).p ∧ (t.bank a).t = ((u.temperatureRead b v).bank a).t ∧
      (t.bank a).inventory = ((u.temperatureRead b v).bank a).inventory ∧ (a ≠ b → t.bank a = (u.temperatureRead b v).bank a) := by
    rw [ht]
    split
    · exact isolate_reads _ b a
    · exact ⟨rfl, rfl, rfl, fun _ => rfl⟩
  obtain ⟨hp, htt, hinv, -⟩ := hr b
  rw [hself] at hp htt hinv
  refine ⟨htt, hp, fun a ha => ((hr a).2.2.2 ha).trans (hne a ha), hinv.trans (inventoryAt_eq ..), fun hv hb => ?_, fun hx => ?_⟩
  · rw [ht, if_pos hv]
    exact (isolate_isolates (hi.trans hb)).of_read
  · have hst : t = u.temperatureRead b v := by
      rw [ht]
      split
      · next hv => exact isolate_again (hi.trans (hx.resolve_left (Nat.not_le.2 hv)))
      · rfl
    rw [hst]
    exact ⟨rfl, hi⟩

end

/-! ### Flags -/

section
variable {s : State} {e : EventFlag}

theorem endFill_flags (p : Fin 4) (r : EndReason) (h : s.flagPending e = true) : (s.endFill p r).flagPending e = true :=
  (makeGrants_fills _).flags e ((enterEndingCore_fill s p r).flags e h)

theorem senseDoubt_flags (p : Fin 4) (h : s.flagPending e = true) : (s.senseDoubt p).flagPending e = true := by
  unfold State.senseDoubt
  split
  · exact (makeGrants_fills _).flags e ((activateCore_fill s p .sensor).flags e h)
  · exact (clearFactor_fill s p .sensor).flags e h

theorem displaceAll_flags (b : Fin 6) (h : s.flagPending e = true) : (s.displaceAll b).flagPending e = true := by
  have hstep (u : State) (p : Fin 4) (hu : u.flagPending e = true) :
      (if u.inDrawSet b p then u.displace p else u).flagPending e = true := by
    split
    · exact (displace_fills u p).flags e hu
    · exact hu
  unfold State.displaceAll
  generalize allPositions = l
  induction l generalizing s with
  | nil => exact h
  | cons p l ih => exact ih (hstep s p h)

theorem isolate_flags (b : Fin 6) (h : s.flagPending e = true) : (s.isolate b).flagPending e = true := by
  cases hi : (s.bank b).isolated with
  | true =>
    rw [isolate_again hi]
    exact h
  | false =>
    rw [isolate_eq hi]
    exact flagPending_raise_of _ _ e (displaceAll_flags (s := s.shutOff b) b h)

theorem dischargeFailed_flags (h : s.flagPending e = true) : s.dischargeFailed.flagPending e = true := by
  by_cases hs : s.compressor.state = .suspended ∨ s.compressor.state = .lockout
  · rw [dischargeFailed_stands hs]
    exact h
  · rw [not_or] at hs
    rw [dischargeFailed_locks hs.1 hs.2]
    exact flagPending_raise_of (s.modCmp _) _ e h

theorem coolantFailed_flags (h : s.flagPending e = true) : s.coolantFailed.flagPending e = true := by
  unfold State.coolantFailed State.faultArises
  dsimp only
  split
  · exact h
  · split
    · exact h
    · exact flagPending_raise_of _ _ e ((releaseSlots_left (State.setChiller _ .fault)).fills.flags e h)

/-- R172: a failure that is told leaves the flags that are pending. -/
theorem notifyFailed_flags (r : Role) (h : s.flagPending e = true) : (s.notifyFailed r).flagPending e = true := by
  cases r with
  | pDisp p => exact endFill_flags p _ h
  | tGas p => exact senseDoubt_flags p h
  | bankP b => exact isolate_flags b h
  | supply => exact supplyFailed_flags e h
  | discharge => exact dischargeFailed_flags h
  | coolant => exact coolantFailed_flags h
  | bankT b => exact h
  | ambient => exact h

end

end Sys2Proof.Machine
end

section
/-! PROOFS. Samples and the ends of grace times, whole (O41; R110, R148, R150, R155, R156, R165, R170 to R172). -/

namespace Sys2Proof.Machine

/-! ### The coolant -/

section
variable {k u : State} {v : Nat}

/-- R155 (2): the coolant cause clears when the channel returns to OK. -/
theorem notifyTaken_coolant (u : State) (v : Nat) (was : ChannelState) : u.notifyTaken .coolant v (was != .ok) =
    State.coolantTaken { u with
      precool := { u.precool with coolantCause := if was = .ok then u.precool.coolantCause else false } } v := by
  cases was <;> rfl

theorem coolantTaken_causes (k : State) (v : Nat) : (k.coolantTaken v).precool.faultLine = k.precool.faultLine ∧
    (k.coolantTaken v).precool.coolantCause = k.precool.coolantCause := by
  by_cases hout : k.precool.chiller = .off ∨ k.precool.chiller = .fault
  · rw [coolantTaken_out hout]
    exact ⟨rfl, rfl⟩
  · have hin : k.precool.chiller = .pulldown ∨ k.precool.chiller = .ready := by
      cases h : k.precool.chiller <;> simp [h] at hout ⊢
    by_cases hv : v ≤ k.site.limitG3 - k.site.approach
    · rcases hin with h | h
      · have hg := makeGrants_only { k with
          precool := { k.precool with coolantSeen := true, chiller := .ready, offered := k.site.gradeFor v } }
        rw [coolantTaken_enters h hv]
        exact ⟨hg.faultLine, hg.coolantCause⟩
      · rw [coolantTaken_stays h hv]
        exact ⟨rfl, rfl⟩
    · rw [coolantTaken_warm hin (Nat.not_le.1 hv)]
      exact ⟨rfl, rfl⟩

/-- R156, R160: a coolant value in PULLDOWN and in READY. -/
theorem coolantTaken_in (h : k.precool.chiller = .pulldown ∨ k.precool.chiller = .ready) :
    let t := k.coolantTaken v
    let moved : State := { k with
      precool := { k.precool with chiller := t.precool.chiller, offered := t.precool.offered, coolantSeen := true } }
    t.precool.chiller = (if v ≤ k.site.limitG3 - k.site.approach then .ready else .pulldown) ∧
    t.precool.coolantSeen = true ∧
    t.precool.offered = (if k.site.limitG3 - k.site.approach < v then .g0 else k.site.gradeFor v) ∧
    (k.precool.chiller = .pulldown → v ≤ k.site.limitG3 - k.site.approach → t = moved.makeGrants) ∧
    ((k.precool.chiller = .ready ∨ k.site.limitG3 - k.site.approach < v) → t = moved) := by
  intro t moved
  by_cases hv : v ≤ k.site.limitG3 - k.site.approach
  · rw [if_pos hv, if_neg (Nat.not_lt.2 hv)]
    rcases h with h | h
    · have hg := makeGrants_only { k with
        precool := { k.precool with coolantSeen := true, chiller := .ready, offered := k.site.gradeFor v } }
      have ht : t = State.makeGrants _ := coolantTaken_enters h hv
      have hchiller : t.precool.chiller = .ready := (congrArg (·.precool.chiller) ht).trans hg.chiller
      have hoffered : t.precool.offered = k.site.gradeFor v := (congrArg (·.precool.offered) ht).trans hg.offered
      refine ⟨hchiller, (congrArg (·.precool.coolantSeen) ht).trans hg.coolantSeen, hoffered, fun _ _ => ?_, fun hx => ?_⟩
      · simp only [moved]
        rw [hchiller, hoffered]
        exact ht
      · rcases hx with hx | hx
        · rw [h] at hx
          cases hx
        · exact absurd hv (Nat.not_le.2 hx)
    · have ht : t = _ := coolantTaken_stays h hv
      simp only [moved]
      rw [ht]
      exact ⟨rfl, rfl, rfl, fun hx => (by rw [h] at hx; cases hx), fun _ => rfl⟩
  · have ht : t = _ := coolantTaken_warm h (Nat.not_le.1 hv)
    simp only [moved]
    rw [if_neg hv, if_pos (Nat.not_le.1 hv), ht]
    exact ⟨rfl, rfl, rfl, fun _ hx => absurd hx hv, fun _ => rfl⟩

end

/-! ### The failure of a channel -/

section
variable {s : State} {c : Fin 32}

/-- R171: a channel that has failed, with its flag. -/
def State.channelFailed (s : State) (c : Fin 32) : State :=
  { s with
    channels := setAt s.channels c { s.chan c with state := .failed, grace := none }
    pendingFlags := s.pendingFlags ||| 0x400000#27 }

theorem channelFailed_eq (s : State) (c : Fin 32) : s.channelFailed c =
    (s.setChan c { s.chan c with state := .failed, grace := none }).raise .channelFailed := rfl

theorem failChannel_none (h : (s.chanCfg c).user = none) : s.failChannel c = s.channelFailed c := by
  have h' : ((s.channelFailed c).chanCfg c).user = none := h
  rw [State.failChannel, ← channelFailed_eq, State.notify, h']

theorem failChannel_some {r : Role} (h : (s.chanCfg c).user = some r) : s.failChannel c = (s.channelFailed c).notifyFailed r := by
  rw [State.failChannel, ← channelFailed_eq]
  exact notify_some (s := s.channelFailed c) h _

theorem channelFailed_flag (s : State) (c : Fin 32) : (s.channelFailed c).flagPending .channelFailed = true :=
  raise_flag (s.setChan c _) .channelFailed

theorem failChannel_keeps (s : State) (c : Fin 32) : (s.failChannel c).base = (s.channelFailed c).base ∧
    (s.failChannel c).flagPending .channelFailed = true := by
  cases h : (s.chanCfg c).user with
  | none =>
    rw [failChannel_none h]
    exact ⟨rfl, channelFailed_flag s c⟩
  | some r =>
    rw [failChannel_some h]
    exact ⟨notifyFailed_base _ r, notifyFailed_flags r (channelFailed_flag s c)⟩

/-- R171: what the failure of a channel does to its user; what the failed channel held before does not matter. -/
theorem failChannel_tells (u : State) (c : Fin 32) :
    let failed := u.channelFailed c
    let t := u.failChannel c
    (∀ p, (u.chanCfg c).user = some (.pDisp p) → (u.pos p).state.filling = true → fillEnds failed t p .sensorFail) ∧
    (∀ p, (u.chanCfg c).user = some (.pDisp p) → (u.pos p).state.filling = false → noGrantDue u → t = failed) ∧
    (∀ p, (u.chanCfg c).user = some (.tGas p) → noGrantDue u → sensorFollows failed t p) ∧
    (∀ b, (u.chanCfg c).user = some (.bankP b) →
      ((u.bank b).isolated = true → t = failed) ∧ ((u.bank b).isolated = false → bankIsolates failed t b)) ∧
    (∀ b, (u.chanCfg c).user = some (.bankT b) → t = failed) ∧
    ((u.chanCfg c).user = some .supply → t.compressor.supply = .noValue ∧
      (u.compressor.supply = .noValue → t = failed) ∧
      (u.compressor.supply ≠ .noValue → t.compressor.state.motorOn = false ∧ t.flagPending .supplyLow = true)) ∧
    ((u.chanCfg c).user = some .discharge →
      ((u.compressor.state = .suspended ∨ u.compressor.state = .lockout) → t = failed) ∧
      (u.compressor.state ≠ .suspended → u.compressor.state ≠ .lockout → t = failed.enterLockout)) ∧
    ((u.chanCfg c).user = some .coolant →
      let caused : State := { failed with precool := { u.precool with coolantCause := true } }
      ((u.precool.coolantCause = true ∨ u.precool.chiller = .fault) → t = caused) ∧
      (u.precool.coolantCause = false → u.precool.chiller ≠ .fault → chillerFaults caused t)) ∧
    (((u.chanCfg c).user = none ∨ (u.chanCfg c).user = some .ambient) → t = failed) := by
  intro failed t
  have htold (r : Role) (h : (u.chanCfg c).user = some r) : t = failed.notifyFailed r := failChannel_some h
  refine ⟨fun p h hf => ?_, fun p h hf hn => ?_, fun p h hn => ?_, fun b h => ?_, fun b h => htold _ h, fun h => ?_, fun h => ?_,
    fun h => ?_, fun h => ?_⟩
  · rw [htold _ h]
    exact endFill_ends (s := failed) _ hf
  · rw [htold _ h]
    exact endFill_idle (s := failed) _ hf hn
  · rw [htold _ h]
    exact senseDoubt_follows (s := failed) hn
  · rw [htold _ h]
    exact ⟨fun hi => isolate_again (s := failed) hi, fun hi => isolate_isolates (s := failed) hi⟩
  · rw [htold _ h]
    exact supplyFailed_fails (u := failed)
  · rw [htold _ h]
    exact ⟨fun hs => dischargeFailed_stands (u := failed) hs, fun hs hl => dischargeFailed_locks (u := failed) hs hl⟩
  · rw [htold _ h]
    exact ⟨fun hc => coolantFailed_stands (u := failed) hc, fun hc hf => coolantFailed_faults (u := failed) hc hf⟩
  · rcases h with h | h
    · exact failChannel_none h
    · exact htold _ h

end

theorem senseDoubt_banks (s : State) (p : Fin 4) : (s.senseDoubt p).banks = s.banks := by
  unfold State.senseDoubt
  split
  · exact (makeGrants_fills _).banks.trans (activateCore_fill s p .sensor).banks
  · exact (clearFactor_fill s p .sensor).banks

/-- R110, R172: a change to HELD is told; only the P_disp and T_gas channels of a position have it do something. -/
theorem notifyHeld_tells (s : State) (r : Role) : (s.notifyHeld r).banks = s.banks ∧
    ((∀ p, r ≠ .pDisp p ∧ r ≠ .tGas p) → s.notifyHeld r = s) ∧
    ∀ p, (r = .pDisp p ∨ r = .tGas p) → noGrantDue s → sensorFollows s (s.notifyHeld r) p := by
  cases r with
  | pDisp p =>
    refine ⟨senseDoubt_banks s p, fun h => absurd rfl (h p).1, fun q hq hn => ?_⟩
    obtain rfl : p = q := by simpa using hq
    exact senseDoubt_follows hn
  | tGas p =>
    refine ⟨senseDoubt_banks s p, fun h => absurd rfl (h p).2, fun q hq hn => ?_⟩
    obtain rfl : p = q := by simpa using hq
    exact senseDoubt_follows hn
  | bankP b | bankT b | supply | discharge | coolant | ambient => exact ⟨rfl, fun _ => rfl, fun p hp => by simp at hp⟩

/-- R171: the end of a grace time, whole. -/
theorem graceTimerExpiry_fails {s : State} {c : Fin 32} {d : Nat} (hd : (s.chan c).grace = some d) :
    exec (.graceTimerExpiry c) s = .next ((s.elapse d).failChannel c) :=
  exec_of_timeLeft (c := .graceTimerExpiry c) rfl hd

/-- Settles O41: samples of a source without a channel, values in window and out of window by the role of the channel, and the
end of a grace time. -/
theorem samplesAndGraceTimesMoveChannels : Obligations.SamplesAndGraceTimesMoveChannels := by
  refine ⟨fun x w s h => sample_none h, fun x w s c r hu hsource hfirst => ?_, fun c s d hd => ?_⟩
  · intro v inWindow taken held
    have hv : (s.chanCfg c).kind.clamp w.toNat = v := by
      simp only [v]
      cases (s.chanCfg c).kind <;> rfl
    have hx : exec (.sampleArrival x w) s = .next (s.channelSample c v) := hv ▸ sample_at hu hsource hfirst
    refine ⟨fun hw => ?_, fun hw hok => ?_, fun hw hok => by rw [hx, channelSample_stands hw hok]⟩
    · have ht : s.channelSample c v = taken.notifyTaken r v ((s.chan c).state != .ok) := channelSample_taken hu hw
      have hsame : (s.chan c).state = .ok → ((s.chan c).state != .ok) = false := fun h => by rw [h]; rfl
      have hother : (s.chan c).state ≠ .ok → ((s.chan c).state != .ok) = true := fun h => bne_iff_ne.2 h
      have hchan : taken.chan c = ⟨.ok, v, true, some (s.chanCfg c).grace⟩ := get_setAt_self _ _ _
      rw [ht] at hx
      refine ⟨_, hx, notifyTaken_base _ _ _ _, ?_, fun p => ?_, fun p => ?_, fun b => ?_, fun b => ?_, ?_, ?_, ?_, ?_, ?_, ?_, ?_, ?_,
        ?_, ?_⟩
      · rintro rfl
        rfl
      · rintro rfl hn
        refine ⟨fun h => ?_, fun h => ?_⟩
        · rw [hsame h]
          rfl
        · rw [hother h]
          exact senseDoubt_follows (s := taken) hn
      · rintro rfl hn
        refine ⟨if (s.chan c).state != .ok then taken.senseDoubt p else taken, fun h => ?_, fun h => ?_, tGasTaken_moves _ p v⟩
        · rw [hsame h]
          rfl
        · rw [hother h]
          exact senseDoubt_follows (s := taken) hn
      · rintro rfl
        obtain ⟨hp, ht, hne, hinv⟩ := bankPressureTaken_reads taken b v
        refine ⟨hp, ht, hne, hinv, fun hr => bankPressureTaken_over (u := taken) hr, fun hr => ?_⟩
        obtain ⟨hisol, htick, hpcl, hreports, hrefill⟩ := bankPressureTaken_moves (u := taken) hr
        exact ⟨hisol, htick, hpcl, hreports, hrefill, fun hq hn htarget hstart =>
          bankPressureTaken_dequeued (u := taken) hr hq hn htarget hstart, fun hcom hserv hi hc hstart htarget ha =>
          bankPressureTaken_queued (u := taken) hr hcom hserv hi hc (by rw [hchan]) hstart htarget ha⟩
      · rintro rfl
        exact bankTemperatureTaken_moves taken b v
      · rintro rfl
        exact supplyTaken_supply taken v
      · rintro rfl h
        exact supplyTaken_same (u := taken) h
      · rintro rfl h hc
        exact supplyTaken_cleared (u := taken) h hc
      · rintro rfl hlow h
        exact supplyTaken_below (u := taken) hlow h
      · rintro rfl hhot hs hl
        have e : taken.notifyTaken .discharge v ((s.chan c).state != .ok) = taken.enterLockout :=
          dischargeTaken_locks (u := taken) hhot hs hl
        rw [e]
        exact ⟨rfl, rfl, rfl, raise_flag _ _⟩
      · rintro rfl hhot hl
        exact dischargeTaken_restarts (u := taken) hhot hl
      · rintro rfl h
        exact dischargeTaken_stands (u := taken) h
      · rintro rfl
        rw [notifyTaken_coolant]
        exact coolantTaken_causes _ v
      · rintro rfl hout
        rw [notifyTaken_coolant, (coolantTaken_causes _ v).2]
        exact coolantTaken_out hout
      · rintro rfl hin
        rw [notifyTaken_coolant, (coolantTaken_causes _ v).2]
        exact coolantTaken_in hin
    · have ht : s.channelSample c v = held.notifyHeld r := channelSample_held hu hw hok
      rw [ht] at hx
      exact ⟨_, hx, notifyHeld_base _ _, notifyHeld_tells held r⟩
  · intro u failed
    have hcfg : u.chanCfg c = s.chanCfg c := elapse_chanCfg _ _ _
    obtain ⟨hp, hidle, hgas, hbp, hbt, hsup, hdis, hcool, hnone⟩ := failChannel_tells u c
    obtain ⟨hbase, hflag⟩ := failChannel_keeps u c
    rw [hcfg] at hsup hdis hcool hnone
    simp only [hcfg] at hp hidle hgas hbp hbt
    refine ⟨_, graceTimerExpiry_fails hd, hbase, hflag, fun p h hf => ?_, fun p h hf hn => ?_, hgas, fun b h => ?_, hbt, fun h => ?_,
      fun h => ?_, fun h => ?_, hnone⟩
    · exact hp p h ((congrArg PosState.filling (elapse_pos_state d s p)).trans hf)
    · exact hidle p h ((congrArg PosState.filling (elapse_pos_state d s p)).trans hf) hn
    · have hb := hbp b h
      rw [State.bank, elapse_banks] at hb
      exact hb
    · have hs := hsup h
      rw [elapse_compressor_supply] at hs
      exact hs
    · have hs := hdis h
      rw [elapse_compressor_state] at hs
      exact hs
    · obtain ⟨hstands, hfaults⟩ := hcool h
      rw [elapse_precool_coolantCause, elapse_precool_chiller] at hstands hfaults
      exact ⟨hstands, hfaults⟩

end Sys2Proof.Machine
end

section
/-! PROOFS. COMMISSION: its tests in order, and how it opens the positions, queues the banks, switches on the chiller and makes
the start test (O16; R47, R134, R142, R154, R158, R160, R182). -/

namespace Sys2Proof.Machine

/-! ### The tests -/

section
variable {s : State} {p : Fin 4} {b : Fin 6}

theorem finRange_findSome?_eq_some {α : Type} {n : Nat} {f : Fin n → Option α} {i : Fin n} {a : α} (hi : f i = some a)
    (hlow : ∀ j < i, f j = none) : (List.finRange n).findSome? f = some a := by
  rw [← Fin.findSome?_eq_findSome?_finRange]
  exact Fin.findSome?_eq_some_iff.2 ⟨i, hi, hlow⟩

theorem finRange_findSome?_eq_none {α : Type} {n : Nat} {f : Fin n → Option α} (h : ∀ i, f i = none) :
    (List.finRange n).findSome? f = none := by
  rw [← Fin.findSome?_eq_findSome?_finRange]
  exact Fin.findSome?_eq_none_iff.2 h

theorem positionItem_eq (s : State) (p : Fin 4) :
    s.positionItem p = if positionFault s p = 0 then none else some (positionFault s p) := by
  unfold State.positionItem positionFault
  dsimp only
  rw [configured_eq, configured_eq]
  cases (s.cfg p).inService with
  | false => rfl
  | true =>
    cases hp : s.price (s.cfg p).nozzleClass with
    | none => rfl
    | some x =>
      cases namesFor s (s.cfg p).pDisp (.pDisp p) && namesFor s (s.cfg p).tGas (.tGas p) with
      | false => rfl
      | true => by_cases hw : s.pulseWeights.get p = 0 <;> simp [hw]

theorem bankItem_eq (s : State) (b : Fin 6) : s.bankItem b = if bankPasses s b then none else some 4 := by
  unfold State.bankItem bankPasses
  dsimp only
  rw [configured_eq, configured_eq]
  cases (s.bankCfg b).inService with
  | false => rfl
  | true =>
    cases namesFor s (s.bankCfg b).pChannel (.bankP b) && namesFor s (s.bankCfg b).tChannel (.bankT b) <;> rfl

/-- R182 test 4: the first position that fails names the refusal. -/
theorem commissionFault_position (hp : positionFault s p ≠ 0) (hlow : ∀ q, q < p → positionFault s q = 0) :
    s.commissionFault = some [BitVec.ofNat 8 (positionFault s p), BitVec.ofNat 8 p.val] := by
  have h : (allPositions.findSome? fun q => (s.positionItem q).map fun i => [out8 i, out8 q.val]) =
      some [out8 (positionFault s p), out8 p.val] := finRange_findSome?_eq_some (n := 4) (i := p)
    (by rw [positionItem_eq, if_neg hp, Option.map_some]) fun q hq => by rw [positionItem_eq, if_pos (hlow q hq), Option.map_none]
  rw [State.commissionFault, h]
  rfl

theorem positions_pass (hp : ∀ p, positionFault s p = 0) :
    (allPositions.findSome? fun q => (s.positionItem q).map fun i => [out8 i, out8 q.val]) = none :=
  finRange_findSome?_eq_none (n := 4) fun q => by rw [positionItem_eq, if_pos (hp q), Option.map_none]

/-- R182 test 5: the first bank that fails. -/
theorem commissionFault_bank (hp : ∀ p, positionFault s p = 0) (hb : bankPasses s b = false)
    (hlow : ∀ c, c < b → bankPasses s c = true) : s.commissionFault = some [4, BitVec.ofNat 8 b.val] := by
  have h : (allBanks.findSome? fun c => (s.bankItem c).map fun i => [out8 i, out8 c.val]) = some [out8 4, out8 b.val] :=
    finRange_findSome?_eq_some (n := 6) (i := b) (by rw [bankItem_eq, hb]; rfl) fun c hc => by rw [bankItem_eq, hlow c hc]; rfl
  rw [State.commissionFault, positions_pass hp, h]
  rfl

theorem commissionFault_none (hp : ∀ p, positionFault s p = 0) (hb : ∀ b, bankPasses s b = true) : s.commissionFault = none := by
  have h : (allBanks.findSome? fun c => (s.bankItem c).map fun i => [out8 i, out8 c.val]) = none :=
    finRange_findSome?_eq_none (n := 6) fun c => by rw [bankItem_eq, hb c]; rfl
  rw [State.commissionFault, positions_pass hp, h]
  rfl

end

/-! ### The positions -/

section
variable {s : State}

/-- R47 (1), R94 (2): a position at COMMISSION. -/
def State.openedPosition (s : State) (p : Fin 4) : Position :=
  if (s.cfg p).inService then
    { s.pos p with
      state := if (s.debouncers.holster.get p).level then .idle else .calling
      link :=
        if (s.debouncers.holster.get p).level = false ∧ (s.debouncers.coupling.get p).level = true ∧ (s.pos p).link.state = .off
        then { LinkContext.off with state := .listen } else (s.pos p).link }
  else s.pos p

theorem commissionPosition_eq (s : State) (p : Fin 4) : s.commissionPosition p =
    { s with positions := setAt s.positions p (s.openedPosition p) } := by
  unfold State.commissionPosition State.openedPosition
  cases hs : (s.cfg p).inService with
  | false => exact congrArg (fun P => ({ s with positions := P } : State)) (setAt_get_self s.positions p).symm
  | true =>
    cases hh : (s.debouncers.holster.get p).level with
    | true => rfl
    | false =>
      simp only [Bool.false_eq_true, if_false, if_true, true_and]
      exact enterCalling_eq s p

theorem foldl_commissionPosition (l : List (Fin 4)) (hl : l.Nodup) (s : State) :
    l.foldl State.commissionPosition s = { s with positions := (l.foldl State.commissionPosition s).positions } ∧
    ∀ p, (l.foldl State.commissionPosition s).pos p = if p ∈ l then s.openedPosition p else s.pos p := by
  induction l generalizing s with
  | nil => exact ⟨rfl, fun _ => rfl⟩
  | cons a l ih =>
    obtain ⟨hna, hl⟩ := List.nodup_cons.1 hl
    obtain ⟨hrest, hpos⟩ := ih hl (s.commissionPosition a)
    rw [List.foldl_cons]
    refine ⟨hrest.trans ?_, fun p => (hpos p).trans ?_⟩
    · rw [commissionPosition_eq]
    · have he (x : Position) (h : p ≠ a) :
          ({ s with positions := setAt s.positions a x } : State).pos p = s.pos p := get_setAt_ne _ _ h
      rw [commissionPosition_eq]
      by_cases h : p = a
      · subst h
        rw [if_neg hna, if_pos List.mem_cons_self]
        exact get_setAt_self _ _ _
      · rw [he _ h, State.openedPosition, he _ h]
        by_cases hm : p ∈ l
        · rw [if_pos hm, if_pos (List.mem_cons_of_mem a hm)]
          rfl
        · rw [if_neg hm, if_neg fun hx => hm ((List.mem_cons.1 hx).resolve_left h)]

end

/-! ### The banks -/

section
variable {s : State}

/-- The state with another refill queue. -/
def State.withQueue (s : State) (l : List (Fin 6)) : State := { s with compressor := { s.compressor with queue := l } }

theorem queueEntryAtCommission_eq (s : State) (b : Fin 6) : ∃ l, s.queueEntryAtCommission b = s.withQueue l ∧
    ∀ x, x ∈ l ↔ x ∈ s.compressor.queue ∨ x = b ∧ asksForRefill s b := by
  by_cases h : asksForRefill s b
  · refine ⟨insertQueue (fun x => (s.bankCfg x).rated) b s.compressor.queue, if_pos (wantsRefill_asks.2 h), fun x => ?_⟩
    rw [mem_insertQueue, and_iff_left h, or_comm]
  · refine ⟨s.compressor.queue, if_neg (mt wantsRefill_asks.1 h), fun x => ?_⟩
    rw [or_iff_left fun hx => h hx.2]

/-- R134, R182: the banks that ask are queued; the queue alone changes. -/
theorem foldl_queueEntryAtCommission (l : List (Fin 6)) (s : State) : ∃ Q,
    l.foldl State.queueEntryAtCommission s = s.withQueue Q ∧
    ∀ x, x ∈ Q ↔ x ∈ s.compressor.queue ∨ x ∈ l ∧ asksForRefill s x := by
  induction l generalizing s with
  | nil => exact ⟨s.compressor.queue, rfl, fun x => by simp⟩
  | cons b l ih =>
    obtain ⟨m, hb, hm⟩ := queueEntryAtCommission_eq s b
    obtain ⟨Q, hQ, hmem⟩ := ih (s.withQueue m)
    refine ⟨Q, by rw [List.foldl_cons, hb, hQ]; rfl, fun x => (hmem x).trans ?_⟩
    have hasks : asksForRefill (s.withQueue m) x ↔ asksForRefill s x ∧ x ∉ m := by
      have hx : x ∉ m → x ∉ s.compressor.queue := fun hn hq => hn ((hm x).2 (.inl hq))
      refine ⟨fun ⟨hcom, hserv, hi, hknown, hlow, ha, hn⟩ => ⟨⟨hcom, hserv, hi, hknown, hlow, ha, hx hn⟩, hn⟩, fun h => ?_⟩
      obtain ⟨⟨hcom, hserv, hi, hknown, hlow, ha, -⟩, hn⟩ := h
      exact ⟨hcom, hserv, hi, hknown, hlow, ha, hn⟩
    have hq : x ∈ (s.withQueue m).compressor.queue ↔ x ∈ s.compressor.queue ∨ x = b ∧ asksForRefill s b := hm x
    have hn := hm x
    rw [hq, hasks, hn, List.mem_cons]
    by_cases h : x = b
    · subst h
      tauto
    · tauto

end

/-! ### The chiller -/

section
variable {s : State}

/-- R154, R158 (1), R160: COMMISSION at a chiller that nothing holds or waits for. -/
theorem commissionChiller_switches (hh : s.precool.holders = .empty) (hq : s.precool.waitQueue = []) :
    let t := s.commissionChiller
    t = { s with precool := t.precool, pendingFlags := t.pendingFlags } ∧
    (t.precool.chiller =
      if s.precool.chiller ≠ .off then s.precool.chiller
      else if s.precool.faultLine = true ∨ s.precool.coolantCause = true then .fault
      else if s.precool.coolantSeen = true ∧ ∃ v, s.coolantValue = some v ∧ v ≤ s.site.limitG3 - s.site.approach then
        .ready
      else .pulldown) ∧
    (t.precool.chiller ≠ .ready → t.precool.offered = .g0) ∧
    ∀ v, t.precool.chiller = .ready → s.coolantValue = some v → t.precool.offered = s.site.gradeFor v := by
  intro t
  by_cases hoff : s.precool.chiller = .off
  · have ht : t = s.switchChillerOn := if_pos hoff
    rw [if_neg (not_not.2 hoff)]
    by_cases hcause : s.precool.faultLine = true ∨ s.precool.coolantCause = true
    · have he : t = (s.setChiller .fault).raise .precoolFault := by
        rw [ht, switchChillerOn_faults hcause, State.enterFault, releaseSlots_none (s := s.setChiller .fault) hh]
      rw [if_pos hcause, he]
      exact ⟨rfl, rfl, fun _ => rfl, fun v hv => (by cases hv)⟩
    · rw [if_neg hcause]
      rw [switchChillerOn_starts hcause] at ht
      by_cases hcold : s.precool.coolantSeen = true ∧ ∃ v, s.coolantValue = some v ∧ v ≤ s.site.limitG3 - s.site.approach
      · obtain ⟨hseen, v, hv, hle⟩ := id hcold
        have he : t = s.setReady v := by
          rw [ht, enterPulldown_cold hseen hv hle]
          exact makeGrants_of_noGrantDue (.inr hq)
        rw [if_pos hcold, he]
        refine ⟨rfl, rfl, fun hn => absurd rfl hn, fun w _ hw => ?_⟩
        obtain rfl : w = v := Option.some.inj (hw.symm.trans hv)
        rfl
      · rw [if_neg hcold, ht, enterPulldown_warm hcold]
        exact ⟨rfl, rfl, fun _ => rfl, fun v hv => (by cases hv)⟩
  · have ht : t = s.recomputeOffered := if_neg hoff
    rw [if_pos hoff, ht]
    exact ⟨rfl, rfl, recomputeOffered_notReady s, fun v hr hv => recomputeOffered_ready s hr hv⟩

end

/-! ### The compressor -/

section
variable {s : State}

theorem compressorStartTest_queue (s : State) : s.compressorStartTest.compressor.queue = s.compressor.queue := by
  unfold State.compressorStartTest State.waitForCredit
  repeat' split
  all_goals rfl

/-- R142, R147: the start test of a STOPPED compressor starts the motor exactly when it is ready and has a credit. -/
theorem compressorStartTest_starting (hst : s.compressor.state = .stopped) :
    s.compressorStartTest.compressor.state = .starting ↔ s.startReady = true ∧ 0 < s.compressor.credits := by
  have hstop : CompressorState.stopped ≠ .starting := fun h => by cases h
  unfold State.compressorStartTest State.waitForCredit
  rw [if_pos hst]
  cases hr : s.startReady with
  | false => exact iff_of_false (fun h => hstop (hst.symm.trans h)) fun h => by cases h.1
  | true =>
    rw [if_pos rfl]
    by_cases hc : 0 < s.compressor.credits
    · rw [if_pos hc]
      exact iff_of_true rfl ⟨rfl, hc⟩
    · rw [if_neg hc]
      refine iff_of_false (fun h => hstop (hst.symm.trans ?_)) fun h => hc h.2
      split at h <;> exact h

end

end Sys2Proof.Machine
end

section
/-! PROOFS. COMMISSION, whole (O16). -/

namespace Sys2Proof.Machine

section
variable {s : State}

/-- R182: a commissioned site with its positions and its refill queue. -/
def State.opened (s : State) (P : Vector Position 4) (Q : List (Fin 6)) : State :=
  { s with commissioned := true, positions := P, compressor := { s.compressor with queue := Q } }

/-- R182: the positions and the banks of a site at COMMISSION; the chiller and the start test follow. -/
theorem commission_opens (s : State) (hq : s.compressor.queue = []) (ha : s.compressor.activeBank = none) : ∃ P Q,
    s.commission = (s.opened P Q).commissionChiller.compressorStartTest ∧ (∀ p, P.get p = s.openedPosition p) ∧
    ∀ b, b ∈ Q ↔ (s.bankCfg b).inService = true ∧ (s.bank b).isolated = false ∧ pressureKnown s b ∧
      (s.bank b).p < (s.bankCfg b).refillStart := by
  obtain ⟨hopen, hpos⟩ := foldl_commissionPosition allPositions (List.nodup_finRange 4) { s with commissioned := true }
  obtain ⟨Q, hQ, hmem⟩ := foldl_queueEntryAtCommission allBanks (allPositions.foldl State.commissionPosition { s with commissioned := true })
  refine ⟨(allPositions.foldl State.commissionPosition { s with commissioned := true }).positions, Q, ?_, fun p => ?_, fun b => ?_⟩
  · unfold State.commission
    dsimp only
    rw [hQ]
    generalize allPositions.foldl State.commissionPosition { s with commissioned := true } = t at hopen
    rw [hopen]
    rfl
  · exact (hpos p).trans (if_pos (List.mem_finRange (n := 4) p))
  · refine (hmem b).trans ?_
    generalize allPositions.foldl State.commissionPosition { s with commissioned := true } = t at hopen
    rw [hopen]
    refine ⟨fun h => ?_, fun h => ?_⟩
    · rcases h with h | ⟨-, -, hserv, hi, hknown, hlow, -⟩
      · exact absurd (hq ▸ h : b ∈ []) List.not_mem_nil
      · exact ⟨hserv, hi, hknown, hlow⟩
    · obtain ⟨hserv, hi, hknown, hlow⟩ := h
      refine .inr ⟨List.mem_finRange (n := 6) b, rfl, hserv, hi, hknown, hlow, fun h => ?_, fun h => ?_⟩
      · exact Option.some_ne_none b (h.symm.trans ha)
      · exact absurd (hq ▸ h : b ∈ []) List.not_mem_nil

theorem commission_base (s : State) : s.commission.base = ({ s with commissioned := true } : State).base := by
  unfold State.commission
  dsimp only
  rw [compressorStartTest_base, commissionChiller_base, foldl_base _ queueEntryAtCommission_base,
    foldl_base _ commissionPosition_base]

/-- R182: what COMMISSION makes of a site at which nothing holds or waits for a slot and nothing is queued. -/
theorem commission_starts (hh : s.precool.holders = .empty) (hw : s.precool.waitQueue = []) (hq : s.compressor.queue = [])
    (ha : s.compressor.activeBank = none) :
    let t := s.commission
    t.base = ({ s with commissioned := true } : State).base ∧ t.tickets = s.tickets ∧ t.banks = s.banks ∧ t.waiting = s.waiting ∧
    (∀ p, t.pos p = s.openedPosition p) ∧
    (∀ b, b ∈ t.compressor.queue ↔ (s.bankCfg b).inService = true ∧ (s.bank b).isolated = false ∧ pressureKnown s b ∧
      (s.bank b).p < (s.bankCfg b).refillStart) ∧
    (t.precool.chiller =
      if s.precool.chiller ≠ .off then s.precool.chiller
      else if s.precool.faultLine = true ∨ s.precool.coolantCause = true then .fault
      else if s.precool.coolantSeen = true ∧ ∃ v, s.coolantValue = some v ∧ v ≤ s.site.limitG3 - s.site.approach then
        .ready
      else .pulldown) ∧
    (t.precool.chiller ≠ .ready → t.precool.offered = .g0) ∧
    (∀ v, t.precool.chiller = .ready → s.coolantValue = some v → t.precool.offered = s.site.gradeFor v) ∧
    (s.compressor.state = .stopped →
      (t.compressor.state = .starting ↔
        (∃ b ∈ t.compressor.queue, ∀ p, (s.pos p).drawBank ≠ some b) ∧ 0 < s.compressor.credits ∧
        s.compressor.supply = .clear ∧ s.compressor.esdCause = false)) := by
  intro t
  obtain ⟨P, Q, ht, hP, hQ⟩ := commission_opens s hq ha
  obtain ⟨hk, hchiller, hwarm, hcold⟩ := commissionChiller_switches (s := s.opened P Q) hh hw
  have ht : t = (s.opened P Q).commissionChiller.compressorStartTest := ht
  have hbase : t.base = ({ s with commissioned := true } : State).base := commission_base s
  clear_value t
  generalize (s.opened P Q).commissionChiller = k at *
  have honly := compressorStartTest_only k
  have hqueue := compressorStartTest_queue k
  have hstart := compressorStartTest_starting (s := k)
  unfold CompressorOnly at honly
  rw [← ht] at honly hqueue hstart
  obtain ⟨hktick, hkbanks, hkwait, hkcom, hkpos, hkcmp⟩ : k.tickets = s.tickets ∧ k.banks = s.banks ∧ k.waiting = s.waiting ∧
      k.commissioned = true ∧ k.positions = P ∧ k.compressor = { s.compressor with queue := Q } := by
    rw [hk]
    exact ⟨rfl, rfl, rfl, rfl, rfl, rfl⟩
  obtain ⟨httick, htbanks, htwait, htpos, htpcl⟩ : t.tickets = k.tickets ∧ t.banks = k.banks ∧ t.waiting = k.waiting ∧
      t.positions = k.positions ∧ t.precool = k.precool := by
    rw [honly]
    exact ⟨rfl, rfl, rfl, rfl, rfl⟩
  have hopened (p : Fin 4) : k.pos p = s.openedPosition p := by rw [State.pos, hkpos, hP]
  have hdraw (p : Fin 4) : (k.pos p).drawBank = (s.pos p).drawBank := by
    rw [hopened, State.openedPosition]
    split <;> rfl
  have htq : t.compressor.queue = Q := by rw [hqueue, hkcmp]
  rw [htpcl, htq]
  refine ⟨hbase, httick.trans hktick, htbanks.trans hkbanks, htwait.trans hkwait, fun p => ?_, hQ, hchiller, hwarm, hcold, fun hst => ?_⟩
  · rw [State.pos, htpos]
    exact hopened p
  · rw [hstart (by rw [hkcmp]; exact hst), startReady_iff, hkcmp, hkcom]
    simp only [hdraw, ha, ne_eq, reduceCtorEq, not_false_eq_true, true_and]
    exact ⟨fun ⟨⟨hb, hsup, hesd⟩, hc⟩ => ⟨hb, hc, hsup, hesd⟩, fun ⟨hb, hc, hsup, hesd⟩ => ⟨⟨hb, hsup, hesd⟩, hc⟩⟩

end

/-- R182: the tests of COMMISSION read nothing of the frames. -/
theorem takeFrame_commission (s : State) (c : Instr) : (∀ p, positionFault (s.takeFrame c) p = positionFault s p) ∧
    (∀ b, bankPasses (s.takeFrame c) b = bankPasses s b) ∧ (s.takeFrame c).tradeLockOpen = s.tradeLockOpen ∧
    (s.takeFrame c).commissioned = s.commissioned := by
  rw [takeFrame_eq]
  exact ⟨fun _ => rfl, fun _ => rfl, rfl, rfl⟩

/-- R179: a refused request with its payload changes nothing. -/
theorem answer_refuseWith {c : Instr} {h : Header} {code : Byte} {s : State} {body : State → Answer} {r : Result}
    {payload : List Byte} (hb : body (s.takeFrame c) = ⟨s.takeFrame c, r, payload⟩) :
    answer c h code s body = .next (s.answered c h code r payload) := by
  simp [answer, hb, State.answered]

theorem openedPosition_place (s : State) (p : Fin 4) : s.openedPosition p =
    if (s.cfg p).inService then
      { s.pos p with
        state := if (s.debouncers.holster.get p).level then .idle else .calling
        link := (s.openedPosition p).link }
    else s.pos p := by
  unfold State.openedPosition
  split <;> rfl

theorem openedPosition_link (s : State) (p : Fin 4) : (s.openedPosition p).link =
    if (s.cfg p).inService ∧ (s.debouncers.holster.get p).level = false ∧ (s.debouncers.coupling.get p).level = true ∧
      (s.pos p).link.state = .off
    then { LinkContext.off with state := .listen } else (s.pos p).link := by
  unfold State.openedPosition
  by_cases h : (s.cfg p).inService = true
  · simp only [h, if_true, true_and]
  · rw [if_neg h, if_neg fun hx => h hx.1]

/-- Settles O16: `commissionFault` gives the first failing item, and `commission_starts` the effect. -/
theorem commissionTestsAndStartsTheBlocks : Obligations.CommissionTestsAndStartsTheBlocks := by
  have hexec (h : Header) (s : State) (hs : h.sender = 0) : exec (.commission h) s = answer (.commission h) h 0x16 s fun s =>
      require (!s.commissioned) .refusedState s <| require (!s.tradeLockOpen) .locked s <|
      match s.commissionFault with
      | some item => ⟨s, .refusedState, item⟩
      | none => accept s.commission := by
    have hc : exec (.commission h) s = execCommission h s := rfl
    rw [hc, execCommission]
    simp only [stationOnly_station hs] <;> rfl
  refine ⟨fun h s hs => ?_, fun h s hs hcom hlock hp hb hh hw hq ha => ?_⟩
  · obtain ⟨hfault, hpass, hlock, hcom⟩ := takeFrame_commission s (.commission h)
    rw [hexec h s hs]
    refine ⟨fun hc => answer_refuse ?_, fun hc hl => answer_refuse ?_, fun hc hl => ⟨fun p hp hlow => answer_refuseWith ?_,
      fun b hp hb hlow => answer_refuseWith ?_⟩⟩
    · rw [hcom, hc]
      rfl
    · rw [hcom, hlock, hc, hl]
      rfl
    · rw [hcom, hlock, hc, hl, commissionFault_position (p := p) (by rwa [hfault]) fun q hq => (hfault q).trans (hlow q hq), hfault]
      rfl
    · rw [hcom, hlock, hc, hl, commissionFault_bank (fun p => (hfault p).trans (hp p)) ((hpass b).trans hb) fun c hc =>
        (hpass c).trans (hlow c hc)]
      rfl
  · obtain ⟨hfault, hpass, hlock', hcom'⟩ := takeFrame_commission s (.commission h)
    have hopen := takeFrame_change (c := .commission h) (s := s) (fun s => { s with commissioned := true }) (fun _ => rfl) fun _ _ => rfl
    rw [hexec h s hs]
    refine ⟨_, answer_accept (t := (s.takeFrame (.commission h)).commission) ?_, ?_⟩
    · rw [hcom', hcom, hlock', hlock, commissionFault_none (fun p => (hfault p).trans (hp p)) fun b => (hpass b).trans (hb b)]
      rfl
    · rw [State.answered, hopen, takeFrame_eq s]
      obtain ⟨hbase, htick, hbanks, hwait, hpos, hqueue, hchiller, hwarm, hcold, hstart⟩ := commission_starts
        (s := { s with inputBuffer := (s.takeFrame (.commission h)).inputBuffer }) hh hw hq ha
      generalize (s.takeFrame (.commission h)).inputBuffer = b at *
      generalize State.commission { s with inputBuffer := b } = t at *
      exact ⟨congrArg (State.replied · _) hbase, htick, hbanks, hwait, fun p => hpos p ▸ openedPosition_place _ p,
        fun p => hpos p ▸ openedPosition_link _ p, hqueue, hchiller, hwarm, hcold, hstart⟩

end Sys2Proof.Machine
end
